-- ==== Sys2Proof/Word.lean ====
section
/-!
DEFINITION. The word types of the Intel386 SX (00_scope.md R13 to R15): bytes, words, doublewords, and the three operand widths.
-/
namespace Sys2Proof

/-- A byte, 8 bits (00_scope.md R13). -/
abbrev Byte := BitVec 8

/-- A word, 16 bits (00_scope.md R13). -/
abbrev Half := BitVec 16

/-- A doubleword, 32 bits (00_scope.md R13). -/
abbrev Word := BitVec 32

/-- The operand widths an instruction can work at (00_scope.md R15). -/
inductive Width where
  /-- 8 bits. -/
  | b8
  /-- 16 bits. -/
  | b16
  /-- 32 bits. -/
  | b32
deriving DecidableEq, Repr

/-- The width `n` in bits (00_scope.md R15). -/
abbrev Width.bits : Width → Nat
  | .b8 => 8
  | .b16 => 16
  | .b32 => 32

/-- The width `nb` in bytes (00_scope.md R15). -/
abbrev Width.bytes : Width → Nat
  | .b8 => 1
  | .b16 => 2
  | .b32 => 4

end Sys2Proof
end

