-- ==== Sys2Proof/Syntax.lean ====
section
/-!
DEFINITION. The instructions of the Intel386 SX: one constructor of `Instr` per row of spec/opcode_table.json (30_encoding.md R560,
R561), with the operand forms of sections 4 to 6 of 30_encoding.md; the rows with fields first, then those without.
-/
namespace Sys2Proof

/-- The general register field `reg` (30_encoding.md R520), by its 32-bit name. At 16 bits it is the low half of that register; at
8 bits codes 0 to 3 are AL, CL, DL, BL and codes 4 to 7 are AH, CH, DH, BH. -/
inductive Reg where
  | eax | ecx | edx | ebx | esp | ebp | esi | edi
deriving DecidableEq, Repr

/-- The segment register fields `sreg2` and `sreg3` (30_encoding.md R522). -/
inductive Seg where
  | es | cs | ss | ds | fs | gs
deriving DecidableEq, Repr

/-- The control registers an `eee` field can name (30_encoding.md R526). -/
inductive CReg where
  | cr0 | cr2 | cr3
deriving DecidableEq, Repr

/-- The debug registers an `eee` field can name (30_encoding.md R526). -/
inductive DReg where
  | dr0 | dr1 | dr2 | dr3 | dr6 | dr7
deriving DecidableEq, Repr

/-- The test registers an `eee` field can name (30_encoding.md R526). -/
inductive TReg where
  | tr6 | tr7
deriving DecidableEq, Repr

/-- The base and index registers of a 16-bit address, by the r/m field 000 to 111 (30_encoding.md R530). -/
inductive Base16 where
  | bxsi | bxdi | bpsi | bpdi | si | di | bp | bx
deriving DecidableEq, Repr

/-- The displacement of a based address: none (mod 00), one byte that is sign-extended (mod 01), or a full one of the address size
(mod 10) (30_encoding.md R530, R531). -/
inductive Disp where
  | none
  | d8 (v : Byte)
  | full (v : Word)
deriving DecidableEq, Repr

/-- A memory operand as a "mod r/m" byte with its s-i-b byte and displacement gives it (30_encoding.md R530, R531). -/
inductive MemRef where
  /-- 16-bit addressing, mod 00, r/m 110: a 16-bit offset. -/
  | direct16 (off : Half)
  /-- 16-bit addressing, every other form. -/
  | based16 (base : Base16) (disp : Disp)
  /-- 32-bit addressing without s-i-b byte, mod 00, r/m 101: a 32-bit offset. -/
  | direct32 (off : Word)
  /-- 32-bit addressing without s-i-b byte, every other form. -/
  | based32 (base : Reg) (disp : Disp)
  /-- 32-bit addressing with s-i-b byte; `index` is none for the index code 100 (R532). -/
  | sib (base : Reg) (index : Option Reg) (ss : BitVec 2) (disp : Disp)
  /-- 32-bit addressing with s-i-b byte, mod 00, base 101: no base register, a 32-bit displacement. -/
  | sibNoBase (index : Option Reg) (ss : BitVec 2) (off : Word)
deriving DecidableEq, Repr

/-- The operand that a "mod r/m" byte names (30_encoding.md R534): a register (mod 11) or memory. -/
inductive RM where
  | reg (r : Reg)
  | mem (m : MemRef)
deriving DecidableEq, Repr

/-- Which repeat prefix was the last one read (30_encoding.md R509). -/
inductive Rep where
  | rep | repne
deriving DecidableEq, Repr

/-- What the bytes of an instruction mean depends on: the operand size and address size in force (R511, R512) and the repeat prefix
already read (R509). -/
structure Ctx where
  /-- `osz` = 32. -/
  osz32 : Bool
  /-- `asz` = 32. -/
  asz32 : Bool
  /-- the last repeat prefix read, if any. -/
  rep : Option Rep
deriving DecidableEq, Repr

/-- One instruction. The fields are named after the table's letters: `d`, `s`, `w` (R521, R523, R524), `m` the operand of the
"mod r/m" byte, `r` the general register field, `g` the segment register field, `imm` immediate data as it stands in the
instruction, zero-extended (R540), `rel` a relative displacement (R541), `off`, `sel` a direct address or far pointer (R511, R542).
An undefined row keeps the mod and r/m bits of its "mod r/m" byte and no more: it is refused or raises #UD on them (R570). -/
inductive Instr where
  /-- MOV: register to register/memory (`1000100w mmrrrbbb`; 40_data_transfer.md R602). -/
  | movRmReg (w : Bool) (m : RM) (r : Reg)
  /-- MOV: register/memory to register (`1000101w mmrrrbbb`; 40_data_transfer.md R603). -/
  | movRegRm (w : Bool) (m : RM) (r : Reg)
  /-- MOV: immediate to register/memory (`1100011w mm000bbb`; 40_data_transfer.md R604). -/
  | movRmImm (w : Bool) (m : RM) (imm : Word)
  /-- MOV: immediate to register (short form) (`1011wrrr`; 40_data_transfer.md R605). -/
  | movRegImm (w : Bool) (r : Reg) (imm : Word)
  /-- MOV: memory to accumulator (short form) (`1010000w`; 40_data_transfer.md R606). -/
  | movAccMem (w : Bool) (off : Word)
  /-- MOV: accumulator to memory (short form) (`1010001w`; 40_data_transfer.md R607). -/
  | movMemAcc (w : Bool) (off : Word)
  /-- MOV: register/memory to segment register (`10001110 mmgggbbb`; 40_data_transfer.md R608). -/
  | movSegRm (m : RM) (g : Seg)
  /-- MOV: segment register to register/memory (`10001100 mmgggbbb`; 40_data_transfer.md R609). -/
  | movRmSeg (m : RM) (g : Seg)
  /-- MOVSX: register from register/memory (`00001111 1011111w mmrrrbbb`; 40_data_transfer.md R610). -/
  | movsx (w : Bool) (m : RM) (r : Reg)
  /-- MOVZX: register from register/memory (`00001111 1011011w mmrrrbbb`; 40_data_transfer.md R611). -/
  | movzx (w : Bool) (m : RM) (r : Reg)
  /-- PUSH: register/memory (`11111111 mm110bbb`; 40_data_transfer.md R614). -/
  | pushRm (m : RM)
  /-- PUSH: register (short form) (`01010rrr`; 40_data_transfer.md R615). -/
  | pushReg (r : Reg)
  /-- PUSH: segment register ES, CS, SS, DS (short form) (`000gg110`; 40_data_transfer.md R616). -/
  | pushSeg (g : Seg)
  /-- PUSH: immediate (`011010s0`; 40_data_transfer.md R618). -/
  | pushImm (s : Bool) (imm : Word)
  /-- POP: register/memory (`10001111 mm000bbb`; 40_data_transfer.md R620). -/
  | popRm (m : RM)
  /-- POP: register (short form) (`01011rrr`; 40_data_transfer.md R621). -/
  | popReg (r : Reg)
  /-- XCHG: register/memory with register (`1000011w mmrrrbbb`; 40_data_transfer.md R625). -/
  | xchgRmReg (w : Bool) (m : RM) (r : Reg)
  /-- XCHG: register with accumulator (short form) (`10010rrr`; 40_data_transfer.md R626). -/
  | xchgAccReg (r : Reg)
  /-- IN: fixed port (`1110010w`; 40_data_transfer.md R627). -/
  | inImm (w : Bool) (imm : Byte)
  /-- IN: variable port (DX) (`1110110w`; 40_data_transfer.md R628). -/
  | inDx (w : Bool)
  /-- OUT: fixed port (`1110011w`; 40_data_transfer.md R629). -/
  | outImm (w : Bool) (imm : Byte)
  /-- OUT: variable port (DX) (`1110111w`; 40_data_transfer.md R630). -/
  | outDx (w : Bool)
  /-- LEA: load effective address to register (`10001101 mmrrrbbb`; 40_data_transfer.md R631). -/
  | lea (m : RM) (r : Reg)
  /-- LDS: load pointer to DS (`11000101 mmrrrbbb`; 40_data_transfer.md R632). -/
  | lds (m : RM) (r : Reg)
  /-- LES: load pointer to ES (`11000100 mmrrrbbb`; 40_data_transfer.md R633). -/
  | les (m : RM) (r : Reg)
  /-- LFS: load pointer to FS (`00001111 10110100 mmrrrbbb`; 40_data_transfer.md R634). -/
  | lfs (m : RM) (r : Reg)
  /-- LGS: load pointer to GS (`00001111 10110101 mmrrrbbb`; 40_data_transfer.md R635). -/
  | lgs (m : RM) (r : Reg)
  /-- LSS: load pointer to SS (`00001111 10110010 mmrrrbbb`; 40_data_transfer.md R636). -/
  | lss (m : RM) (r : Reg)
  /-- ADD: register/memory with register (d = 0: to r/m; d = 1: to reg) (`000000dw mmrrrbbb`; 42_arithmetic.md R702). -/
  | addRmReg (d : Bool) (w : Bool) (m : RM) (r : Reg)
  /-- ADD: immediate to register/memory (`100000sw mm000bbb`; 42_arithmetic.md R702). -/
  | addRmImm (s : Bool) (w : Bool) (m : RM) (imm : Word)
  /-- ADD: immediate to accumulator (short form) (`0000010w`; 42_arithmetic.md R702). -/
  | addAccImm (w : Bool) (imm : Word)
  /-- ADC: register/memory with register (d = 0: to r/m; d = 1: to reg) (`000100dw mmrrrbbb`; 42_arithmetic.md R703). -/
  | adcRmReg (d : Bool) (w : Bool) (m : RM) (r : Reg)
  /-- ADC: immediate to register/memory (`100000sw mm010bbb`; 42_arithmetic.md R703). -/
  | adcRmImm (s : Bool) (w : Bool) (m : RM) (imm : Word)
  /-- ADC: immediate to accumulator (short form) (`0001010w`; 42_arithmetic.md R703). -/
  | adcAccImm (w : Bool) (imm : Word)
  /-- INC: register/memory (`1111111w mm000bbb`; 42_arithmetic.md R704). -/
  | incRm (w : Bool) (m : RM)
  /-- INC: register (short form) (`01000rrr`; 42_arithmetic.md R705). -/
  | incReg (r : Reg)
  /-- SUB: register/memory with register (d = 0: to r/m; d = 1: to reg) (`001010dw mmrrrbbb`; 42_arithmetic.md R706). -/
  | subRmReg (d : Bool) (w : Bool) (m : RM) (r : Reg)
  /-- SUB: immediate to register/memory (`100000sw mm101bbb`; 42_arithmetic.md R706). -/
  | subRmImm (s : Bool) (w : Bool) (m : RM) (imm : Word)
  /-- SUB: immediate to accumulator (short form) (`0010110w`; 42_arithmetic.md R706). -/
  | subAccImm (w : Bool) (imm : Word)
  /-- SBB: register/memory with register (d = 0: to r/m; d = 1: to reg) (`000110dw mmrrrbbb`; 42_arithmetic.md R707). -/
  | sbbRmReg (d : Bool) (w : Bool) (m : RM) (r : Reg)
  /-- SBB: immediate to register/memory (`100000sw mm011bbb`; 42_arithmetic.md R707). -/
  | sbbRmImm (s : Bool) (w : Bool) (m : RM) (imm : Word)
  /-- SBB: immediate to accumulator (short form) (`0001110w`; 42_arithmetic.md R707). -/
  | sbbAccImm (w : Bool) (imm : Word)
  /-- DEC: register/memory (`1111111w mm001bbb`; 42_arithmetic.md R708). -/
  | decRm (w : Bool) (m : RM)
  /-- DEC: register (short form) (`01001rrr`; 42_arithmetic.md R709). -/
  | decReg (r : Reg)
  /-- CMP: register/memory with register (d = 0: to r/m; d = 1: to reg) (`001110dw mmrrrbbb`; 42_arithmetic.md R710). -/
  | cmpRmReg (d : Bool) (w : Bool) (m : RM) (r : Reg)
  /-- CMP: immediate to register/memory (`100000sw mm111bbb`; 42_arithmetic.md R710). -/
  | cmpRmImm (s : Bool) (w : Bool) (m : RM) (imm : Word)
  /-- CMP: immediate to accumulator (short form) (`0011110w`; 42_arithmetic.md R710). -/
  | cmpAccImm (w : Bool) (imm : Word)
  /-- NEG: change sign of register/memory (`1111011w mm011bbb`; 42_arithmetic.md R711). -/
  | negRm (w : Bool) (m : RM)
  /-- MUL: accumulator with register/memory (unsigned) (`1111011w mm100bbb`; 42_arithmetic.md R716). -/
  | mulRm (w : Bool) (m : RM)
  /-- IMUL: accumulator with register/memory (signed) (`1111011w mm101bbb`; 42_arithmetic.md R717). -/
  | imulAcc (w : Bool) (m : RM)
  /-- IMUL: register with register/memory (`00001111 10101111 mmrrrbbb`; 42_arithmetic.md R718). -/
  | imulReg (m : RM) (r : Reg)
  /-- IMUL: register/memory with immediate to register (`011010s1 mmrrrbbb`; 42_arithmetic.md R719). -/
  | imulImm (s : Bool) (m : RM) (r : Reg) (imm : Word)
  /-- DIV: accumulator by register/memory (unsigned) (`1111011w mm110bbb`; 42_arithmetic.md R720). -/
  | divRm (w : Bool) (m : RM)
  /-- IDIV: accumulator by register/memory (signed) (`1111011w mm111bbb`; 42_arithmetic.md R721). -/
  | idivRm (w : Bool) (m : RM)
  /-- AAD: ASCII adjust for divide (`11010101`; 42_arithmetic.md R722). -/
  | aad (imm : Byte)
  /-- AAM: ASCII adjust for multiply (`11010100`; 42_arithmetic.md R723). -/
  | aam (imm : Byte)
  /-- ROL: register/memory by 1 (`1101000w mm000bbb`; 43_logic.md R761). -/
  | rolOne (w : Bool) (m : RM)
  /-- ROL: register/memory by CL (`1101001w mm000bbb`; 43_logic.md R761). -/
  | rolCl (w : Bool) (m : RM)
  /-- ROL: register/memory by immediate count (`1100000w mm000bbb`; 43_logic.md R761). -/
  | rolImm (w : Bool) (m : RM) (imm : Byte)
  /-- ROR: register/memory by 1 (`1101000w mm001bbb`; 43_logic.md R762). -/
  | rorOne (w : Bool) (m : RM)
  /-- ROR: register/memory by CL (`1101001w mm001bbb`; 43_logic.md R762). -/
  | rorCl (w : Bool) (m : RM)
  /-- ROR: register/memory by immediate count (`1100000w mm001bbb`; 43_logic.md R762). -/
  | rorImm (w : Bool) (m : RM) (imm : Byte)
  /-- RCL: register/memory by 1 (`1101000w mm010bbb`; 43_logic.md R763). -/
  | rclOne (w : Bool) (m : RM)
  /-- RCL: register/memory by CL (`1101001w mm010bbb`; 43_logic.md R763). -/
  | rclCl (w : Bool) (m : RM)
  /-- RCL: register/memory by immediate count (`1100000w mm010bbb`; 43_logic.md R763). -/
  | rclImm (w : Bool) (m : RM) (imm : Byte)
  /-- RCR: register/memory by 1 (`1101000w mm011bbb`; 43_logic.md R764). -/
  | rcrOne (w : Bool) (m : RM)
  /-- RCR: register/memory by CL (`1101001w mm011bbb`; 43_logic.md R764). -/
  | rcrCl (w : Bool) (m : RM)
  /-- RCR: register/memory by immediate count (`1100000w mm011bbb`; 43_logic.md R764). -/
  | rcrImm (w : Bool) (m : RM) (imm : Byte)
  /-- SHL: register/memory by 1 (`1101000w mm100bbb`; 43_logic.md R765). -/
  | shlOne (w : Bool) (m : RM)
  /-- SHL: register/memory by CL (`1101001w mm100bbb`; 43_logic.md R765). -/
  | shlCl (w : Bool) (m : RM)
  /-- SHL: register/memory by immediate count (`1100000w mm100bbb`; 43_logic.md R765). -/
  | shlImm (w : Bool) (m : RM) (imm : Byte)
  /-- SHR: register/memory by 1 (`1101000w mm101bbb`; 43_logic.md R766). -/
  | shrOne (w : Bool) (m : RM)
  /-- SHR: register/memory by CL (`1101001w mm101bbb`; 43_logic.md R766). -/
  | shrCl (w : Bool) (m : RM)
  /-- SHR: register/memory by immediate count (`1100000w mm101bbb`; 43_logic.md R766). -/
  | shrImm (w : Bool) (m : RM) (imm : Byte)
  /-- SAR: register/memory by 1 (`1101000w mm111bbb`; 43_logic.md R767). -/
  | sarOne (w : Bool) (m : RM)
  /-- SAR: register/memory by CL (`1101001w mm111bbb`; 43_logic.md R767). -/
  | sarCl (w : Bool) (m : RM)
  /-- SAR: register/memory by immediate count (`1100000w mm111bbb`; 43_logic.md R767). -/
  | sarImm (w : Bool) (m : RM) (imm : Byte)
  /-- SHLD: register/memory by immediate (`00001111 10100100 mmrrrbbb`; 43_logic.md R769). -/
  | shldImm (m : RM) (r : Reg) (imm : Byte)
  /-- SHLD: register/memory by CL (`00001111 10100101 mmrrrbbb`; 43_logic.md R769). -/
  | shldCl (m : RM) (r : Reg)
  /-- SHRD: register/memory by immediate (`00001111 10101100 mmrrrbbb`; 43_logic.md R770). -/
  | shrdImm (m : RM) (r : Reg) (imm : Byte)
  /-- SHRD: register/memory by CL (`00001111 10101101 mmrrrbbb`; 43_logic.md R770). -/
  | shrdCl (m : RM) (r : Reg)
  /-- AND: register/memory with register (d = 0: to r/m; d = 1: to reg) (`001000dw mmrrrbbb`; 43_logic.md R771). -/
  | andRmReg (d : Bool) (w : Bool) (m : RM) (r : Reg)
  /-- AND: immediate to register/memory (`100000sw mm100bbb`; 43_logic.md R771). -/
  | andRmImm (s : Bool) (w : Bool) (m : RM) (imm : Word)
  /-- AND: immediate to accumulator (short form) (`0010010w`; 43_logic.md R771). -/
  | andAccImm (w : Bool) (imm : Word)
  /-- TEST: register/memory and register (`1000010w mmrrrbbb`; 43_logic.md R772). -/
  | testRmReg (w : Bool) (m : RM) (r : Reg)
  /-- TEST: immediate data and register/memory (`1111011w mm000bbb`; 43_logic.md R772). -/
  | testRmImm (w : Bool) (m : RM) (imm : Word)
  /-- TEST: immediate data and accumulator (short form) (`1010100w`; 43_logic.md R772). -/
  | testAccImm (w : Bool) (imm : Word)
  /-- OR: register/memory with register (d = 0: to r/m; d = 1: to reg) (`000010dw mmrrrbbb`; 43_logic.md R773). -/
  | orRmReg (d : Bool) (w : Bool) (m : RM) (r : Reg)
  /-- OR: immediate to register/memory (`100000sw mm001bbb`; 43_logic.md R773). -/
  | orRmImm (s : Bool) (w : Bool) (m : RM) (imm : Word)
  /-- OR: immediate to accumulator (short form) (`0000110w`; 43_logic.md R773). -/
  | orAccImm (w : Bool) (imm : Word)
  /-- XOR: register/memory with register (d = 0: to r/m; d = 1: to reg) (`001100dw mmrrrbbb`; 43_logic.md R774). -/
  | xorRmReg (d : Bool) (w : Bool) (m : RM) (r : Reg)
  /-- XOR: immediate to register/memory (`100000sw mm110bbb`; 43_logic.md R774). -/
  | xorRmImm (s : Bool) (w : Bool) (m : RM) (imm : Word)
  /-- XOR: immediate to accumulator (short form) (`0011010w`; 43_logic.md R774). -/
  | xorAccImm (w : Bool) (imm : Word)
  /-- NOT: invert register/memory (`1111011w mm010bbb`; 43_logic.md R775). -/
  | notRm (w : Bool) (m : RM)
  /-- CMPS: compare byte/word/dword (`1010011w`; 44_string.md R804). -/
  | cmps (w : Bool)
  /-- INS: input byte/word/dword from DX port (`0110110w`; 44_string.md R806). -/
  | ins (w : Bool)
  /-- LODS: load byte/word/dword to AL/AX/EAX (`1010110w`; 44_string.md R807). -/
  | lods (w : Bool)
  /-- MOVS: move byte/word/dword (`1010010w`; 44_string.md R808). -/
  | movs (w : Bool)
  /-- OUTS: output byte/word/dword to DX port (`0110111w`; 44_string.md R810). -/
  | outs (w : Bool)
  /-- SCAS: scan byte/word/dword (`1010111w`; 44_string.md R811). -/
  | scas (w : Bool)
  /-- STOS: store byte/word/dword from AL/AX/EAX (`1010101w`; 44_string.md R812). -/
  | stos (w : Bool)
  /-- REPE_CMPS: repeat prefix then string instruction; other prefixes may stand between them (`11110011 1010011w`; 44_string.md R804). -/
  | repeCmps (w : Bool)
  /-- REPNE_CMPS: repeat prefix then string instruction; other prefixes may stand between them (`11110010 1010011w`; 44_string.md R804). -/
  | repneCmps (w : Bool)
  /-- REP_INS: repeat prefix then string instruction; other prefixes may stand between them (`11110011 0110110w`; 44_string.md R806). -/
  | repIns (w : Bool)
  /-- REP_LODS: repeat prefix then string instruction; other prefixes may stand between them (`11110011 1010110w`; 44_string.md R807). -/
  | repLods (w : Bool)
  /-- REP_MOVS: repeat prefix then string instruction; other prefixes may stand between them (`11110011 1010010w`; 44_string.md R808). -/
  | repMovs (w : Bool)
  /-- REP_OUTS: repeat prefix then string instruction; other prefixes may stand between them (`11110011 0110111w`; 44_string.md R810). -/
  | repOuts (w : Bool)
  /-- REPE_SCAS: repeat prefix then string instruction; other prefixes may stand between them (`11110011 1010111w`; 44_string.md R811). -/
  | repeScas (w : Bool)
  /-- REPNE_SCAS: repeat prefix then string instruction; other prefixes may stand between them (`11110010 1010111w`; 44_string.md R811). -/
  | repneScas (w : Bool)
  /-- REP_STOS: repeat prefix then string instruction; other prefixes may stand between them (`11110011 1010101w`; 44_string.md R812). -/
  | repStos (w : Bool)
  /-- BSF: scan bit forward (`00001111 10111100 mmrrrbbb`; 45_bit.md R841). -/
  | bsf (m : RM) (r : Reg)
  /-- BSR: scan bit reverse (`00001111 10111101 mmrrrbbb`; 45_bit.md R842). -/
  | bsr (m : RM) (r : Reg)
  /-- BT: register/memory, immediate (`00001111 10111010 mm100bbb`; 45_bit.md R843). -/
  | btRmImm (m : RM) (imm : Byte)
  /-- BT: register/memory, register (`00001111 10100011 mmrrrbbb`; 45_bit.md R843). -/
  | btRmReg (m : RM) (r : Reg)
  /-- BTC: register/memory, immediate (`00001111 10111010 mm111bbb`; 45_bit.md R844). -/
  | btcRmImm (m : RM) (imm : Byte)
  /-- BTC: register/memory, register (`00001111 10111011 mmrrrbbb`; 45_bit.md R844). -/
  | btcRmReg (m : RM) (r : Reg)
  /-- BTR: register/memory, immediate (`00001111 10111010 mm110bbb`; 45_bit.md R845). -/
  | btrRmImm (m : RM) (imm : Byte)
  /-- BTR: register/memory, register (`00001111 10110011 mmrrrbbb`; 45_bit.md R845). -/
  | btrRmReg (m : RM) (r : Reg)
  /-- BTS: register/memory, immediate (`00001111 10111010 mm101bbb`; 45_bit.md R846). -/
  | btsRmImm (m : RM) (imm : Byte)
  /-- BTS: register/memory, register (`00001111 10101011 mmrrrbbb`; 45_bit.md R846). -/
  | btsRmReg (m : RM) (r : Reg)
  /-- CALL: direct within segment (`11101000`; 46_control_transfer.md R861). -/
  | callRel (rel : Word)
  /-- CALL: register/memory indirect within segment (`11111111 mm010bbb`; 46_control_transfer.md R862). -/
  | callRm (m : RM)
  /-- CALL: direct intersegment (`10011010`; 46_control_transfer.md R863). -/
  | callFar (off : Word) (sel : Half)
  /-- CALL: indirect intersegment (`11111111 mm011bbb`; 46_control_transfer.md R864). -/
  | callFarMem (m : RM)
  /-- JMP: short (`11101011`; 46_control_transfer.md R866). -/
  | jmpShort (rel : Byte)
  /-- JMP: direct within segment (`11101001`; 46_control_transfer.md R867). -/
  | jmpRel (rel : Word)
  /-- JMP: register/memory indirect within segment (`11111111 mm100bbb`; 46_control_transfer.md R868). -/
  | jmpRm (m : RM)
  /-- JMP: direct intersegment (`11101010`; 46_control_transfer.md R869). -/
  | jmpFar (off : Word) (sel : Half)
  /-- JMP: indirect intersegment (`11111111 mm101bbb`; 46_control_transfer.md R870). -/
  | jmpFarMem (m : RM)
  /-- RET: within segment adding immediate to SP (`11000010`; 46_control_transfer.md R873). -/
  | retImm (imm : Half)
  /-- RET: intersegment adding immediate to SP (`11001010`; 46_control_transfer.md R875). -/
  | retfImm (imm : Half)
  /-- JO: 8-bit displacement; taken if OF = 1 (`01110000`; 46_control_transfer.md R877). -/
  | joShort (rel : Byte)
  /-- JNO: 8-bit displacement; taken if OF = 0 (`01110001`; 46_control_transfer.md R877). -/
  | jnoShort (rel : Byte)
  /-- JB: 8-bit displacement; taken if CF = 1 (`01110010`; 46_control_transfer.md R877). -/
  | jbShort (rel : Byte)
  /-- JNB: 8-bit displacement; taken if CF = 0 (`01110011`; 46_control_transfer.md R877). -/
  | jnbShort (rel : Byte)
  /-- JE: 8-bit displacement; taken if ZF = 1 (`01110100`; 46_control_transfer.md R877). -/
  | jeShort (rel : Byte)
  /-- JNE: 8-bit displacement; taken if ZF = 0 (`01110101`; 46_control_transfer.md R877). -/
  | jneShort (rel : Byte)
  /-- JBE: 8-bit displacement; taken if CF = 1 or ZF = 1 (`01110110`; 46_control_transfer.md R877). -/
  | jbeShort (rel : Byte)
  /-- JNBE: 8-bit displacement; taken if CF = 0 and ZF = 0 (`01110111`; 46_control_transfer.md R877). -/
  | jnbeShort (rel : Byte)
  /-- JS: 8-bit displacement; taken if SF = 1 (`01111000`; 46_control_transfer.md R877). -/
  | jsShort (rel : Byte)
  /-- JNS: 8-bit displacement; taken if SF = 0 (`01111001`; 46_control_transfer.md R877). -/
  | jnsShort (rel : Byte)
  /-- JP: 8-bit displacement; taken if PF = 1 (`01111010`; 46_control_transfer.md R877). -/
  | jpShort (rel : Byte)
  /-- JNP: 8-bit displacement; taken if PF = 0 (`01111011`; 46_control_transfer.md R877). -/
  | jnpShort (rel : Byte)
  /-- JL: 8-bit displacement; taken if SF != OF (`01111100`; 46_control_transfer.md R877). -/
  | jlShort (rel : Byte)
  /-- JNL: 8-bit displacement; taken if SF = OF (`01111101`; 46_control_transfer.md R877). -/
  | jnlShort (rel : Byte)
  /-- JLE: 8-bit displacement; taken if ZF = 1 or SF != OF (`01111110`; 46_control_transfer.md R877). -/
  | jleShort (rel : Byte)
  /-- JNLE: 8-bit displacement; taken if ZF = 0 and SF = OF (`01111111`; 46_control_transfer.md R877). -/
  | jnleShort (rel : Byte)
  /-- JO: full displacement; taken if OF = 1 (`00001111 10000000`; 46_control_transfer.md R878). -/
  | joNear (rel : Word)
  /-- JNO: full displacement; taken if OF = 0 (`00001111 10000001`; 46_control_transfer.md R878). -/
  | jnoNear (rel : Word)
  /-- JB: full displacement; taken if CF = 1 (`00001111 10000010`; 46_control_transfer.md R878). -/
  | jbNear (rel : Word)
  /-- JNB: full displacement; taken if CF = 0 (`00001111 10000011`; 46_control_transfer.md R878). -/
  | jnbNear (rel : Word)
  /-- JE: full displacement; taken if ZF = 1 (`00001111 10000100`; 46_control_transfer.md R878). -/
  | jeNear (rel : Word)
  /-- JNE: full displacement; taken if ZF = 0 (`00001111 10000101`; 46_control_transfer.md R878). -/
  | jneNear (rel : Word)
  /-- JBE: full displacement; taken if CF = 1 or ZF = 1 (`00001111 10000110`; 46_control_transfer.md R878). -/
  | jbeNear (rel : Word)
  /-- JNBE: full displacement; taken if CF = 0 and ZF = 0 (`00001111 10000111`; 46_control_transfer.md R878). -/
  | jnbeNear (rel : Word)
  /-- JS: full displacement; taken if SF = 1 (`00001111 10001000`; 46_control_transfer.md R878). -/
  | jsNear (rel : Word)
  /-- JNS: full displacement; taken if SF = 0 (`00001111 10001001`; 46_control_transfer.md R878). -/
  | jnsNear (rel : Word)
  /-- JP: full displacement; taken if PF = 1 (`00001111 10001010`; 46_control_transfer.md R878). -/
  | jpNear (rel : Word)
  /-- JNP: full displacement; taken if PF = 0 (`00001111 10001011`; 46_control_transfer.md R878). -/
  | jnpNear (rel : Word)
  /-- JL: full displacement; taken if SF != OF (`00001111 10001100`; 46_control_transfer.md R878). -/
  | jlNear (rel : Word)
  /-- JNL: full displacement; taken if SF = OF (`00001111 10001101`; 46_control_transfer.md R878). -/
  | jnlNear (rel : Word)
  /-- JLE: full displacement; taken if ZF = 1 or SF != OF (`00001111 10001110`; 46_control_transfer.md R878). -/
  | jleNear (rel : Word)
  /-- JNLE: full displacement; taken if ZF = 0 and SF = OF (`00001111 10001111`; 46_control_transfer.md R878). -/
  | jnleNear (rel : Word)
  /-- JCXZ: jump on CX zero (JECXZ with asz = 32) (`11100011`; 46_control_transfer.md R880). -/
  | jcxz (rel : Byte)
  /-- LOOP: loop CX times (`11100010`; 46_control_transfer.md R881). -/
  | loop (rel : Byte)
  /-- LOOPZ: loop with zero/equal (`11100001`; 46_control_transfer.md R882). -/
  | loopz (rel : Byte)
  /-- LOOPNZ: loop while not zero (`11100000`; 46_control_transfer.md R883). -/
  | loopnz (rel : Byte)
  /-- SETO: to register/memory; byte <- 1 if OF = 1 else 0 (`00001111 10010000 mm000bbb`; 47_setcc_enter_leave.md R900). -/
  | seto (m : RM)
  /-- SETNO: to register/memory; byte <- 1 if OF = 0 else 0 (`00001111 10010001 mm000bbb`; 47_setcc_enter_leave.md R900). -/
  | setno (m : RM)
  /-- SETB: to register/memory; byte <- 1 if CF = 1 else 0 (`00001111 10010010 mm000bbb`; 47_setcc_enter_leave.md R900). -/
  | setb (m : RM)
  /-- SETNB: to register/memory; byte <- 1 if CF = 0 else 0 (`00001111 10010011 mm000bbb`; 47_setcc_enter_leave.md R900). -/
  | setnb (m : RM)
  /-- SETE: to register/memory; byte <- 1 if ZF = 1 else 0 (`00001111 10010100 mm000bbb`; 47_setcc_enter_leave.md R900). -/
  | sete (m : RM)
  /-- SETNE: to register/memory; byte <- 1 if ZF = 0 else 0 (`00001111 10010101 mm000bbb`; 47_setcc_enter_leave.md R900). -/
  | setne (m : RM)
  /-- SETBE: to register/memory; byte <- 1 if CF = 1 or ZF = 1 else 0 (`00001111 10010110 mm000bbb`; 47_setcc_enter_leave.md R900). -/
  | setbe (m : RM)
  /-- SETNBE: to register/memory; byte <- 1 if CF = 0 and ZF = 0 else 0 (`00001111 10010111 mm000bbb`; 47_setcc_enter_leave.md R900). -/
  | setnbe (m : RM)
  /-- SETS: to register/memory; byte <- 1 if SF = 1 else 0 (`00001111 10011000 mm000bbb`; 47_setcc_enter_leave.md R900). -/
  | sets (m : RM)
  /-- SETNS: to register/memory; byte <- 1 if SF = 0 else 0 (`00001111 10011001 mm000bbb`; 47_setcc_enter_leave.md R900). -/
  | setns (m : RM)
  /-- SETP: to register/memory; byte <- 1 if PF = 1 else 0 (`00001111 10011010 mm000bbb`; 47_setcc_enter_leave.md R900). -/
  | setp (m : RM)
  /-- SETNP: to register/memory; byte <- 1 if PF = 0 else 0 (`00001111 10011011 mm000bbb`; 47_setcc_enter_leave.md R900). -/
  | setnp (m : RM)
  /-- SETL: to register/memory; byte <- 1 if SF != OF else 0 (`00001111 10011100 mm000bbb`; 47_setcc_enter_leave.md R900). -/
  | setl (m : RM)
  /-- SETNL: to register/memory; byte <- 1 if SF = OF else 0 (`00001111 10011101 mm000bbb`; 47_setcc_enter_leave.md R900). -/
  | setnl (m : RM)
  /-- SETLE: to register/memory; byte <- 1 if ZF = 1 or SF != OF else 0 (`00001111 10011110 mm000bbb`; 47_setcc_enter_leave.md R900). -/
  | setle (m : RM)
  /-- SETNLE: to register/memory; byte <- 1 if ZF = 0 and SF = OF else 0 (`00001111 10011111 mm000bbb`; 47_setcc_enter_leave.md R900). -/
  | setnle (m : RM)
  /-- ENTER: enter procedure (`11001000`; 47_setcc_enter_leave.md R901). -/
  | enter (imm : Half) (level : Byte)
  /-- INT: type specified (`11001101`; 48_interrupt_instructions.md R920). -/
  | intN (imm : Byte)
  /-- BOUND: interrupt 5 if detect value out of range (`01100010 mmrrrbbb`; 48_interrupt_instructions.md R923). -/
  | bound (m : RM) (r : Reg)
  /-- MOV: CR0/CR2/CR3 from register (`00001111 00100010 11eeerrr`; 49_system.md R955). -/
  | movCrReg (c : CReg) (r : Reg)
  /-- MOV: register from CR0/CR2/CR3 (`00001111 00100000 11eeerrr`; 49_system.md R956). -/
  | movRegCr (c : CReg) (r : Reg)
  /-- MOV: DR0-3, DR6-7 from register (`00001111 00100011 11eeerrr`; 49_system.md R957). -/
  | movDrReg (c : DReg) (r : Reg)
  /-- MOV: register from DR0-3, DR6-7 (`00001111 00100001 11eeerrr`; 49_system.md R958). -/
  | movRegDr (c : DReg) (r : Reg)
  /-- MOV: TR6-7 from register (`00001111 00100110 11eeerrr`; 49_system.md R959). -/
  | movTrReg (c : TReg) (r : Reg)
  /-- MOV: register from TR6-7 (`00001111 00100100 11eeerrr`; 49_system.md R960). -/
  | movRegTr (c : TReg) (r : Reg)
  /-- ESC: processor extension escape (`11011xxx mmyyybbb`; 49_system.md R975). -/
  | esc (ttt : BitVec 3) (lll : BitVec 3) (m : RM)
  /-- ARPL: adjust requested privilege level from register/memory (`01100011 mmrrrbbb`; 49_system.md R985). -/
  | arpl (m : RM) (r : Reg)
  /-- LAR: load access rights from register/memory (`00001111 00000010 mmrrrbbb`; 49_system.md R986). -/
  | lar (m : RM) (r : Reg)
  /-- LGDT: load global descriptor table register (`00001111 00000001 mm010bbb`; 49_system.md R987). -/
  | lgdt (m : RM)
  /-- LIDT: load interrupt descriptor table register (`00001111 00000001 mm011bbb`; 49_system.md R988). -/
  | lidt (m : RM)
  /-- LLDT: load local descriptor table register from register/memory (`00001111 00000000 mm010bbb`; 49_system.md R989). -/
  | lldt (m : RM)
  /-- LMSW: load machine status word from register/memory (`00001111 00000001 mm110bbb`; 49_system.md R990). -/
  | lmsw (m : RM)
  /-- LSL: load segment limit from register/memory (`00001111 00000011 mmrrrbbb`; 49_system.md R991). -/
  | lsl (m : RM) (r : Reg)
  /-- LTR: load task register from register/memory (`00001111 00000000 mm011bbb`; 49_system.md R992). -/
  | ltr (m : RM)
  /-- SGDT: store global descriptor table register (`00001111 00000001 mm000bbb`; 49_system.md R993). -/
  | sgdt (m : RM)
  /-- SIDT: store interrupt descriptor table register (`00001111 00000001 mm001bbb`; 49_system.md R994). -/
  | sidt (m : RM)
  /-- SLDT: store local descriptor table register to register/memory (`00001111 00000000 mm000bbb`; 49_system.md R995). -/
  | sldt (m : RM)
  /-- SMSW: store machine status word (`00001111 00000001 mm100bbb`; 49_system.md R996). -/
  | smsw (m : RM)
  /-- STR: store task register to register/memory (`00001111 00000000 mm001bbb`; 49_system.md R997). -/
  | str (m : RM)
  /-- VERR: verify read access, register/memory (`00001111 00000000 mm100bbb`; 49_system.md R998). -/
  | verr (m : RM)
  /-- VERW: verify write access (`00001111 00000000 mm101bbb`; 49_system.md R999). -/
  | verw (m : RM)
  /-- (undefined): 8FH /1 (`10001111 mm001bbb`; 30_encoding.md R570). -/
  | und8F1 (md : BitVec 2) (rm : BitVec 3)
  /-- (undefined): 8FH /2 (`10001111 mm010bbb`; 30_encoding.md R570). -/
  | und8F2 (md : BitVec 2) (rm : BitVec 3)
  /-- (undefined): 8FH /3 (`10001111 mm011bbb`; 30_encoding.md R570). -/
  | und8F3 (md : BitVec 2) (rm : BitVec 3)
  /-- (undefined): 8FH /4 (`10001111 mm100bbb`; 30_encoding.md R570). -/
  | und8F4 (md : BitVec 2) (rm : BitVec 3)
  /-- (undefined): 8FH /5 (`10001111 mm101bbb`; 30_encoding.md R570). -/
  | und8F5 (md : BitVec 2) (rm : BitVec 3)
  /-- (undefined): 8FH /6 (`10001111 mm110bbb`; 30_encoding.md R570). -/
  | und8F6 (md : BitVec 2) (rm : BitVec 3)
  /-- (undefined): 8FH /7 (`10001111 mm111bbb`; 30_encoding.md R570). -/
  | und8F7 (md : BitVec 2) (rm : BitVec 3)
  /-- (undefined): C6H, C7H /1 (`1100011w mm001bbb`; 30_encoding.md R570). -/
  | undC61 (w : Bool) (md : BitVec 2) (rm : BitVec 3)
  /-- (undefined): C6H, C7H /2 (`1100011w mm010bbb`; 30_encoding.md R570). -/
  | undC62 (w : Bool) (md : BitVec 2) (rm : BitVec 3)
  /-- (undefined): C6H, C7H /3 (`1100011w mm011bbb`; 30_encoding.md R570). -/
  | undC63 (w : Bool) (md : BitVec 2) (rm : BitVec 3)
  /-- (undefined): C6H, C7H /4 (`1100011w mm100bbb`; 30_encoding.md R570). -/
  | undC64 (w : Bool) (md : BitVec 2) (rm : BitVec 3)
  /-- (undefined): C6H, C7H /5 (`1100011w mm101bbb`; 30_encoding.md R570). -/
  | undC65 (w : Bool) (md : BitVec 2) (rm : BitVec 3)
  /-- (undefined): C6H, C7H /6 (`1100011w mm110bbb`; 30_encoding.md R570). -/
  | undC66 (w : Bool) (md : BitVec 2) (rm : BitVec 3)
  /-- (undefined): C6H, C7H /7 (`1100011w mm111bbb`; 30_encoding.md R570). -/
  | undC67 (w : Bool) (md : BitVec 2) (rm : BitVec 3)
  /-- (undefined): FEH /2 (`11111110 mm010bbb`; 30_encoding.md R570). -/
  | undFE2 (md : BitVec 2) (rm : BitVec 3)
  /-- (undefined): FEH /3 (`11111110 mm011bbb`; 30_encoding.md R570). -/
  | undFE3 (md : BitVec 2) (rm : BitVec 3)
  /-- (undefined): FEH /4 (`11111110 mm100bbb`; 30_encoding.md R570). -/
  | undFE4 (md : BitVec 2) (rm : BitVec 3)
  /-- (undefined): FEH /5 (`11111110 mm101bbb`; 30_encoding.md R570). -/
  | undFE5 (md : BitVec 2) (rm : BitVec 3)
  /-- (undefined): FEH /6 (`11111110 mm110bbb`; 30_encoding.md R570). -/
  | undFE6 (md : BitVec 2) (rm : BitVec 3)
  /-- (undefined): FEH /7 (`11111110 mm111bbb`; 30_encoding.md R570). -/
  | undFE7 (md : BitVec 2) (rm : BitVec 3)
  /-- (undefined): FFH /7 (`11111111 mm111bbb`; 30_encoding.md R570). -/
  | undFF7 (md : BitVec 2) (rm : BitVec 3)
  /-- (undefined): 0F 00H /6 (`00001111 00000000 mm110bbb`; 49_system.md R1000). -/
  | und0F006 (md : BitVec 2) (rm : BitVec 3)
  /-- (undefined): 0F 00H /7 (`00001111 00000000 mm111bbb`; 49_system.md R1000). -/
  | und0F007 (md : BitVec 2) (rm : BitVec 3)
  /-- (undefined): 0F 01H /5 (`00001111 00000001 mm101bbb`; 49_system.md R1000). -/
  | und0F015 (md : BitVec 2) (rm : BitVec 3)
  /-- (undefined): 0F 01H /7 (`00001111 00000001 mm111bbb`; 49_system.md R1000). -/
  | und0F017 (md : BitVec 2) (rm : BitVec 3)
  /-- (undefined): 0F BAH /0 (`00001111 10111010 mm000bbb`; 30_encoding.md R570). -/
  | und0FBA0 (md : BitVec 2) (rm : BitVec 3)
  /-- (undefined): 0F BAH /1 (`00001111 10111010 mm001bbb`; 30_encoding.md R570). -/
  | und0FBA1 (md : BitVec 2) (rm : BitVec 3)
  /-- (undefined): 0F BAH /2 (`00001111 10111010 mm010bbb`; 30_encoding.md R570). -/
  | und0FBA2 (md : BitVec 2) (rm : BitVec 3)
  /-- (undefined): 0F BAH /3 (`00001111 10111010 mm011bbb`; 30_encoding.md R570). -/
  | und0FBA3 (md : BitVec 2) (rm : BitVec 3)
  /-- (undefined): shift group by 1 or CL, /6 (`110100dw mm110bbb`; 43_logic.md R768). -/
  | undShift6 (d : Bool) (w : Bool) (md : BitVec 2) (rm : BitVec 3)
  /-- (undefined): shift group by immediate, /6 (`1100000w mm110bbb`; 43_logic.md R768). -/
  | undShiftImm6 (w : Bool) (md : BitVec 2) (rm : BitVec 3)
  /-- (undefined): F6H, F7H /1 (`1111011w mm001bbb`; 30_encoding.md R570). -/
  | undF61 (w : Bool) (md : BitVec 2) (rm : BitVec 3)
  /-- PUSH: segment register FS (pattern 00001111 10 sreg3 000, sreg3 = 100) (`00001111 10100000`; 40_data_transfer.md R617). -/
  | pushFs
  /-- PUSH: segment register GS (pattern 00001111 10 sreg3 000, sreg3 = 101) (`00001111 10101000`; 40_data_transfer.md R617). -/
  | pushGs
  /-- PUSHA: push all (PUSHAD with osz = 32) (`01100000`; 40_data_transfer.md R619). -/
  | pusha
  /-- POP: segment register ES (short form; pattern 000 sreg2 111, sreg2 = 00; sreg2 = 01 would be byte 0FH, the two-byte escape: 30_encoding.md rule R572) (`00000111`; 40_data_transfer.md R622). -/
  | popEs
  /-- POP: segment register SS (short form; pattern 000 sreg2 111, sreg2 = 10; sreg2 = 01 would be byte 0FH, the two-byte escape: 30_encoding.md rule R572) (`00010111`; 40_data_transfer.md R622). -/
  | popSs
  /-- POP: segment register DS (short form; pattern 000 sreg2 111, sreg2 = 11; sreg2 = 01 would be byte 0FH, the two-byte escape: 30_encoding.md rule R572) (`00011111`; 40_data_transfer.md R622). -/
  | popDs
  /-- POP: segment register FS (pattern 00001111 10 sreg3 001, sreg3 = 100) (`00001111 10100001`; 40_data_transfer.md R623). -/
  | popFs
  /-- POP: segment register GS (pattern 00001111 10 sreg3 001, sreg3 = 101) (`00001111 10101001`; 40_data_transfer.md R623). -/
  | popGs
  /-- POPA: pop all (POPAD with osz = 32) (`01100001`; 40_data_transfer.md R624). -/
  | popa
  /-- CLC: clear carry flag (`11111000`; 41_flag_control.md R670). -/
  | clc
  /-- CLD: clear direction flag (`11111100`; 41_flag_control.md R671). -/
  | cld
  /-- CLI: clear interrupt enable flag (`11111010`; 41_flag_control.md R672). -/
  | cli
  /-- CLTS: clear task switched flag (`00001111 00000110`; 41_flag_control.md R673). -/
  | clts
  /-- CMC: complement carry flag (`11110101`; 41_flag_control.md R674). -/
  | cmc
  /-- LAHF: load AH from flags (`10011111`; 41_flag_control.md R675). -/
  | lahf
  /-- POPF: pop flags (POPFD with osz = 32) (`10011101`; 41_flag_control.md R678). -/
  | popf
  /-- PUSHF: push flags (PUSHFD with osz = 32) (`10011100`; 41_flag_control.md R676). -/
  | pushf
  /-- SAHF: store AH into flags (`10011110`; 41_flag_control.md R677). -/
  | sahf
  /-- STC: set carry flag (`11111001`; 41_flag_control.md R679). -/
  | stc
  /-- STD: set direction flag (`11111101`; 41_flag_control.md R680). -/
  | std
  /-- STI: set interrupt enable flag (`11111011`; 41_flag_control.md R681). -/
  | sti
  /-- AAA: ASCII adjust for add (`00110111`; 42_arithmetic.md R712). -/
  | aaa
  /-- AAS: ASCII adjust for subtract (`00111111`; 42_arithmetic.md R713). -/
  | aas
  /-- DAA: decimal adjust for add (`00100111`; 42_arithmetic.md R714). -/
  | daa
  /-- DAS: decimal adjust for subtract (`00101111`; 42_arithmetic.md R715). -/
  | das
  /-- CBW: convert byte to word (CWDE with osz = 32) (`10011000`; 42_arithmetic.md R724). -/
  | cbw
  /-- CWD: convert word to doubleword (CDQ with osz = 32) (`10011001`; 42_arithmetic.md R725). -/
  | cwd
  /-- XLAT: translate string (`11010111`; 44_string.md R813). -/
  | xlat
  /-- RET: within segment (`11000011`; 46_control_transfer.md R872). -/
  | ret
  /-- RET: intersegment (`11001011`; 46_control_transfer.md R874). -/
  | retf
  /-- LEAVE: leave procedure (`11001001`; 47_setcc_enter_leave.md R902). -/
  | leave
  /-- INT_3: type 3 (breakpoint) (`11001100`; 48_interrupt_instructions.md R921). -/
  | int3
  /-- INTO: interrupt 4 if overflow flag set (`11001110`; 48_interrupt_instructions.md R922). -/
  | into
  /-- IRET: interrupt return (IRETD with osz = 32) (`11001111`; 48_interrupt_instructions.md R930). -/
  | iret
  /-- HLT: halt (`11110100`; 49_system.md R950). -/
  | hlt
  /-- NOP: no operation (`10010000`; 49_system.md R965). -/
  | nop
  /-- WAIT: wait until BUSY# pin is negated (`10011011`; 49_system.md R966). -/
  | wait
  /-- ADDRSIZE: address size prefix (67H) (`01100111`; 30_encoding.md R507). -/
  | pfxAddrSize
  /-- LOCK: bus lock prefix (F0H) (`11110000`; 30_encoding.md R508). -/
  | pfxLock
  /-- OPSIZE: operand size prefix (66H) (`01100110`; 30_encoding.md R506). -/
  | pfxOpSize
  /-- CS:: segment override prefix (`00101110`; 30_encoding.md R505). -/
  | pfxCs
  /-- DS:: segment override prefix (`00111110`; 30_encoding.md R505). -/
  | pfxDs
  /-- ES:: segment override prefix (`00100110`; 30_encoding.md R505). -/
  | pfxEs
  /-- FS:: segment override prefix (`01100100`; 30_encoding.md R505). -/
  | pfxFs
  /-- GS:: segment override prefix (`01100101`; 30_encoding.md R505). -/
  | pfxGs
  /-- SS:: segment override prefix (`00110110`; 30_encoding.md R505). -/
  | pfxSs
  /-- REP_REPE: repeat prefix (F3H) (`11110011`; 30_encoding.md R509). -/
  | pfxRep
  /-- REPNE: repeat prefix (F2H) (`11110010`; 30_encoding.md R509). -/
  | pfxRepne
  /-- (undefined): D6H (`11010110`; 30_encoding.md R570). -/
  | undD6
  /-- (undefined): F1H (`11110001`; 30_encoding.md R570). -/
  | undF1
  /-- (undefined): 0F 05H (`00001111 00000101`; 30_encoding.md R570). -/
  | und0F05
  /-- (undefined): 0F 07H (`00001111 00000111`; 30_encoding.md R570). -/
  | und0F07
  /-- (undefined): 0F A6H (`00001111 10100110`; 30_encoding.md R570). -/
  | und0FA6
  /-- (undefined): 0F A7H (`00001111 10100111`; 30_encoding.md R570). -/
  | und0FA7
deriving DecidableEq, Repr

end Sys2Proof
end

