-- ==== Sys2Proof/WellFormed.lean ====
section
/-!
DEFINITION. Which terms of `Instr` stand for an encoding, in a given context of operand size, address size and repeat prefix: every
field within what its bits can hold, and no form that other bytes mean (30_encoding.md sections 4 to 7).
-/
namespace Sys2Proof

/-- `v` is the zero extension of `bits` bits. -/
def Word.fits (v : Word) (bits : Nat) : Bool := decide (v.toNat < 2 ^ bits)

/-- The length in bits of immediate data with `w`: 8, or the operand size (R512, R540). -/
def Ctx.immBits (c : Ctx) (w : Bool) : Nat := if w then (if c.osz32 then 32 else 16) else 8

/-- The length in bits of immediate data with `s` and `w` (R524). -/
def Ctx.immsBits (c : Ctx) (s w : Bool) : Nat := if s then 8 else c.immBits w

/-- The operand size in bits (R512). -/
def Ctx.oszBits (c : Ctx) : Nat := if c.osz32 then 32 else 16

/-- The address size in bits (R511). -/
def Ctx.aszBits (c : Ctx) : Nat := if c.asz32 then 32 else 16

/-- A displacement fits the address size (R530, R531). -/
def Disp.wf (bits : Nat) : Disp → Bool
  | .none => true
  | .d8 _ => true
  | .full v => Word.fits v bits

/-- The tables of R530 and R531 hold the form: 16-bit forms at address size 16 only, a base BP or EBP only with a displacement, ESP
as a base only with a s-i-b byte, no ESP index. -/
def MemRef.wf (c : Ctx) : MemRef → Bool
  | .direct16 _ => !c.asz32
  | .based16 b d => !c.asz32 && d.wf 16 && !(b == .bp && d == .none)
  | .direct32 _ => c.asz32
  | .based32 b d => c.asz32 && b != .esp && !(b == .ebp && d == .none)
  | .sib b i _ d => c.asz32 && i != some .esp && !(b == .ebp && d == .none)
  | .sibNoBase i _ _ => c.asz32 && i != some .esp

/-- A register operand is always encodable, a memory operand as `MemRef.wf` says (R534). -/
def RM.wf (c : Ctx) : RM → Bool
  | .reg _ => true
  | .mem m => m.wf c

/-- The instruction stands for bytes that mean it in the context `c`. -/
def Instr.wf (c : Ctx) : Instr → Bool
  | .movRmReg _ m _ => m.wf c
  | .movRegRm _ m _ => m.wf c
  | .movRmImm w m imm => m.wf c && Word.fits imm (c.immBits w)
  | .movRegImm w _ imm => Word.fits imm (c.immBits w)
  | .movAccMem _ off => Word.fits off c.aszBits
  | .movMemAcc _ off => Word.fits off c.aszBits
  | .movSegRm m _ => m.wf c
  | .movRmSeg m _ => m.wf c
  | .movsx _ m _ => m.wf c
  | .movzx _ m _ => m.wf c
  | .pushRm m => m.wf c
  | .pushReg _ => true
  | .pushSeg g => g != .fs && g != .gs
  | .pushFs => true
  | .pushGs => true
  | .pushImm s imm => Word.fits imm (c.immsBits s true)
  | .pusha => true
  | .popRm m => m.wf c
  | .popReg _ => true
  | .popEs => true
  | .popSs => true
  | .popDs => true
  | .popFs => true
  | .popGs => true
  | .popa => true
  | .xchgRmReg _ m _ => m.wf c
  | .xchgAccReg r => r != .eax
  | .inImm _ _ => true
  | .inDx _ => true
  | .outImm _ _ => true
  | .outDx _ => true
  | .lea m _ => m.wf c
  | .lds m _ => m.wf c
  | .les m _ => m.wf c
  | .lfs m _ => m.wf c
  | .lgs m _ => m.wf c
  | .lss m _ => m.wf c
  | .clc => true
  | .cld => true
  | .cli => true
  | .clts => true
  | .cmc => true
  | .lahf => true
  | .popf => true
  | .pushf => true
  | .sahf => true
  | .stc => true
  | .std => true
  | .sti => true
  | .addRmReg _ _ m _ => m.wf c
  | .addRmImm s w m imm => m.wf c && Word.fits imm (c.immsBits s w)
  | .addAccImm w imm => Word.fits imm (c.immBits w)
  | .adcRmReg _ _ m _ => m.wf c
  | .adcRmImm s w m imm => m.wf c && Word.fits imm (c.immsBits s w)
  | .adcAccImm w imm => Word.fits imm (c.immBits w)
  | .incRm _ m => m.wf c
  | .incReg _ => true
  | .subRmReg _ _ m _ => m.wf c
  | .subRmImm s w m imm => m.wf c && Word.fits imm (c.immsBits s w)
  | .subAccImm w imm => Word.fits imm (c.immBits w)
  | .sbbRmReg _ _ m _ => m.wf c
  | .sbbRmImm s w m imm => m.wf c && Word.fits imm (c.immsBits s w)
  | .sbbAccImm w imm => Word.fits imm (c.immBits w)
  | .decRm _ m => m.wf c
  | .decReg _ => true
  | .cmpRmReg _ _ m _ => m.wf c
  | .cmpRmImm s w m imm => m.wf c && Word.fits imm (c.immsBits s w)
  | .cmpAccImm w imm => Word.fits imm (c.immBits w)
  | .negRm _ m => m.wf c
  | .aaa => true
  | .aas => true
  | .daa => true
  | .das => true
  | .mulRm _ m => m.wf c
  | .imulAcc _ m => m.wf c
  | .imulReg m _ => m.wf c
  | .imulImm s m _ imm => m.wf c && Word.fits imm (c.immsBits s true)
  | .divRm _ m => m.wf c
  | .idivRm _ m => m.wf c
  | .aad _ => true
  | .aam _ => true
  | .cbw => true
  | .cwd => true
  | .rolOne _ m => m.wf c
  | .rolCl _ m => m.wf c
  | .rolImm _ m _ => m.wf c
  | .rorOne _ m => m.wf c
  | .rorCl _ m => m.wf c
  | .rorImm _ m _ => m.wf c
  | .rclOne _ m => m.wf c
  | .rclCl _ m => m.wf c
  | .rclImm _ m _ => m.wf c
  | .rcrOne _ m => m.wf c
  | .rcrCl _ m => m.wf c
  | .rcrImm _ m _ => m.wf c
  | .shlOne _ m => m.wf c
  | .shlCl _ m => m.wf c
  | .shlImm _ m _ => m.wf c
  | .shrOne _ m => m.wf c
  | .shrCl _ m => m.wf c
  | .shrImm _ m _ => m.wf c
  | .sarOne _ m => m.wf c
  | .sarCl _ m => m.wf c
  | .sarImm _ m _ => m.wf c
  | .shldImm m _ _ => m.wf c
  | .shldCl m _ => m.wf c
  | .shrdImm m _ _ => m.wf c
  | .shrdCl m _ => m.wf c
  | .andRmReg _ _ m _ => m.wf c
  | .andRmImm s w m imm => m.wf c && Word.fits imm (c.immsBits s w)
  | .andAccImm w imm => Word.fits imm (c.immBits w)
  | .testRmReg _ m _ => m.wf c
  | .testRmImm w m imm => m.wf c && Word.fits imm (c.immBits w)
  | .testAccImm w imm => Word.fits imm (c.immBits w)
  | .orRmReg _ _ m _ => m.wf c
  | .orRmImm s w m imm => m.wf c && Word.fits imm (c.immsBits s w)
  | .orAccImm w imm => Word.fits imm (c.immBits w)
  | .xorRmReg _ _ m _ => m.wf c
  | .xorRmImm s w m imm => m.wf c && Word.fits imm (c.immsBits s w)
  | .xorAccImm w imm => Word.fits imm (c.immBits w)
  | .notRm _ m => m.wf c
  | .cmps _ => c.rep == none
  | .ins _ => c.rep == none
  | .lods _ => c.rep == none
  | .movs _ => c.rep == none
  | .outs _ => c.rep == none
  | .scas _ => c.rep == none
  | .stos _ => c.rep == none
  | .xlat => true
  | .repeCmps _ => true
  | .repneCmps _ => true
  | .repIns _ => true
  | .repLods _ => true
  | .repMovs _ => true
  | .repOuts _ => true
  | .repeScas _ => true
  | .repneScas _ => true
  | .repStos _ => true
  | .bsf m _ => m.wf c
  | .bsr m _ => m.wf c
  | .btRmImm m _ => m.wf c
  | .btRmReg m _ => m.wf c
  | .btcRmImm m _ => m.wf c
  | .btcRmReg m _ => m.wf c
  | .btrRmImm m _ => m.wf c
  | .btrRmReg m _ => m.wf c
  | .btsRmImm m _ => m.wf c
  | .btsRmReg m _ => m.wf c
  | .callRel rel => Word.fits rel c.oszBits
  | .callRm m => m.wf c
  | .callFar off _ => Word.fits off c.oszBits
  | .callFarMem m => m.wf c
  | .jmpShort _ => true
  | .jmpRel rel => Word.fits rel c.oszBits
  | .jmpRm m => m.wf c
  | .jmpFar off _ => Word.fits off c.oszBits
  | .jmpFarMem m => m.wf c
  | .ret => true
  | .retImm _ => true
  | .retf => true
  | .retfImm _ => true
  | .joShort _ => true
  | .jnoShort _ => true
  | .jbShort _ => true
  | .jnbShort _ => true
  | .jeShort _ => true
  | .jneShort _ => true
  | .jbeShort _ => true
  | .jnbeShort _ => true
  | .jsShort _ => true
  | .jnsShort _ => true
  | .jpShort _ => true
  | .jnpShort _ => true
  | .jlShort _ => true
  | .jnlShort _ => true
  | .jleShort _ => true
  | .jnleShort _ => true
  | .joNear rel => Word.fits rel c.oszBits
  | .jnoNear rel => Word.fits rel c.oszBits
  | .jbNear rel => Word.fits rel c.oszBits
  | .jnbNear rel => Word.fits rel c.oszBits
  | .jeNear rel => Word.fits rel c.oszBits
  | .jneNear rel => Word.fits rel c.oszBits
  | .jbeNear rel => Word.fits rel c.oszBits
  | .jnbeNear rel => Word.fits rel c.oszBits
  | .jsNear rel => Word.fits rel c.oszBits
  | .jnsNear rel => Word.fits rel c.oszBits
  | .jpNear rel => Word.fits rel c.oszBits
  | .jnpNear rel => Word.fits rel c.oszBits
  | .jlNear rel => Word.fits rel c.oszBits
  | .jnlNear rel => Word.fits rel c.oszBits
  | .jleNear rel => Word.fits rel c.oszBits
  | .jnleNear rel => Word.fits rel c.oszBits
  | .jcxz _ => true
  | .loop _ => true
  | .loopz _ => true
  | .loopnz _ => true
  | .seto m => m.wf c
  | .setno m => m.wf c
  | .setb m => m.wf c
  | .setnb m => m.wf c
  | .sete m => m.wf c
  | .setne m => m.wf c
  | .setbe m => m.wf c
  | .setnbe m => m.wf c
  | .sets m => m.wf c
  | .setns m => m.wf c
  | .setp m => m.wf c
  | .setnp m => m.wf c
  | .setl m => m.wf c
  | .setnl m => m.wf c
  | .setle m => m.wf c
  | .setnle m => m.wf c
  | .enter _ _ => true
  | .leave => true
  | .intN _ => true
  | .int3 => true
  | .into => true
  | .bound m _ => m.wf c
  | .iret => true
  | .hlt => true
  | .movCrReg _ _ => true
  | .movRegCr _ _ => true
  | .movDrReg _ _ => true
  | .movRegDr _ _ => true
  | .movTrReg _ _ => true
  | .movRegTr _ _ => true
  | .nop => true
  | .wait => true
  | .esc _ _ m => m.wf c
  | .pfxAddrSize => true
  | .pfxLock => true
  | .pfxOpSize => true
  | .pfxCs => true
  | .pfxDs => true
  | .pfxEs => true
  | .pfxFs => true
  | .pfxGs => true
  | .pfxSs => true
  | .pfxRep => true
  | .pfxRepne => true
  | .arpl m _ => m.wf c
  | .lar m _ => m.wf c
  | .lgdt m => m.wf c
  | .lidt m => m.wf c
  | .lldt m => m.wf c
  | .lmsw m => m.wf c
  | .lsl m _ => m.wf c
  | .ltr m => m.wf c
  | .sgdt m => m.wf c
  | .sidt m => m.wf c
  | .sldt m => m.wf c
  | .smsw m => m.wf c
  | .str m => m.wf c
  | .verr m => m.wf c
  | .verw m => m.wf c
  | .und8F1 _ _ => true
  | .und8F2 _ _ => true
  | .und8F3 _ _ => true
  | .und8F4 _ _ => true
  | .und8F5 _ _ => true
  | .und8F6 _ _ => true
  | .und8F7 _ _ => true
  | .undC61 _ _ _ => true
  | .undC62 _ _ _ => true
  | .undC63 _ _ _ => true
  | .undC64 _ _ _ => true
  | .undC65 _ _ _ => true
  | .undC66 _ _ _ => true
  | .undC67 _ _ _ => true
  | .undFE2 _ _ => true
  | .undFE3 _ _ => true
  | .undFE4 _ _ => true
  | .undFE5 _ _ => true
  | .undFE6 _ _ => true
  | .undFE7 _ _ => true
  | .undFF7 _ _ => true
  | .und0F006 _ _ => true
  | .und0F007 _ _ => true
  | .und0F015 _ _ => true
  | .und0F017 _ _ => true
  | .und0FBA0 _ _ => true
  | .und0FBA1 _ _ => true
  | .und0FBA2 _ _ => true
  | .und0FBA3 _ _ => true
  | .undShift6 _ _ _ _ => true
  | .undShiftImm6 _ _ _ => true
  | .undF61 _ _ _ => true
  | .undD6 => true
  | .undF1 => true
  | .und0F05 => true
  | .und0F07 => true
  | .und0FA6 => true
  | .und0FA7 => true

end Sys2Proof
end

