-- ==== Sys2Proof/Decode.lean ====
section
/-!
DEFINITION. The decoder: what the bytes at the instruction pointer mean (30_encoding.md sections 1 to 9), total on any bytes; and
after it the encoder, the bytes of a well-formed instruction, written from the same encoding rows (R560, R561).
-/
namespace Sys2Proof

/-- Why bytes name no instruction of the table: #UD, or one of the encodings that R526 and R900 refuse. -/
inductive Reject where
  /-- An illegal opcode, raises #UD (R570, R522). -/
  | undefinedOpcode
  /-- MOV to or from a control or test register with a code that R526 lists as "do not use", CR1 apart: #UD where the level permits the
  instruction (49_system.md R955, R959). -/
  | specialCode
  /-- SETcc with a middle field other than 000 (47_setcc_enter_leave.md R900; 92_eei_decisions.md D27). -/
  | setccField
  /-- MOV to or from CRn, DRn, TRn with top bits other than 11 (R526). -/
  | specialMod
  /-- CR1 (R526). -/
  | cr1
  /-- DR4 or DR5 (R526). -/
  | dr45
deriving DecidableEq, Repr

/-- What a byte string means: an instruction and its length, nothing yet because it ends inside the instruction, or a rejection. -/
inductive Decoded where
  | instr (i : Instr) (len : Nat)
  | more
  | reject (r : Reject)
deriving DecidableEq, Repr

/-- How reading stops before an instruction is complete. -/
inductive DecodeStop where
  | more
  | reject (r : Reject)
deriving DecidableEq, Repr

/-- A reader of instruction bytes: the rest of the bytes is its state (R500, R501). -/
abbrev Parse (α : Type) := EStateM DecodeStop (List Byte) α

/-- `Fetch(1)` (R502). -/
def nextByte : Parse Byte := fun bs =>
  match bs with
  | [] => .error .more []
  | b :: rest => .ok b rest

/-- `Fetch(2)`, low byte first (R501, R502). -/
def next16 : Parse Half := do
  let b0 ← nextByte
  let b1 ← nextByte
  pure (b1 ++ b0)

/-- `Fetch(4)`, low byte first (R501, R502). -/
def next32 : Parse Word := do
  let b0 ← nextByte
  let b1 ← nextByte
  let b2 ← nextByte
  let b3 ← nextByte
  pure (b3 ++ b2 ++ b1 ++ b0)

/-- A rejection. -/
def rejected {α : Type} (r : Reject) : Parse α := fun bs => .error (.reject r) bs

/-- A field of `bits` bits, 8, 16 or 32, zero-extended (R540). -/
def nextBits (bits : Nat) : Parse Word :=
  if bits = 8 then do
    let b ← nextByte
    pure (b.setWidth 32)
  else if bits = 16 then do
    let h ← next16
    pure (h.setWidth 32)
  else next32

/-- The register of a code (R520). -/
def Reg.ofCode (c : BitVec 3) : Reg :=
  match c.toNat with
  | 0 => .eax
  | 1 => .ecx
  | 2 => .edx
  | 3 => .ebx
  | 4 => .esp
  | 5 => .ebp
  | 6 => .esi
  | _ => .edi

/-- The code of a register (R520). -/
def Reg.code : Reg → BitVec 3
  | .eax => 0
  | .ecx => 1
  | .edx => 2
  | .ebx => 3
  | .esp => 4
  | .ebp => 5
  | .esi => 6
  | .edi => 7

/-- The segment register of an `sreg3` code; 110 and 111 are none (R522). -/
def Seg.ofCode (c : BitVec 3) : Option Seg :=
  match c.toNat with
  | 0 => some .es
  | 1 => some .cs
  | 2 => some .ss
  | 3 => some .ds
  | 4 => some .fs
  | 5 => some .gs
  | _ => none

/-- The `sreg3` code of a segment register (R522). -/
def Seg.code : Seg → BitVec 3
  | .es => 0
  | .cs => 1
  | .ss => 2
  | .ds => 3
  | .fs => 4
  | .gs => 5

/-- The `sreg2` code of ES, CS, SS, DS (R522). -/
def Seg.code2 (g : Seg) : BitVec 2 := g.code.setWidth 2

/-- The base and index of an r/m code of R530. -/
def Base16.ofCode (c : BitVec 3) : Base16 :=
  match c.toNat with
  | 0 => .bxsi
  | 1 => .bxdi
  | 2 => .bpsi
  | 3 => .bpdi
  | 4 => .si
  | 5 => .di
  | 6 => .bp
  | _ => .bx

/-- The r/m code of a base and index (R530). -/
def Base16.code : Base16 → BitVec 3
  | .bxsi => 0
  | .bxdi => 1
  | .bpsi => 2
  | .bpdi => 3
  | .si => 4
  | .di => 5
  | .bp => 6
  | .bx => 7

/-- The register an index code names: 100 is none (R531). -/
def indexOfCode (c : BitVec 3) : Option Reg := if c = 4 then none else some (Reg.ofCode c)

/-- The code of an index register (R531). -/
def indexCode : Option Reg → BitVec 3
  | none => 4
  | some r => r.code

/-- The displacement that `mod` asks for: none, one byte, or `bits` bits (R530, R531). -/
def dispOf (md : BitVec 2) (bits : Nat) : Parse Disp :=
  match md.toNat with
  | 0 => pure .none
  | 1 => do
    let d ← nextByte
    pure (.d8 d)
  | _ => do
    let d ← nextBits bits
    pure (.full d)

/-- `EA16` of R530, the operand's form only. -/
def memRef16 (md : BitVec 2) (rm : BitVec 3) : Parse MemRef :=
  if md = 0 ∧ rm = 6 then do
    let d ← next16
    pure (.direct16 d)
  else do
    let d ← dispOf md 16
    pure (.based16 (Base16.ofCode rm) d)

/-- `EA32` of R531, the operand's form only. -/
def memRef32 (md : BitVec 2) (rm : BitVec 3) : Parse MemRef :=
  if rm = 4 then do
    let sib ← nextByte
    let ss := sib.extractLsb' 6 2
    let ix := indexOfCode (sib.extractLsb' 3 3)
    let b := sib.extractLsb' 0 3
    if md = 0 ∧ b = 5 then do
      let d ← next32
      pure (.sibNoBase ix ss d)
    else do
      let d ← dispOf md 32
      pure (.sib (Reg.ofCode b) ix ss d)
  else if md = 0 ∧ rm = 5 then do
    let d ← next32
    pure (.direct32 d)
  else do
    let d ← dispOf md 32
    pure (.based32 (Reg.ofCode rm) d)

/-- `DecodeRM` of R534 after its "mod r/m" byte: mod 11 is a register. -/
def rmOperand (c : Ctx) (md : BitVec 2) (rm : BitVec 3) : Parse RM :=
  if md = 3 then pure (.reg (Reg.ofCode rm))
  else do
    let m ← (if c.asz32 then memRef32 md rm else memRef16 md rm)
    pure (.mem m)

/-- The parts `mod`, middle field and `r/m` of a "mod r/m" byte (R500). -/
structure ModRM where
  md : BitVec 2
  mid : BitVec 3
  rm : BitVec 3
deriving DecidableEq, Repr

/-- The "mod r/m" byte. -/
def nextModRM : Parse ModRM := do
  let b ← nextByte
  pure { md := b.extractLsb' 6 2, mid := b.extractLsb' 3 3, rm := b.extractLsb' 0 3 }

/-- An instruction of a "mod r/m" operand and a register field (`/r`, R528). -/
def rmReg (c : Ctx) (k : RM → Reg → Instr) : Parse Instr := do
  let x ← nextModRM
  let m ← rmOperand c x.md x.rm
  pure (k m (Reg.ofCode x.mid))

/-- An instruction of a "mod r/m" operand, a register field and an immediate of `bits` bits. -/
def rmRegImm (c : Ctx) (bits : Nat) (k : RM → Reg → Word → Instr) : Parse Instr := do
  let x ← nextModRM
  let m ← rmOperand c x.md x.rm
  let imm ← nextBits bits
  pure (k m (Reg.ofCode x.mid) imm)

/-- An instruction of a "mod r/m" operand whose middle field chose it already (`/k`, R528). -/
def rmOnly (c : Ctx) (x : ModRM) (k : RM → Instr) : Parse Instr := do
  let m ← rmOperand c x.md x.rm
  pure (k m)

/-- The same with an immediate of `bits` bits. -/
def rmImm (c : Ctx) (x : ModRM) (bits : Nat) (k : RM → Word → Instr) : Parse Instr := do
  let m ← rmOperand c x.md x.rm
  let imm ← nextBits bits
  pure (k m imm)

/-- The same with one immediate byte. -/
def rmImm8 (c : Ctx) (x : ModRM) (k : RM → Byte → Instr) : Parse Instr := do
  let m ← rmOperand c x.md x.rm
  let imm ← nextByte
  pure (k m imm)

/-- An instruction of one byte that is an immediate or a displacement. -/
def byteOnly (k : Byte → Instr) : Parse Instr := do
  let b ← nextByte
  pure (k b)

/-- An instruction of one immediate, displacement or address of `bits` bits. -/
def immOnly (bits : Nat) (k : Word → Instr) : Parse Instr := do
  let v ← nextBits bits
  pure (k v)

/-- An instruction of one 16-bit immediate (R543). -/
def half (k : Half → Instr) : Parse Instr := do
  let v ← next16
  pure (k v)

/-- A direct far pointer: the offset, then the selector (R542). -/
def farPtr (c : Ctx) (k : Word → Half → Instr) : Parse Instr := do
  let off ← nextBits c.oszBits
  let sel ← next16
  pure (k off sel)

/-- An arithmetic or logic row of eight opcodes: the two-operand forms `00ooo0dw`, the accumulator forms `00ooo10w`, and the two
opcodes the row leaves to others (R550). -/
def aluRow (c : Ctx) (low : Nat) (two : Bool → Bool → RM → Reg → Instr) (acc : Bool → Word → Instr) (six seven : Parse Instr) :
    Parse Instr :=
  match low with
  | 0 => rmReg c (two false false)
  | 1 => rmReg c (two false true)
  | 2 => rmReg c (two true false)
  | 3 => rmReg c (two true true)
  | 4 => immOnly 8 (acc false)
  | 5 => immOnly c.oszBits (acc true)
  | 6 => six
  | _ => seven

/-- Group 1 (R552). -/
def group1 (c : Ctx) (s w : Bool) : Parse Instr := do
  let x ← nextModRM
  let bits := c.immsBits s w
  match x.mid.toNat with
  | 0 => rmImm c x bits (.addRmImm s w)
  | 1 => rmImm c x bits (.orRmImm s w)
  | 2 => rmImm c x bits (.adcRmImm s w)
  | 3 => rmImm c x bits (.sbbRmImm s w)
  | 4 => rmImm c x bits (.andRmImm s w)
  | 5 => rmImm c x bits (.subRmImm s w)
  | 6 => rmImm c x bits (.xorRmImm s w)
  | _ => rmImm c x bits (.cmpRmImm s w)

/-- Group 2 by an immediate count (R552); /6 is undocumented (R570, 43_logic.md R768). -/
def group2Imm (c : Ctx) (w : Bool) : Parse Instr := do
  let x ← nextModRM
  match x.mid.toNat with
  | 0 => rmImm8 c x (.rolImm w)
  | 1 => rmImm8 c x (.rorImm w)
  | 2 => rmImm8 c x (.rclImm w)
  | 3 => rmImm8 c x (.rcrImm w)
  | 4 => rmImm8 c x (.shlImm w)
  | 5 => rmImm8 c x (.shrImm w)
  | 6 => pure (.undShiftImm6 w x.md x.rm)
  | _ => rmImm8 c x (.sarImm w)

/-- Group 2 by 1 (R552). -/
def group2One (c : Ctx) (w : Bool) : Parse Instr := do
  let x ← nextModRM
  match x.mid.toNat with
  | 0 => rmOnly c x (.rolOne w)
  | 1 => rmOnly c x (.rorOne w)
  | 2 => rmOnly c x (.rclOne w)
  | 3 => rmOnly c x (.rcrOne w)
  | 4 => rmOnly c x (.shlOne w)
  | 5 => rmOnly c x (.shrOne w)
  | 6 => pure (.undShift6 false w x.md x.rm)
  | _ => rmOnly c x (.sarOne w)

/-- Group 2 by CL (R552). -/
def group2Cl (c : Ctx) (w : Bool) : Parse Instr := do
  let x ← nextModRM
  match x.mid.toNat with
  | 0 => rmOnly c x (.rolCl w)
  | 1 => rmOnly c x (.rorCl w)
  | 2 => rmOnly c x (.rclCl w)
  | 3 => rmOnly c x (.rcrCl w)
  | 4 => rmOnly c x (.shlCl w)
  | 5 => rmOnly c x (.shrCl w)
  | 6 => pure (.undShift6 true w x.md x.rm)
  | _ => rmOnly c x (.sarCl w)

/-- Group 3 (R552); /1 is undocumented (R570). -/
def group3 (c : Ctx) (w : Bool) : Parse Instr := do
  let x ← nextModRM
  match x.mid.toNat with
  | 0 => rmImm c x (c.immBits w) (.testRmImm w)
  | 1 => pure (.undF61 w x.md x.rm)
  | 2 => rmOnly c x (.notRm w)
  | 3 => rmOnly c x (.negRm w)
  | 4 => rmOnly c x (.mulRm w)
  | 5 => rmOnly c x (.imulAcc w)
  | 6 => rmOnly c x (.divRm w)
  | _ => rmOnly c x (.idivRm w)

/-- Group 4, opcode FEH (R552). An undefined slot is known by its opcode and "mod r/m" byte: no s-i-b byte, displacement or immediate is
fetched for it, so that its `#UD` comes before the faults of their fetch (R570; DESIGN CHOICE, log entry 39). -/
def group4 (c : Ctx) : Parse Instr := do
  let x ← nextModRM
  match x.mid.toNat with
  | 0 => rmOnly c x (.incRm false)
  | 1 => rmOnly c x (.decRm false)
  | 2 => pure (.undFE2 x.md x.rm)
  | 3 => pure (.undFE3 x.md x.rm)
  | 4 => pure (.undFE4 x.md x.rm)
  | 5 => pure (.undFE5 x.md x.rm)
  | 6 => pure (.undFE6 x.md x.rm)
  | _ => pure (.undFE7 x.md x.rm)

/-- Group 5, opcode FFH (R552); /7 is undefined, as in `group4` (log entry 39). -/
def group5 (c : Ctx) : Parse Instr := do
  let x ← nextModRM
  match x.mid.toNat with
  | 0 => rmOnly c x (.incRm true)
  | 1 => rmOnly c x (.decRm true)
  | 2 => rmOnly c x .callRm
  | 3 => rmOnly c x .callFarMem
  | 4 => rmOnly c x .jmpRm
  | 5 => rmOnly c x .jmpFarMem
  | 6 => rmOnly c x .pushRm
  | _ => pure (.undFF7 x.md x.rm)

/-- Group 6, 0F 00 (R552); /6 and /7 are undefined, as in `group4` (log entry 39). -/
def group6 (c : Ctx) : Parse Instr := do
  let x ← nextModRM
  match x.mid.toNat with
  | 0 => rmOnly c x .sldt
  | 1 => rmOnly c x .str
  | 2 => rmOnly c x .lldt
  | 3 => rmOnly c x .ltr
  | 4 => rmOnly c x .verr
  | 5 => rmOnly c x .verw
  | 6 => pure (.und0F006 x.md x.rm)
  | _ => pure (.und0F007 x.md x.rm)

/-- Group 7, 0F 01 (R552); /5 and /7 are undefined, as in `group4` (log entry 39). -/
def group7 (c : Ctx) : Parse Instr := do
  let x ← nextModRM
  match x.mid.toNat with
  | 0 => rmOnly c x .sgdt
  | 1 => rmOnly c x .sidt
  | 2 => rmOnly c x .lgdt
  | 3 => rmOnly c x .lidt
  | 4 => rmOnly c x .smsw
  | 5 => pure (.und0F015 x.md x.rm)
  | 6 => rmOnly c x .lmsw
  | _ => pure (.und0F017 x.md x.rm)

/-- Group 8, 0F BA (R552); /0 to /3 are undefined, as in `group4` (log entry 39). -/
def group8 (c : Ctx) : Parse Instr := do
  let x ← nextModRM
  match x.mid.toNat with
  | 0 => pure (.und0FBA0 x.md x.rm)
  | 1 => pure (.und0FBA1 x.md x.rm)
  | 2 => pure (.und0FBA2 x.md x.rm)
  | 3 => pure (.und0FBA3 x.md x.rm)
  | 4 => rmImm8 c x .btRmImm
  | 5 => rmImm8 c x .btsRmImm
  | 6 => rmImm8 c x .btrRmImm
  | _ => rmImm8 c x .btcRmImm

/-- Opcode 8FH: POP, or undefined (R552, R570), as in `group4` (log entry 39). -/
def group8F (c : Ctx) : Parse Instr := do
  let x ← nextModRM
  match x.mid.toNat with
  | 0 => rmOnly c x .popRm
  | 1 => pure (.und8F1 x.md x.rm)
  | 2 => pure (.und8F2 x.md x.rm)
  | 3 => pure (.und8F3 x.md x.rm)
  | 4 => pure (.und8F4 x.md x.rm)
  | 5 => pure (.und8F5 x.md x.rm)
  | 6 => pure (.und8F6 x.md x.rm)
  | _ => pure (.und8F7 x.md x.rm)

/-- Opcodes C6H and C7H: MOV immediate, or undefined (R552, R570), as in `group4` (log entry 39). -/
def groupC6 (c : Ctx) (w : Bool) : Parse Instr := do
  let x ← nextModRM
  match x.mid.toNat with
  | 0 => rmImm c x (c.immBits w) (.movRmImm w)
  | 1 => pure (.undC61 w x.md x.rm)
  | 2 => pure (.undC62 w x.md x.rm)
  | 3 => pure (.undC63 w x.md x.rm)
  | 4 => pure (.undC64 w x.md x.rm)
  | 5 => pure (.undC65 w x.md x.rm)
  | 6 => pure (.undC66 w x.md x.rm)
  | _ => pure (.undC67 w x.md x.rm)

/-- MOV to or from a segment register: the operand is read to its last byte, then the middle field is an `sreg3` code (R522;
40_data_transfer.md R608, R609). -/
def rmSeg (c : Ctx) (k : RM → Seg → Instr) : Parse Instr := do
  let x ← nextModRM
  let m ← rmOperand c x.md x.rm
  match Seg.ofCode x.mid with
  | none => rejected .undefinedOpcode
  | some g => pure (k m g)

/-- MOV to or from a control register (R526). The top bits are looked at before the register's code, as in `testReg` (log entry 17). -/
def controlReg (k : CReg → Reg → Instr) : Parse Instr := do
  let x ← nextModRM
  if x.md ≠ 3 then rejected .specialMod
  else match x.mid.toNat with
    | 0 => pure (k .cr0 (Reg.ofCode x.rm))
    | 1 => rejected .cr1
    | 2 => pure (k .cr2 (Reg.ofCode x.rm))
    | 3 => pure (k .cr3 (Reg.ofCode x.rm))
    | _ => rejected .specialCode

/-- MOV to or from a debug register (R526). The top bits are looked at before the register's code, as in `testReg` (log entry 17). -/
def debugReg (k : DReg → Reg → Instr) : Parse Instr := do
  let x ← nextModRM
  if x.md ≠ 3 then rejected .specialMod
  else match x.mid.toNat with
    | 0 => pure (k .dr0 (Reg.ofCode x.rm))
    | 1 => pure (k .dr1 (Reg.ofCode x.rm))
    | 2 => pure (k .dr2 (Reg.ofCode x.rm))
    | 3 => pure (k .dr3 (Reg.ofCode x.rm))
    | 6 => pure (k .dr6 (Reg.ofCode x.rm))
    | 7 => pure (k .dr7 (Reg.ofCode x.rm))
    | _ => rejected .dr45

/-- MOV to or from a test register (R526). With top bits other than 11 and a register code that is not to be used as well, the refusal for
the top bits wins over the `#UD` of 49_system.md R959 (DESIGN CHOICE, log entry 17). -/
def testReg (k : TReg → Reg → Instr) : Parse Instr := do
  let x ← nextModRM
  if x.md ≠ 3 then rejected .specialMod
  else match x.mid.toNat with
    | 6 => pure (k .tr6 (Reg.ofCode x.rm))
    | 7 => pure (k .tr7 (Reg.ofCode x.rm))
    | _ => rejected .specialCode

/-- SETcc: the middle field of the "mod r/m" byte is 000 (47_setcc_enter_leave.md R900). -/
def setcc (c : Ctx) (k : RM → Instr) : Parse Instr := do
  let x ← nextModRM
  let m ← rmOperand c x.md x.rm
  if x.mid ≠ 0 then rejected .setccField else pure (k m)

/-- Jcc with an 8-bit displacement, by `tttn` (R525). -/
def shortJump (tttn : Nat) : Byte → Instr :=
  match tttn with
  | 0 => .joShort
  | 1 => .jnoShort
  | 2 => .jbShort
  | 3 => .jnbShort
  | 4 => .jeShort
  | 5 => .jneShort
  | 6 => .jbeShort
  | 7 => .jnbeShort
  | 8 => .jsShort
  | 9 => .jnsShort
  | 10 => .jpShort
  | 11 => .jnpShort
  | 12 => .jlShort
  | 13 => .jnlShort
  | 14 => .jleShort
  | _ => .jnleShort

/-- Jcc with a full displacement, by `tttn` (R525). -/
def nearJump (tttn : Nat) : Word → Instr :=
  match tttn with
  | 0 => .joNear
  | 1 => .jnoNear
  | 2 => .jbNear
  | 3 => .jnbNear
  | 4 => .jeNear
  | 5 => .jneNear
  | 6 => .jbeNear
  | 7 => .jnbeNear
  | 8 => .jsNear
  | 9 => .jnsNear
  | 10 => .jpNear
  | 11 => .jnpNear
  | 12 => .jlNear
  | 13 => .jnlNear
  | 14 => .jleNear
  | _ => .jnleNear

/-- SETcc, by `tttn` (R525). -/
def setByte (tttn : Nat) : RM → Instr :=
  match tttn with
  | 0 => .seto
  | 1 => .setno
  | 2 => .setb
  | 3 => .setnb
  | 4 => .sete
  | 5 => .setne
  | 6 => .setbe
  | 7 => .setnbe
  | 8 => .sets
  | 9 => .setns
  | 10 => .setp
  | 11 => .setnp
  | 12 => .setl
  | 13 => .setnl
  | 14 => .setle
  | _ => .setnle

/-- Two-byte opcodes 0F xx whose second byte is in the low half of the map (R551). -/
def decode0FLow (c : Ctx) (b : Nat) : Parse Instr :=
  match b with
  | 0x00 => group6 c
  | 0x01 => group7 c
  | 0x02 => rmReg c .lar
  | 0x03 => rmReg c .lsl
  | 0x05 => pure .und0F05
  | 0x06 => pure .clts
  | 0x07 => pure .und0F07
  | 0x20 => controlReg .movRegCr
  | 0x21 => debugReg .movRegDr
  | 0x22 => controlReg .movCrReg
  | 0x23 => debugReg .movDrReg
  | 0x24 => testReg .movRegTr
  | 0x26 => testReg .movTrReg
  | _ => rejected .undefinedOpcode

/-- Two-byte opcodes 0F A0 to 0F AF (R551). -/
def decode0FA (c : Ctx) (low : Nat) : Parse Instr :=
  match low with
  | 0x0 => pure .pushFs
  | 0x1 => pure .popFs
  | 0x3 => rmReg c .btRmReg
  | 0x4 => rmRegImm c 8 (fun m r i => .shldImm m r (i.setWidth 8))
  | 0x5 => rmReg c .shldCl
  | 0x6 => pure .und0FA6
  | 0x7 => pure .und0FA7
  | 0x8 => pure .pushGs
  | 0x9 => pure .popGs
  | 0xB => rmReg c .btsRmReg
  | 0xC => rmRegImm c 8 (fun m r i => .shrdImm m r (i.setWidth 8))
  | 0xD => rmReg c .shrdCl
  | 0xF => rmReg c .imulReg
  | _ => rejected .undefinedOpcode

/-- Two-byte opcodes 0F B0 to 0F BF (R551). -/
def decode0FB (c : Ctx) (low : Nat) : Parse Instr :=
  match low with
  | 0x2 => rmReg c .lss
  | 0x3 => rmReg c .btrRmReg
  | 0x4 => rmReg c .lfs
  | 0x5 => rmReg c .lgs
  | 0x6 => rmReg c (.movzx false)
  | 0x7 => rmReg c (.movzx true)
  | 0xA => group8 c
  | 0xB => rmReg c .btcRmReg
  | 0xC => rmReg c .bsf
  | 0xD => rmReg c .bsr
  | 0xE => rmReg c (.movsx false)
  | 0xF => rmReg c (.movsx true)
  | _ => rejected .undefinedOpcode

/-- Two-byte opcodes, after the 0F byte (R551); every second byte not listed is illegal (R570). -/
def decode0F (c : Ctx) : Parse Instr := do
  let b ← nextByte
  let low := (b.extractLsb' 0 4).toNat
  match (b.extractLsb' 4 4).toNat with
  | 0x0 => decode0FLow c b.toNat
  | 0x2 => decode0FLow c b.toNat
  | 0x8 => immOnly c.oszBits (nearJump low)
  | 0x9 => setcc c (setByte low)
  | 0xA => decode0FA c low
  | 0xB => decode0FB c low
  | _ => rejected .undefinedOpcode

/-- The repeated form of a string opcode, if `b` is one (R509; F2 before INS, OUTS, MOVS, STOS, LODS is REP, decision D22). -/
def repeated (p : Rep) (b : Byte) : Option Instr :=
  let repne := p == .repne
  match b.toNat with
  | 0x6C => some (.repIns false)
  | 0x6D => some (.repIns true)
  | 0x6E => some (.repOuts false)
  | 0x6F => some (.repOuts true)
  | 0xA4 => some (.repMovs false)
  | 0xA5 => some (.repMovs true)
  | 0xA6 => some (if repne then .repneCmps false else .repeCmps false)
  | 0xA7 => some (if repne then .repneCmps true else .repeCmps true)
  | 0xAA => some (.repStos false)
  | 0xAB => some (.repStos true)
  | 0xAC => some (.repLods false)
  | 0xAD => some (.repLods true)
  | 0xAE => some (if repne then .repneScas false else .repeScas false)
  | 0xAF => some (if repne then .repneScas true else .repeScas true)
  | _ => none

/-- A repeat prefix: with a string opcode right after it, the row of the repeated string instruction; else the prefix alone (R509). -/
def repPrefix (p : Rep) (alone : Instr) : Parse Instr := fun bs =>
  match bs with
  | [] => .error .more []
  | b :: rest =>
    match repeated p b with
    | some i => .ok i rest
    | none => .ok alone bs

/-- A string opcode: the repeated form where a repeat prefix has been read (R509). -/
def stringOp (c : Ctx) (b : Byte) (single : Instr) : Parse Instr :=
  match c.rep with
  | none => pure single
  | some p => pure ((repeated p b).getD single)

/-- Opcodes 60H to 6FH (R550). -/
def decode6 (c : Ctx) (b : Byte) : Parse Instr :=
  match (b.extractLsb' 0 4).toNat with
  | 0x0 => pure .pusha
  | 0x1 => pure .popa
  | 0x2 => rmReg c .bound
  | 0x3 => rmReg c .arpl
  | 0x4 => pure .pfxFs
  | 0x5 => pure .pfxGs
  | 0x6 => pure .pfxOpSize
  | 0x7 => pure .pfxAddrSize
  | 0x8 => immOnly c.oszBits (.pushImm false)
  | 0x9 => rmRegImm c c.oszBits (.imulImm false)
  | 0xA => immOnly 8 (.pushImm true)
  | 0xB => rmRegImm c 8 (.imulImm true)
  | 0xC => stringOp c b (.ins false)
  | 0xD => stringOp c b (.ins true)
  | 0xE => stringOp c b (.outs false)
  | _ => stringOp c b (.outs true)

/-- Opcodes 80H to 8FH (R550). -/
def decode8 (c : Ctx) (low : Nat) : Parse Instr :=
  match low with
  | 0x0 => group1 c false false
  | 0x1 => group1 c false true
  | 0x2 => group1 c true false
  | 0x3 => group1 c true true
  | 0x4 => rmReg c (.testRmReg false)
  | 0x5 => rmReg c (.testRmReg true)
  | 0x6 => rmReg c (.xchgRmReg false)
  | 0x7 => rmReg c (.xchgRmReg true)
  | 0x8 => rmReg c (.movRmReg false)
  | 0x9 => rmReg c (.movRmReg true)
  | 0xA => rmReg c (.movRegRm false)
  | 0xB => rmReg c (.movRegRm true)
  | 0xC => rmSeg c .movRmSeg
  | 0xD => rmReg c .lea
  | 0xE => rmSeg c .movSegRm
  | _ => group8F c

/-- Opcodes 90H to 9FH (R550); 90H is NOP (R561, 49_system.md R965). -/
def decode9 (c : Ctx) (low : Nat) : Parse Instr :=
  match low with
  | 0x0 => pure .nop
  | 0x1 => pure (.xchgAccReg .ecx)
  | 0x2 => pure (.xchgAccReg .edx)
  | 0x3 => pure (.xchgAccReg .ebx)
  | 0x4 => pure (.xchgAccReg .esp)
  | 0x5 => pure (.xchgAccReg .ebp)
  | 0x6 => pure (.xchgAccReg .esi)
  | 0x7 => pure (.xchgAccReg .edi)
  | 0x8 => pure .cbw
  | 0x9 => pure .cwd
  | 0xA => farPtr c .callFar
  | 0xB => pure .wait
  | 0xC => pure .pushf
  | 0xD => pure .popf
  | 0xE => pure .sahf
  | _ => pure .lahf

/-- Opcodes A0H to AFH (R550). -/
def decodeA (c : Ctx) (b : Byte) : Parse Instr :=
  match (b.extractLsb' 0 4).toNat with
  | 0x0 => immOnly c.aszBits (.movAccMem false)
  | 0x1 => immOnly c.aszBits (.movAccMem true)
  | 0x2 => immOnly c.aszBits (.movMemAcc false)
  | 0x3 => immOnly c.aszBits (.movMemAcc true)
  | 0x4 => stringOp c b (.movs false)
  | 0x5 => stringOp c b (.movs true)
  | 0x6 => stringOp c b (.cmps false)
  | 0x7 => stringOp c b (.cmps true)
  | 0x8 => immOnly 8 (.testAccImm false)
  | 0x9 => immOnly c.oszBits (.testAccImm true)
  | 0xA => stringOp c b (.stos false)
  | 0xB => stringOp c b (.stos true)
  | 0xC => stringOp c b (.lods false)
  | 0xD => stringOp c b (.lods true)
  | 0xE => stringOp c b (.scas false)
  | _ => stringOp c b (.scas true)

/-- ENTER: the frame size, then the level (R501, R543). -/
def enterOperands : Parse Instr := do
  let v ← next16
  let l ← nextByte
  pure (.enter v l)

/-- Opcodes C0H to CFH (R550). -/
def decodeC (c : Ctx) (low : Nat) : Parse Instr :=
  match low with
  | 0x0 => group2Imm c false
  | 0x1 => group2Imm c true
  | 0x2 => half .retImm
  | 0x3 => pure .ret
  | 0x4 => rmReg c .les
  | 0x5 => rmReg c .lds
  | 0x6 => groupC6 c false
  | 0x7 => groupC6 c true
  | 0x8 => enterOperands
  | 0x9 => pure .leave
  | 0xA => half .retfImm
  | 0xB => pure .retf
  | 0xC => pure .int3
  | 0xD => byteOnly .intN
  | 0xE => pure .into
  | _ => pure .iret

/-- ESC: TTT in the opcode, LLL in the middle field (49_system.md R975). -/
def escOperands (c : Ctx) (ttt : BitVec 3) : Parse Instr := do
  let x ← nextModRM
  rmOnly c x (.esc ttt x.mid)

/-- Opcodes D0H to DFH (R550). -/
def decodeD (c : Ctx) (b : Byte) : Parse Instr :=
  match (b.extractLsb' 0 4).toNat with
  | 0x0 => group2One c false
  | 0x1 => group2One c true
  | 0x2 => group2Cl c false
  | 0x3 => group2Cl c true
  | 0x4 => byteOnly .aam
  | 0x5 => byteOnly .aad
  | 0x6 => pure .undD6
  | 0x7 => pure .xlat
  | _ => escOperands c (b.extractLsb' 0 3)

/-- Opcodes E0H to EFH (R550). -/
def decodeE (c : Ctx) (low : Nat) : Parse Instr :=
  match low with
  | 0x0 => byteOnly .loopnz
  | 0x1 => byteOnly .loopz
  | 0x2 => byteOnly .loop
  | 0x3 => byteOnly .jcxz
  | 0x4 => byteOnly (.inImm false)
  | 0x5 => byteOnly (.inImm true)
  | 0x6 => byteOnly (.outImm false)
  | 0x7 => byteOnly (.outImm true)
  | 0x8 => immOnly c.oszBits .callRel
  | 0x9 => immOnly c.oszBits .jmpRel
  | 0xA => farPtr c .jmpFar
  | 0xB => byteOnly .jmpShort
  | 0xC => pure (.inDx false)
  | 0xD => pure (.inDx true)
  | 0xE => pure (.outDx false)
  | _ => pure (.outDx true)

/-- Opcodes F0H to FFH (R550). -/
def decodeF (c : Ctx) (low : Nat) : Parse Instr :=
  match low with
  | 0x0 => pure .pfxLock
  | 0x1 => pure .undF1
  | 0x2 => repPrefix .repne .pfxRepne
  | 0x3 => repPrefix .rep .pfxRep
  | 0x4 => pure .hlt
  | 0x5 => pure .cmc
  | 0x6 => group3 c false
  | 0x7 => group3 c true
  | 0x8 => pure .clc
  | 0x9 => pure .stc
  | 0xA => pure .cli
  | 0xB => pure .sti
  | 0xC => pure .cld
  | 0xD => pure .std
  | 0xE => group4 c
  | _ => group5 c

/-- Opcodes 00H to 3FH by their bits 5:3: the arithmetic and logic rows and what stands between them (R550). -/
def decodeAlu (c : Ctx) (row low : Nat) : Parse Instr :=
  match row with
  | 0 => aluRow c low .addRmReg .addAccImm (pure (.pushSeg .es)) (pure .popEs)
  | 1 => aluRow c low .orRmReg .orAccImm (pure (.pushSeg .cs)) (decode0F c)
  | 2 => aluRow c low .adcRmReg .adcAccImm (pure (.pushSeg .ss)) (pure .popSs)
  | 3 => aluRow c low .sbbRmReg .sbbAccImm (pure (.pushSeg .ds)) (pure .popDs)
  | 4 => aluRow c low .andRmReg .andAccImm (pure .pfxEs) (pure .daa)
  | 5 => aluRow c low .subRmReg .subAccImm (pure .pfxCs) (pure .das)
  | 6 => aluRow c low .xorRmReg .xorAccImm (pure .pfxSs) (pure .aaa)
  | _ => aluRow c low .cmpRmReg .cmpAccImm (pure .pfxDs) (pure .aas)

/-- Opcodes 40H to 5FH: a register in bits 2:0 (R550). -/
def regOpcode (row : Nat) (r : Reg) : Instr :=
  match row with
  | 0 => .incReg r
  | 1 => .decReg r
  | 2 => .pushReg r
  | _ => .popReg r

/-- The instruction that the first byte `b` begins (R550). -/
def decodeOpcode (c : Ctx) (b : Byte) : Parse Instr :=
  let low3 := b.extractLsb' 0 3
  let low := (b.extractLsb' 0 4).toNat
  let row := (b.extractLsb' 3 3).toNat
  match (b.extractLsb' 4 4).toNat with
  | 0x4 => pure (regOpcode row (Reg.ofCode low3))
  | 0x5 => pure (regOpcode row (Reg.ofCode low3))
  | 0x6 => decode6 c b
  | 0x7 => byteOnly (shortJump low)
  | 0x8 => decode8 c low
  | 0x9 => decode9 c low
  | 0xA => decodeA c b
  | 0xB => immOnly (c.immBits (b.getLsbD 3)) (.movRegImm (b.getLsbD 3) (Reg.ofCode low3))
  | 0xC => decodeC c low
  | 0xD => decodeD c b
  | 0xE => decodeE c low
  | 0xF => decodeF c low
  | _ => decodeAlu c row low3.toNat

/-- What the bytes `bs` mean in the context `c`: the instruction at their start, and how many bytes it takes (R500). -/
def decode (c : Ctx) (bs : List Byte) : Decoded :=
  match (nextByte >>= decodeOpcode c) bs with
  | .ok i rest => .instr i (bs.length - rest.length)
  | .error .more _ => .more
  | .error (.reject r) _ => .reject r

/-- The longest instruction, in bytes (R573). -/
def maxLength : Nat := 15

/-- The context of 16-bit code with no prefix read: REAL mode (R510). -/
def Ctx.real : Ctx := { osz32 := false, asz32 := false, rep := none }

/-- The bytes of an instruction of `nbits` bits numbered as opcode_table.json numbers them, zeros after them: the table's numbers (`match`,
and `fixed` made from it) have the first byte of the instruction as their most significant one, so that MOV `1000100w mmrrrbbb` is 8800H
with its opcode in bits 15 to 8 (log entry 6). -/
def tableBytes (nbits w : Nat) : List Byte :=
  ((List.range (nbits / 8)).map fun k => BitVec.ofNat 8 (w >>> (nbits - 8 * (k + 1)))) ++ List.replicate (maxLength - nbits / 8) 0

/-- The instruction the decoder reads from a word of the opcode table, in 16-bit code. -/
def decodeTableWord (nbits w : Nat) : Option Instr :=
  match decode Ctx.real (tableBytes nbits w) with
  | .instr i _ => some i
  | _ => none

/-! The encoder. -/

/-- A field of one bit. -/
abbrev bit (b : Bool) : BitVec 1 := BitVec.ofBool b

/-- A 16-bit field, low byte first (R501). -/
def encode16 (v : Half) : List Byte := [v.extractLsb' 0 8, v.extractLsb' 8 8]

/-- A 32-bit field, low byte first (R501). -/
def encode32 (v : Word) : List Byte := [v.extractLsb' 0 8, v.extractLsb' 8 8, v.extractLsb' 16 8, v.extractLsb' 24 8]

/-- A field of `bits` bits, 8, 16 or 32 (R540). -/
def encodeBits (bits : Nat) (v : Word) : List Byte :=
  if bits = 8 then [v.setWidth 8] else if bits = 16 then encode16 (v.setWidth 16) else encode32 v

/-- The `mod` field of a displacement (R530, R531). -/
def Disp.md : Disp → BitVec 2
  | .none => 0
  | .d8 _ => 1
  | .full _ => 2

/-- The bytes of a displacement at an address size of `bits` bits. -/
def Disp.encode (bits : Nat) : Disp → List Byte
  | .none => []
  | .d8 v => [v]
  | .full v => encodeBits bits v

/-- The "mod r/m" byte with the middle field `mid`, and the s-i-b byte and displacement after it (R530, R531, R534). -/
def RM.encode (mid : BitVec 3) : RM → List Byte
  | .reg r => [(3 : BitVec 2) ++ mid ++ r.code]
  | .mem (.direct16 off) => [(0 : BitVec 2) ++ mid ++ (6 : BitVec 3)] ++ encode16 off
  | .mem (.based16 b d) => [d.md ++ mid ++ b.code] ++ d.encode 16
  | .mem (.direct32 off) => [(0 : BitVec 2) ++ mid ++ (5 : BitVec 3)] ++ encode32 off
  | .mem (.based32 b d) => [d.md ++ mid ++ b.code] ++ d.encode 32
  | .mem (.sib b i ss d) => [d.md ++ mid ++ (4 : BitVec 3), ss ++ indexCode i ++ b.code] ++ d.encode 32
  | .mem (.sibNoBase i ss off) => [(0 : BitVec 2) ++ mid ++ (4 : BitVec 3), ss ++ indexCode i ++ (5 : BitVec 3)] ++ encode32 off

/-- The `eee` code of a control register (R526). -/
def CReg.code : CReg → BitVec 3
  | .cr0 => 0
  | .cr2 => 2
  | .cr3 => 3

/-- The `eee` code of a debug register (R526). -/
def DReg.code : DReg → BitVec 3
  | .dr0 => 0
  | .dr1 => 1
  | .dr2 => 2
  | .dr3 => 3
  | .dr6 => 6
  | .dr7 => 7

/-- The `eee` code of a test register (R526). -/
def TReg.code : TReg → BitVec 3
  | .tr6 => 6
  | .tr7 => 7

/-- The bytes of an instruction in the context `c`, from the encoding column of the opcode table (R560, R561). -/
def encode (c : Ctx) : Instr → List Byte
  | .movRmReg w m r => [0b1000100#7 ++ bit w] ++ m.encode r.code
  | .movRegRm w m r => [0b1000101#7 ++ bit w] ++ m.encode r.code
  | .movRmImm w m imm => [0b1100011#7 ++ bit w] ++ m.encode 0b000#3 ++ encodeBits (c.immBits w) imm
  | .movRegImm w r imm => [0b1011#4 ++ bit w ++ r.code] ++ encodeBits (c.immBits w) imm
  | .movAccMem w off => [0b1010000#7 ++ bit w] ++ encodeBits c.aszBits off
  | .movMemAcc w off => [0b1010001#7 ++ bit w] ++ encodeBits c.aszBits off
  | .movSegRm m g => [0x8E] ++ m.encode g.code
  | .movRmSeg m g => [0x8C] ++ m.encode g.code
  | .movsx w m r => [0x0F, 0b1011111#7 ++ bit w] ++ m.encode r.code
  | .movzx w m r => [0x0F, 0b1011011#7 ++ bit w] ++ m.encode r.code
  | .pushRm m => [0xFF] ++ m.encode 0b110#3
  | .pushReg r => [0b01010#5 ++ r.code]
  | .pushSeg g => [0b000#3 ++ g.code2 ++ 0b110#3]
  | .pushFs => [0x0F, 0xA0]
  | .pushGs => [0x0F, 0xA8]
  | .pushImm s imm => [0b011010#6 ++ bit s ++ 0b0#1] ++ encodeBits (c.immsBits s true) imm
  | .pusha => [0x60]
  | .popRm m => [0x8F] ++ m.encode 0b000#3
  | .popReg r => [0b01011#5 ++ r.code]
  | .popEs => [0x07]
  | .popSs => [0x17]
  | .popDs => [0x1F]
  | .popFs => [0x0F, 0xA1]
  | .popGs => [0x0F, 0xA9]
  | .popa => [0x61]
  | .xchgRmReg w m r => [0b1000011#7 ++ bit w] ++ m.encode r.code
  | .xchgAccReg r => [0b10010#5 ++ r.code]
  | .inImm w imm => [0b1110010#7 ++ bit w] ++ [imm]
  | .inDx w => [0b1110110#7 ++ bit w]
  | .outImm w imm => [0b1110011#7 ++ bit w] ++ [imm]
  | .outDx w => [0b1110111#7 ++ bit w]
  | .lea m r => [0x8D] ++ m.encode r.code
  | .lds m r => [0xC5] ++ m.encode r.code
  | .les m r => [0xC4] ++ m.encode r.code
  | .lfs m r => [0x0F, 0xB4] ++ m.encode r.code
  | .lgs m r => [0x0F, 0xB5] ++ m.encode r.code
  | .lss m r => [0x0F, 0xB2] ++ m.encode r.code
  | .clc => [0xF8]
  | .cld => [0xFC]
  | .cli => [0xFA]
  | .clts => [0x0F, 0x06]
  | .cmc => [0xF5]
  | .lahf => [0x9F]
  | .popf => [0x9D]
  | .pushf => [0x9C]
  | .sahf => [0x9E]
  | .stc => [0xF9]
  | .std => [0xFD]
  | .sti => [0xFB]
  | .addRmReg d w m r => [0b000000#6 ++ bit d ++ bit w] ++ m.encode r.code
  | .addRmImm s w m imm => [0b100000#6 ++ bit s ++ bit w] ++ m.encode 0b000#3 ++ encodeBits (c.immsBits s w) imm
  | .addAccImm w imm => [0b0000010#7 ++ bit w] ++ encodeBits (c.immBits w) imm
  | .adcRmReg d w m r => [0b000100#6 ++ bit d ++ bit w] ++ m.encode r.code
  | .adcRmImm s w m imm => [0b100000#6 ++ bit s ++ bit w] ++ m.encode 0b010#3 ++ encodeBits (c.immsBits s w) imm
  | .adcAccImm w imm => [0b0001010#7 ++ bit w] ++ encodeBits (c.immBits w) imm
  | .incRm w m => [0b1111111#7 ++ bit w] ++ m.encode 0b000#3
  | .incReg r => [0b01000#5 ++ r.code]
  | .subRmReg d w m r => [0b001010#6 ++ bit d ++ bit w] ++ m.encode r.code
  | .subRmImm s w m imm => [0b100000#6 ++ bit s ++ bit w] ++ m.encode 0b101#3 ++ encodeBits (c.immsBits s w) imm
  | .subAccImm w imm => [0b0010110#7 ++ bit w] ++ encodeBits (c.immBits w) imm
  | .sbbRmReg d w m r => [0b000110#6 ++ bit d ++ bit w] ++ m.encode r.code
  | .sbbRmImm s w m imm => [0b100000#6 ++ bit s ++ bit w] ++ m.encode 0b011#3 ++ encodeBits (c.immsBits s w) imm
  | .sbbAccImm w imm => [0b0001110#7 ++ bit w] ++ encodeBits (c.immBits w) imm
  | .decRm w m => [0b1111111#7 ++ bit w] ++ m.encode 0b001#3
  | .decReg r => [0b01001#5 ++ r.code]
  | .cmpRmReg d w m r => [0b001110#6 ++ bit d ++ bit w] ++ m.encode r.code
  | .cmpRmImm s w m imm => [0b100000#6 ++ bit s ++ bit w] ++ m.encode 0b111#3 ++ encodeBits (c.immsBits s w) imm
  | .cmpAccImm w imm => [0b0011110#7 ++ bit w] ++ encodeBits (c.immBits w) imm
  | .negRm w m => [0b1111011#7 ++ bit w] ++ m.encode 0b011#3
  | .aaa => [0x37]
  | .aas => [0x3F]
  | .daa => [0x27]
  | .das => [0x2F]
  | .mulRm w m => [0b1111011#7 ++ bit w] ++ m.encode 0b100#3
  | .imulAcc w m => [0b1111011#7 ++ bit w] ++ m.encode 0b101#3
  | .imulReg m r => [0x0F, 0xAF] ++ m.encode r.code
  | .imulImm s m r imm => [0b011010#6 ++ bit s ++ 0b1#1] ++ m.encode r.code ++ encodeBits (c.immsBits s true) imm
  | .divRm w m => [0b1111011#7 ++ bit w] ++ m.encode 0b110#3
  | .idivRm w m => [0b1111011#7 ++ bit w] ++ m.encode 0b111#3
  | .aad imm => [0xD5] ++ [imm]
  | .aam imm => [0xD4] ++ [imm]
  | .cbw => [0x98]
  | .cwd => [0x99]
  | .rolOne w m => [0b1101000#7 ++ bit w] ++ m.encode 0b000#3
  | .rolCl w m => [0b1101001#7 ++ bit w] ++ m.encode 0b000#3
  | .rolImm w m imm => [0b1100000#7 ++ bit w] ++ m.encode 0b000#3 ++ [imm]
  | .rorOne w m => [0b1101000#7 ++ bit w] ++ m.encode 0b001#3
  | .rorCl w m => [0b1101001#7 ++ bit w] ++ m.encode 0b001#3
  | .rorImm w m imm => [0b1100000#7 ++ bit w] ++ m.encode 0b001#3 ++ [imm]
  | .rclOne w m => [0b1101000#7 ++ bit w] ++ m.encode 0b010#3
  | .rclCl w m => [0b1101001#7 ++ bit w] ++ m.encode 0b010#3
  | .rclImm w m imm => [0b1100000#7 ++ bit w] ++ m.encode 0b010#3 ++ [imm]
  | .rcrOne w m => [0b1101000#7 ++ bit w] ++ m.encode 0b011#3
  | .rcrCl w m => [0b1101001#7 ++ bit w] ++ m.encode 0b011#3
  | .rcrImm w m imm => [0b1100000#7 ++ bit w] ++ m.encode 0b011#3 ++ [imm]
  | .shlOne w m => [0b1101000#7 ++ bit w] ++ m.encode 0b100#3
  | .shlCl w m => [0b1101001#7 ++ bit w] ++ m.encode 0b100#3
  | .shlImm w m imm => [0b1100000#7 ++ bit w] ++ m.encode 0b100#3 ++ [imm]
  | .shrOne w m => [0b1101000#7 ++ bit w] ++ m.encode 0b101#3
  | .shrCl w m => [0b1101001#7 ++ bit w] ++ m.encode 0b101#3
  | .shrImm w m imm => [0b1100000#7 ++ bit w] ++ m.encode 0b101#3 ++ [imm]
  | .sarOne w m => [0b1101000#7 ++ bit w] ++ m.encode 0b111#3
  | .sarCl w m => [0b1101001#7 ++ bit w] ++ m.encode 0b111#3
  | .sarImm w m imm => [0b1100000#7 ++ bit w] ++ m.encode 0b111#3 ++ [imm]
  | .shldImm m r imm => [0x0F, 0xA4] ++ m.encode r.code ++ [imm]
  | .shldCl m r => [0x0F, 0xA5] ++ m.encode r.code
  | .shrdImm m r imm => [0x0F, 0xAC] ++ m.encode r.code ++ [imm]
  | .shrdCl m r => [0x0F, 0xAD] ++ m.encode r.code
  | .andRmReg d w m r => [0b001000#6 ++ bit d ++ bit w] ++ m.encode r.code
  | .andRmImm s w m imm => [0b100000#6 ++ bit s ++ bit w] ++ m.encode 0b100#3 ++ encodeBits (c.immsBits s w) imm
  | .andAccImm w imm => [0b0010010#7 ++ bit w] ++ encodeBits (c.immBits w) imm
  | .testRmReg w m r => [0b1000010#7 ++ bit w] ++ m.encode r.code
  | .testRmImm w m imm => [0b1111011#7 ++ bit w] ++ m.encode 0b000#3 ++ encodeBits (c.immBits w) imm
  | .testAccImm w imm => [0b1010100#7 ++ bit w] ++ encodeBits (c.immBits w) imm
  | .orRmReg d w m r => [0b000010#6 ++ bit d ++ bit w] ++ m.encode r.code
  | .orRmImm s w m imm => [0b100000#6 ++ bit s ++ bit w] ++ m.encode 0b001#3 ++ encodeBits (c.immsBits s w) imm
  | .orAccImm w imm => [0b0000110#7 ++ bit w] ++ encodeBits (c.immBits w) imm
  | .xorRmReg d w m r => [0b001100#6 ++ bit d ++ bit w] ++ m.encode r.code
  | .xorRmImm s w m imm => [0b100000#6 ++ bit s ++ bit w] ++ m.encode 0b110#3 ++ encodeBits (c.immsBits s w) imm
  | .xorAccImm w imm => [0b0011010#7 ++ bit w] ++ encodeBits (c.immBits w) imm
  | .notRm w m => [0b1111011#7 ++ bit w] ++ m.encode 0b010#3
  | .cmps w => [0b1010011#7 ++ bit w]
  | .ins w => [0b0110110#7 ++ bit w]
  | .lods w => [0b1010110#7 ++ bit w]
  | .movs w => [0b1010010#7 ++ bit w]
  | .outs w => [0b0110111#7 ++ bit w]
  | .scas w => [0b1010111#7 ++ bit w]
  | .stos w => [0b1010101#7 ++ bit w]
  | .xlat => [0xD7]
  | .repeCmps w => [0xF3, 0b1010011#7 ++ bit w]
  | .repneCmps w => [0xF2, 0b1010011#7 ++ bit w]
  | .repIns w => [0xF3, 0b0110110#7 ++ bit w]
  | .repLods w => [0xF3, 0b1010110#7 ++ bit w]
  | .repMovs w => [0xF3, 0b1010010#7 ++ bit w]
  | .repOuts w => [0xF3, 0b0110111#7 ++ bit w]
  | .repeScas w => [0xF3, 0b1010111#7 ++ bit w]
  | .repneScas w => [0xF2, 0b1010111#7 ++ bit w]
  | .repStos w => [0xF3, 0b1010101#7 ++ bit w]
  | .bsf m r => [0x0F, 0xBC] ++ m.encode r.code
  | .bsr m r => [0x0F, 0xBD] ++ m.encode r.code
  | .btRmImm m imm => [0x0F, 0xBA] ++ m.encode 0b100#3 ++ [imm]
  | .btRmReg m r => [0x0F, 0xA3] ++ m.encode r.code
  | .btcRmImm m imm => [0x0F, 0xBA] ++ m.encode 0b111#3 ++ [imm]
  | .btcRmReg m r => [0x0F, 0xBB] ++ m.encode r.code
  | .btrRmImm m imm => [0x0F, 0xBA] ++ m.encode 0b110#3 ++ [imm]
  | .btrRmReg m r => [0x0F, 0xB3] ++ m.encode r.code
  | .btsRmImm m imm => [0x0F, 0xBA] ++ m.encode 0b101#3 ++ [imm]
  | .btsRmReg m r => [0x0F, 0xAB] ++ m.encode r.code
  | .callRel rel => [0xE8] ++ encodeBits c.oszBits rel
  | .callRm m => [0xFF] ++ m.encode 0b010#3
  | .callFar off sel => [0x9A] ++ encodeBits c.oszBits off ++ encode16 sel
  | .callFarMem m => [0xFF] ++ m.encode 0b011#3
  | .jmpShort rel => [0xEB] ++ [rel]
  | .jmpRel rel => [0xE9] ++ encodeBits c.oszBits rel
  | .jmpRm m => [0xFF] ++ m.encode 0b100#3
  | .jmpFar off sel => [0xEA] ++ encodeBits c.oszBits off ++ encode16 sel
  | .jmpFarMem m => [0xFF] ++ m.encode 0b101#3
  | .ret => [0xC3]
  | .retImm imm => [0xC2] ++ encode16 imm
  | .retf => [0xCB]
  | .retfImm imm => [0xCA] ++ encode16 imm
  | .joShort rel => [0x70] ++ [rel]
  | .jnoShort rel => [0x71] ++ [rel]
  | .jbShort rel => [0x72] ++ [rel]
  | .jnbShort rel => [0x73] ++ [rel]
  | .jeShort rel => [0x74] ++ [rel]
  | .jneShort rel => [0x75] ++ [rel]
  | .jbeShort rel => [0x76] ++ [rel]
  | .jnbeShort rel => [0x77] ++ [rel]
  | .jsShort rel => [0x78] ++ [rel]
  | .jnsShort rel => [0x79] ++ [rel]
  | .jpShort rel => [0x7A] ++ [rel]
  | .jnpShort rel => [0x7B] ++ [rel]
  | .jlShort rel => [0x7C] ++ [rel]
  | .jnlShort rel => [0x7D] ++ [rel]
  | .jleShort rel => [0x7E] ++ [rel]
  | .jnleShort rel => [0x7F] ++ [rel]
  | .joNear rel => [0x0F, 0x80] ++ encodeBits c.oszBits rel
  | .jnoNear rel => [0x0F, 0x81] ++ encodeBits c.oszBits rel
  | .jbNear rel => [0x0F, 0x82] ++ encodeBits c.oszBits rel
  | .jnbNear rel => [0x0F, 0x83] ++ encodeBits c.oszBits rel
  | .jeNear rel => [0x0F, 0x84] ++ encodeBits c.oszBits rel
  | .jneNear rel => [0x0F, 0x85] ++ encodeBits c.oszBits rel
  | .jbeNear rel => [0x0F, 0x86] ++ encodeBits c.oszBits rel
  | .jnbeNear rel => [0x0F, 0x87] ++ encodeBits c.oszBits rel
  | .jsNear rel => [0x0F, 0x88] ++ encodeBits c.oszBits rel
  | .jnsNear rel => [0x0F, 0x89] ++ encodeBits c.oszBits rel
  | .jpNear rel => [0x0F, 0x8A] ++ encodeBits c.oszBits rel
  | .jnpNear rel => [0x0F, 0x8B] ++ encodeBits c.oszBits rel
  | .jlNear rel => [0x0F, 0x8C] ++ encodeBits c.oszBits rel
  | .jnlNear rel => [0x0F, 0x8D] ++ encodeBits c.oszBits rel
  | .jleNear rel => [0x0F, 0x8E] ++ encodeBits c.oszBits rel
  | .jnleNear rel => [0x0F, 0x8F] ++ encodeBits c.oszBits rel
  | .jcxz rel => [0xE3] ++ [rel]
  | .loop rel => [0xE2] ++ [rel]
  | .loopz rel => [0xE1] ++ [rel]
  | .loopnz rel => [0xE0] ++ [rel]
  | .seto m => [0x0F, 0x90] ++ m.encode 0b000#3
  | .setno m => [0x0F, 0x91] ++ m.encode 0b000#3
  | .setb m => [0x0F, 0x92] ++ m.encode 0b000#3
  | .setnb m => [0x0F, 0x93] ++ m.encode 0b000#3
  | .sete m => [0x0F, 0x94] ++ m.encode 0b000#3
  | .setne m => [0x0F, 0x95] ++ m.encode 0b000#3
  | .setbe m => [0x0F, 0x96] ++ m.encode 0b000#3
  | .setnbe m => [0x0F, 0x97] ++ m.encode 0b000#3
  | .sets m => [0x0F, 0x98] ++ m.encode 0b000#3
  | .setns m => [0x0F, 0x99] ++ m.encode 0b000#3
  | .setp m => [0x0F, 0x9A] ++ m.encode 0b000#3
  | .setnp m => [0x0F, 0x9B] ++ m.encode 0b000#3
  | .setl m => [0x0F, 0x9C] ++ m.encode 0b000#3
  | .setnl m => [0x0F, 0x9D] ++ m.encode 0b000#3
  | .setle m => [0x0F, 0x9E] ++ m.encode 0b000#3
  | .setnle m => [0x0F, 0x9F] ++ m.encode 0b000#3
  | .enter imm level => [0xC8] ++ encode16 imm ++ [level]
  | .leave => [0xC9]
  | .intN imm => [0xCD] ++ [imm]
  | .int3 => [0xCC]
  | .into => [0xCE]
  | .bound m r => [0x62] ++ m.encode r.code
  | .iret => [0xCF]
  | .hlt => [0xF4]
  | .movCrReg c' r => [0x0F, 0x22, 0b11#2 ++ c'.code ++ r.code]
  | .movRegCr c' r => [0x0F, 0x20, 0b11#2 ++ c'.code ++ r.code]
  | .movDrReg c' r => [0x0F, 0x23, 0b11#2 ++ c'.code ++ r.code]
  | .movRegDr c' r => [0x0F, 0x21, 0b11#2 ++ c'.code ++ r.code]
  | .movTrReg c' r => [0x0F, 0x26, 0b11#2 ++ c'.code ++ r.code]
  | .movRegTr c' r => [0x0F, 0x24, 0b11#2 ++ c'.code ++ r.code]
  | .nop => [0x90]
  | .wait => [0x9B]
  | .esc ttt lll m => [0b11011#5 ++ ttt] ++ m.encode lll
  | .pfxAddrSize => [0x67]
  | .pfxLock => [0xF0]
  | .pfxOpSize => [0x66]
  | .pfxCs => [0x2E]
  | .pfxDs => [0x3E]
  | .pfxEs => [0x26]
  | .pfxFs => [0x64]
  | .pfxGs => [0x65]
  | .pfxSs => [0x36]
  | .pfxRep => [0xF3]
  | .pfxRepne => [0xF2]
  | .arpl m r => [0x63] ++ m.encode r.code
  | .lar m r => [0x0F, 0x02] ++ m.encode r.code
  | .lgdt m => [0x0F, 0x01] ++ m.encode 0b010#3
  | .lidt m => [0x0F, 0x01] ++ m.encode 0b011#3
  | .lldt m => [0x0F, 0x00] ++ m.encode 0b010#3
  | .lmsw m => [0x0F, 0x01] ++ m.encode 0b110#3
  | .lsl m r => [0x0F, 0x03] ++ m.encode r.code
  | .ltr m => [0x0F, 0x00] ++ m.encode 0b011#3
  | .sgdt m => [0x0F, 0x01] ++ m.encode 0b000#3
  | .sidt m => [0x0F, 0x01] ++ m.encode 0b001#3
  | .sldt m => [0x0F, 0x00] ++ m.encode 0b000#3
  | .smsw m => [0x0F, 0x01] ++ m.encode 0b100#3
  | .str m => [0x0F, 0x00] ++ m.encode 0b001#3
  | .verr m => [0x0F, 0x00] ++ m.encode 0b100#3
  | .verw m => [0x0F, 0x00] ++ m.encode 0b101#3
  | .und8F1 md rm => [0x8F, md ++ 0b001#3 ++ rm]
  | .und8F2 md rm => [0x8F, md ++ 0b010#3 ++ rm]
  | .und8F3 md rm => [0x8F, md ++ 0b011#3 ++ rm]
  | .und8F4 md rm => [0x8F, md ++ 0b100#3 ++ rm]
  | .und8F5 md rm => [0x8F, md ++ 0b101#3 ++ rm]
  | .und8F6 md rm => [0x8F, md ++ 0b110#3 ++ rm]
  | .und8F7 md rm => [0x8F, md ++ 0b111#3 ++ rm]
  | .undC61 w md rm => [0b1100011#7 ++ bit w, md ++ 0b001#3 ++ rm]
  | .undC62 w md rm => [0b1100011#7 ++ bit w, md ++ 0b010#3 ++ rm]
  | .undC63 w md rm => [0b1100011#7 ++ bit w, md ++ 0b011#3 ++ rm]
  | .undC64 w md rm => [0b1100011#7 ++ bit w, md ++ 0b100#3 ++ rm]
  | .undC65 w md rm => [0b1100011#7 ++ bit w, md ++ 0b101#3 ++ rm]
  | .undC66 w md rm => [0b1100011#7 ++ bit w, md ++ 0b110#3 ++ rm]
  | .undC67 w md rm => [0b1100011#7 ++ bit w, md ++ 0b111#3 ++ rm]
  | .undFE2 md rm => [0xFE, md ++ 0b010#3 ++ rm]
  | .undFE3 md rm => [0xFE, md ++ 0b011#3 ++ rm]
  | .undFE4 md rm => [0xFE, md ++ 0b100#3 ++ rm]
  | .undFE5 md rm => [0xFE, md ++ 0b101#3 ++ rm]
  | .undFE6 md rm => [0xFE, md ++ 0b110#3 ++ rm]
  | .undFE7 md rm => [0xFE, md ++ 0b111#3 ++ rm]
  | .undFF7 md rm => [0xFF, md ++ 0b111#3 ++ rm]
  | .und0F006 md rm => [0x0F, 0x00, md ++ 0b110#3 ++ rm]
  | .und0F007 md rm => [0x0F, 0x00, md ++ 0b111#3 ++ rm]
  | .und0F015 md rm => [0x0F, 0x01, md ++ 0b101#3 ++ rm]
  | .und0F017 md rm => [0x0F, 0x01, md ++ 0b111#3 ++ rm]
  | .und0FBA0 md rm => [0x0F, 0xBA, md ++ 0b000#3 ++ rm]
  | .und0FBA1 md rm => [0x0F, 0xBA, md ++ 0b001#3 ++ rm]
  | .und0FBA2 md rm => [0x0F, 0xBA, md ++ 0b010#3 ++ rm]
  | .und0FBA3 md rm => [0x0F, 0xBA, md ++ 0b011#3 ++ rm]
  | .undShift6 d w md rm => [0b110100#6 ++ bit d ++ bit w, md ++ 0b110#3 ++ rm]
  | .undShiftImm6 w md rm => [0b1100000#7 ++ bit w, md ++ 0b110#3 ++ rm]
  | .undF61 w md rm => [0b1111011#7 ++ bit w, md ++ 0b001#3 ++ rm]
  | .undD6 => [0xD6]
  | .undF1 => [0xF1]
  | .und0F05 => [0x0F, 0x05]
  | .und0F07 => [0x0F, 0x07]
  | .und0FA6 => [0x0F, 0xA6]
  | .und0FA7 => [0x0F, 0xA7]

end Sys2Proof
end

