-- ==== Sys2Proof/Config.lean ====
section
/-!
DEFINITION. What an implementation or its environment fixes and the spec leaves open: constants WITHOUT a body, so that nothing
can be proved of a value the spec does not give (00_scope.md R12, R19; 92_eei_decisions.md section 2).
-/
namespace Sys2Proof

/-- The `slot`-th undefined value (`UNDEF` of 00_scope.md R19) drawn at index `idx` of `State.freeIdx`: an undefined flag, the
undefined upper half of a register or stack item, the undefined result of an instruction. No body: any value (log entry 3). -/
opaque Config.undef (idx slot : Nat) : Word

/-- The byte a port answers where the platform lists nothing for it (20_memory.md R251; 92_eei_decisions.md D10): the `idx`-th read,
at port `port`. No body: any value (log entry 11). -/
opaque Config.portInput (idx port : Nat) : Byte

/-- Which of the values an instruction byte has held since the queues were last emptied the fetch at physical address `key` returns
(20_memory.md R262; 92_eei_decisions.md D2). No body: any of them (log entry 5). -/
opaque Config.fetchChoice (idx key : Nat) : Nat

/-- How many bytes past the instruction the prefetch unit reads (20_memory.md R263). No body: any number, of which the queues hold at most
61 (log entry 24). -/
opaque Config.prefetchDepth (idx : Nat) : Nat

/-- Whether a TLB entry that no longer agrees with the page tables is still held and used (22_paging.md R480, R483), drawn at each access
from `State.accessIdx`. No body: either (log entry 4). -/
opaque Config.tlbKeeps (idx : Nat) : Bool

/-- Which entry a full TLB gives up for a new one (22_paging.md R480: the replacement policy is not specified). No body: any
(log entry 4). -/
opaque Config.tlbVictim (idx : Nat) : Nat

/-- Whether a walk that finds the table entry not present has already set Accessed in the directory entry (22_paging.md R461;
92_eei_decisions.md D19). No body: either (log entry 4). -/
opaque Config.directoryMarked (idx : Nat) : Bool

/-- Whether an instruction that follows a change of CR0.PE, before a control transfer, was decoded before the change
(70_reset_and_hazards.md R1220, R1221). No body: either (log entry 23). -/
opaque Config.decodedBefore (idx : Nat) : Bool

/-- Whether a stack segment whose cache is left at B = 1 has a 32-bit stack pointer outside Protected Mode, as 48_interrupt_instructions.md
R931 and 70_reset_and_hazards.md R1226 say, where 30_encoding.md R513 has a 16-bit one. No body: either (log entry 38). -/
opaque Config.realStack32 : Bool

/-- Whether the memory operand that LGDT and LIDT require is looked for before their privilege (60_exceptions.md R1055), or the privilege
first (49_system.md R987). No body: either (log entry 21). -/
opaque Config.formBeforePrivilege : Bool

/-- Whether the coprocessor instruction with these opcode bits and a memory operand writes its operand: the direction of its transfers,
which the spec leaves to the coprocessor's data sheet (49_system.md R975, R976). No body: either (log entry 16). -/
opaque Config.escStores (ttt lll : BitVec 3) : Bool

/-- Whether the part accepts a TSS whose limit is one of the doubtful values 65H, 66H (386) and 2BH (286)
(21_protection.md R383; 92_eei_decisions.md D12). No body: either (log entry 8). -/
opaque Config.tssLimitAccepted (limit : Nat) : Bool

/-- Whether an enabled breakpoint `n` whose R/W or LEN field holds the undefined code 10 is met by an access
(10_state.md R112). No body: either (log entry 9). -/
opaque Config.breakpointUndefined (idx n : Nat) : Bool

end Sys2Proof
end

