-- ==== Sys2Proof/Machine/State.lean ====
section
/-!
DEFINITION. The state of the Intel386 SX as 10_state.md lists it, the faults and refusals of the model, and the state after reset.
INVENTORY.md names the rule and the reset value of every field; the marks below are those of notes/assumptions.
-/
namespace Sys2Proof.Machine

open Sys2Proof

/-- How the machine can stop with a fault. Exceptions are no faults: they are taken (60_exceptions.md). -/
inductive Fault where
  /-- A bus cycle that READY# never ends stalls the processor for ever (20_memory.md R258; D10). Raised by the step of a stalled machine to
  which the environment brings no further event, hence no RESET. Safe: nothing follows it. -/
  | busStall
deriving DecidableEq, Repr

/-- Why the model gives no meaning. Every one is safe: a refused step proves nothing about what the part would do. -/
inductive Refusal where
  /-- An instruction that has no meaning in this model; raised by no arm of `exec`. Safe. -/
  | notModelled (mnemonic : String)
  /-- One of the undocumented opcodes of 30_encoding.md R570 (D23); raised by the meanings of those nine rows. Safe. -/
  | undocumentedOpcode
  /-- SETcc with a middle field other than 000 (47_setcc_enter_leave.md R900, D27); raised by the decoder. Safe. -/
  | setccField
  /-- MOV to or from CRn, DRn, TRn with top bits other than 11 (30_encoding.md R526), where the level permits the instruction; raised by
  the step. Safe. -/
  | specialMod
  /-- MOV to or from CR1 (30_encoding.md R526), where the level permits the instruction; raised by the step. Safe. -/
  | cr1
  /-- MOV to or from DR4 or DR5 (30_encoding.md R526), where the level permits the instruction; raised by the step. Safe. -/
  | dr45
  /-- A write of TR6 or TR7 while paging is on (10_state.md R133, D16); raised by MOV TRn. Safe. -/
  | testRegisterWithPaging
  /-- A 286 gate met by an interrupt in Virtual 8086 mode (60_exceptions.md R1070, D33); raised by exception delivery. Safe. -/
  | gate286FromV86
  /-- ESC with EM = 0, TS = 0 and no coprocessor attached (49_system.md R975); raised by ESC. Safe. -/
  | coprocessorAbsent
  /-- MOV CR0 clears PE with a segment cache that REAL mode does not allow (70_reset_and_hazards.md R1226, D38); raised by that
  instruction. Safe. -/
  | realCaches
deriving DecidableEq, Repr

/-- The eight general registers, 32 bits each (10_state.md R50). -/
structure Regs where
  eax : Word
  ecx : Word
  edx : Word
  ebx : Word
  esp : Word
  ebp : Word
  esi : Word
  edi : Word
deriving DecidableEq, Repr

/-- The defined bits of EFLAGS (10_state.md R60); the others are fixed (R61). -/
structure Flags where
  cf : Bool
  pf : Bool
  af : Bool
  zf : Bool
  sf : Bool
  tf : Bool
  ifl : Bool
  df : Bool
  off : Bool
  iopl : BitVec 2
  nt : Bool
  rf : Bool
  vm : Bool
deriving DecidableEq, Repr

/-- A segment register, or LDTR or TR, with its descriptor cache (10_state.md R70, R102). `ar` is G, D/B, 0, AVL (bits 11 to 8)
over the access rights byte P, DPL, S, TYPE (bits 7 to 0). -/
structure SegReg where
  sel : Half
  base : Word
  limit : Word
  ar : BitVec 12
  valid : Bool
deriving DecidableEq, Repr

/-- GDTR or IDTR (10_state.md R101). -/
structure TableReg where
  base : Word
  limit : Half
deriving DecidableEq, Repr

/-- An entry of the translation lookaside buffer (22_paging.md R480). -/
structure TlbEntry where
  vpn : BitVec 20
  frame : BitVec 20
  us : Bool
  rw : Bool
  d : Bool
deriving DecidableEq, Repr

/-- The run state (10_state.md R145; 60_exceptions.md R1140 to R1143), with the bus cycle that READY# does not end (20_memory.md R258),
which RESET alone ends (70_reset_and_hazards.md R1200). -/
inductive Run where
  | running
  | halted
  | shutdown
  | stalled
deriving DecidableEq, Repr

/-- Pending debug trap information (10_state.md R146): TF at the start of the instruction in progress, and the causes exception 1
is to be raised for at the next boundary. -/
structure Pend where
  tfStart : Bool
  bs : Bool
  bt : Bool
  /-- the breakpoints whose data condition was met, enabled or not (the bits B3 to B0 that DR6 gets). -/
  hits : BitVec 4
  /-- an enabled one was among them. -/
  fire : Bool
deriving DecidableEq, Repr

/-- The prefix bytes read so far of the instruction in progress (30_encoding.md R504 to R509). Between instructions it is empty. -/
structure Pfx where
  opSize : Bool
  addrSize : Bool
  seg : Option Seg
  lock : Bool
  rep : Option Rep
  count : Nat
deriving DecidableEq, Repr

/-- The input pins the processor samples as levels, and the vector the platform answers to an acknowledge
(10_state.md R147; 00_scope.md R12). True is asserted. -/
structure Pins where
  intr : Bool
  intaVector : Byte
  busy : Bool
  error : Bool
deriving DecidableEq, Repr

/-- What ends the processor's activity at a bus operation (70_reset_and_hazards.md R1200; 20_memory.md R258). -/
inductive BusStop where
  | reset
  | stall
deriving DecidableEq, Repr

/-- What comes before one bus operation of the processor: the bytes other bus masters write, and RESET or a READY# that never comes
(20_memory.md R238; log entry 13). -/
structure BusTurn where
  writes : List (BitVec 24 × Byte)
  stop : Option BusStop
deriving DecidableEq, Repr

/-- The bus cycles that tell the platform what the processor does (60_exceptions.md R1081, R1140, R1141, R1143). -/
inductive BusCycle where
  /-- The halt indication, at address 2. -/
  | halt
  /-- The shutdown indication, at address 0. -/
  | shutdown
  /-- The first interrupt acknowledge, at address 4. -/
  | intAckFirst
  /-- The second, at address 0, which reads the vector. -/
  | intAckSecond
deriving DecidableEq, Repr

/-- The byte address of an indication or acknowledge cycle (60_exceptions.md R1081, R1143). -/
def BusCycle.address : BusCycle → Nat
  | .halt => 2
  | .shutdown => 0
  | .intAckFirst => 4
  | .intAckSecond => 0

/-- An exception: its vector, and its error code where it has one (60_exceptions.md R1050, R1068). -/
structure Exc where
  vector : Byte
  code : Option Half
deriving DecidableEq, Repr

/-- What the processor keeps of the coprocessor instruction with a memory operand it has handed over: the operand's segment, the offset
of the next item, the direction, and where the instruction stands, which a fault of its first item saves (49_system.md R975, R976;
60_exceptions.md R1051). -/
structure EscCommand where
  ttt : BitVec 3
  lll : BitVec 3
  seg : SegReg
  /-- the segment register is SS. -/
  stack : Bool
  off : Word
  asz32 : Bool
  /-- the items go from the coprocessor to memory. -/
  stores : Bool
  /-- an item has been transferred. -/
  started : Bool
  /-- CS and the address of the ESC instruction, its prefixes included. -/
  cs : SegReg
  eip : Word
deriving DecidableEq, Repr

/-- One event of the environment at an instruction boundary (60_exceptions.md R1152; 00_scope.md R12; log entry 12). -/
inductive Stimulus where
  /-- The level of INTR, and the vector an acknowledge would read. -/
  | intr (asserted : Bool) (vector : Byte)
  /-- A rising edge of NMI. -/
  | nmi
  /-- The level of BUSY#. -/
  | busy (asserted : Bool)
  /-- The level of ERROR#. -/
  | error (asserted : Bool)
  /-- RESET (70_reset_and_hazards.md R1200). -/
  | reset
  /-- Another bus master writes a byte of physical memory (20_memory.md R238). -/
  | dma (address : BitVec 24) (value : Byte)
  /-- The platform changes what a port answers (20_memory.md R251). -/
  | port (port : Half) (value : Byte)
  /-- READY# never comes (20_memory.md R258). -/
  | stall
  /-- PEREQ: the coprocessor asks for one item of its operand, 16 or 32 bits, to be transferred; `value` is what its operand register
  holds where the item goes to memory (49_system.md R976, R977). -/
  | pereq (dword : Bool) (value : Word)
deriving DecidableEq, Repr

/-- What the part and the platform fix (00_scope.md R12). Never written by a step. -/
structure Platform where
  steppingId : Byte
  selfTestSignature : Word
  cr0Bit4Writable : Bool
  a20Wrap : Bool
  has387 : Bool
deriving DecidableEq, Repr

/-- The machine (10_state.md). -/
structure State where
  /-- The general registers. -/
  regs : Regs
  /-- The instruction pointer (R57). -/
  eip : Word
  /-- `EIP_next` of the instruction in progress (R58). -/
  eipNext : Word
  /-- EFLAGS (R60). -/
  flags : Flags
  /-- The segment registers (R70). -/
  es : SegReg
  cs : SegReg
  ss : SegReg
  ds : SegReg
  fs : SegReg
  gs : SegReg
  /-- The system address registers (R100 to R102). -/
  ldtr : SegReg
  tr : SegReg
  gdtr : TableReg
  idtr : TableReg
  /-- The current privilege level (R75). -/
  cpl : BitVec 2
  /-- The control registers (R90 to R95). -/
  cr0 : Word
  cr2 : Word
  cr3 : Word
  /-- The debug registers (R110 to R113). -/
  dr0 : Word
  dr1 : Word
  dr2 : Word
  dr3 : Word
  dr6 : Word
  dr7 : Word
  /-- The test registers (R130 to R133). -/
  tr6 : Word
  tr7 : Word
  /-- The translation lookaside buffer (R141). -/
  tlb : List TlbEntry
  /-- Old values of bytes stored since the instruction queues were last emptied, which a fetch may still return (R142). -/
  stale : List Host.Cell
  /-- Bytes, by linear address, that the queues may have read through a translation that is no longer in force: before a change of PG or CR3,
  or through an entry that the TLB has given up (R142; 22_paging.md R484). -/
  queued : List Host.Cell
  /-- Protected Mode as it was before a change of PE, while the queues may still hold instructions decoded then (R142). -/
  queuedMode : Option Bool
  /-- NMI state (R143). -/
  nmiInService : Bool
  nmiPending : Bool
  /-- Interrupt inhibit for one instruction (R144). -/
  inhibit : Bool
  /-- The inhibit as it was when the instruction in progress began: it lasts until that instruction completes (R144). -/
  held : Bool
  /-- The run state (R145). -/
  run : Run
  /-- Pending debug trap information (R146). -/
  pend : Pend
  /-- The prefixes of the instruction in progress. -/
  pfx : Pfx
  /-- The input pins (R147). -/
  pins : Pins
  /-- The environment's coming events; each instruction boundary takes the first of the lists, which may be empty. -/
  stimuli : List (List Stimulus)
  /-- What other bus masters, RESET and READY# do before the coming bus operations, one entry for each (20_memory.md R238). -/
  bus : List BusTurn
  /-- Physical memory (20_memory.md R203): addresses strictly rising, no byte equal to what an unlisted address reads as. -/
  mem : List Host.Cell
  /-- What the platform's ports answer (20_memory.md R251). -/
  ioIn : List Host.Cell
  /-- The byte writes made to ports, the newest first (20_memory.md R251), those to the coprocessor's opcode register at 8000F8H among
  them (49_system.md R977). -/
  ioOut : List Host.Cell
  /-- The indication and acknowledge cycles the processor has made, the newest first (60_exceptions.md R1081, R1143). -/
  cycles : List BusCycle
  /-- The coprocessor instruction whose operand may still be transferred (49_system.md R976). -/
  escCommand : Option EscCommand
  /-- The exception due from a transfer of a coprocessor operand that ran into a limit or a page fault: exception 9 after the first item
  (49_system.md R979), else the one met (R976). -/
  escDue : Option Exc
  /-- What the part and the platform fix. -/
  platform : Platform
  /-- The model's own: the index at which undefined values are drawn (00_scope.md R19; log entry 3). -/
  freeIdx : Nat
  /-- The model's own: the index at which what is open for each access is drawn (log entry 4). -/
  accessIdx : Nat
deriving DecidableEq, Repr

/-- No prefix read. -/
def Pfx.none : Pfx := { opSize := false, addrSize := false, seg := Option.none, lock := false, rep := Option.none, count := 0 }

/-- No debug trap pending. -/
def Pend.none : Pend := { tfStart := false, bs := false, bt := false, hits := 0, fire := false }

/-- The attributes of every segment register after reset: present, readable, writable, expand-up, D = 0, byte granular
(10_state.md R160). DPL 0 and the Accessed bit 1 are the model's, for R160 gives neither (DESIGN CHOICE, log entry 1). -/
def resetAr : BitVec 12 := 0x093

/-- A data segment register after reset (10_state.md R160). -/
def SegReg.reset : SegReg := { sel := 0, base := 0, limit := 0xFFFF, ar := resetAr, valid := true }

/-- LDTR or TR after reset: null (DESIGN CHOICE, log entry 1). -/
def SegReg.null : SegReg := { sel := 0, base := 0, limit := 0, ar := 0, valid := false }

/-- The defaults that 00_scope.md R12 recommends. -/
def Platform.default : Platform :=
  { steppingId := 0x08, selfTestSignature := 0, cr0Bit4Writable := false, a20Wrap := false, has387 := false }

/-- The machine right after reset (10_state.md R160 to R162; 70_reset_and_hazards.md R1200 to R1203). The registers the rules leave
undefined are zero: DESIGN CHOICE, unsafe, log entry 1. Memory lists nothing: log entry 2. -/
def State.reset : State where
  regs := { eax := 0, ecx := 0, edx := 0x00002308, ebx := 0, esp := 0, ebp := 0, esi := 0, edi := 0 }
  eip := 0x0000FFF0
  eipNext := 0
  flags :=
    { cf := false, pf := false, af := false, zf := false, sf := false, tf := false, ifl := false, df := false, off := false
      iopl := 0, nt := false, rf := false, vm := false }
  es := SegReg.reset
  cs := { SegReg.reset with sel := 0xF000, base := 0xFFFF0000 }
  ss := SegReg.reset
  ds := SegReg.reset
  fs := SegReg.reset
  gs := SegReg.reset
  ldtr := SegReg.null
  tr := SegReg.null
  gdtr := { base := 0, limit := 0 }
  idtr := { base := 0, limit := 0x03FF }
  cpl := 0
  cr0 := 0x00000010
  cr2 := 0
  cr3 := 0
  dr0 := 0
  dr1 := 0
  dr2 := 0
  dr3 := 0
  dr6 := 0
  dr7 := 0
  tr6 := 0
  tr7 := 0
  tlb := []
  stale := []
  queued := []
  queuedMode := none
  nmiInService := false
  nmiPending := false
  inhibit := false
  held := false
  run := .running
  pend := Pend.none
  pfx := Pfx.none
  pins := { intr := false, intaVector := 0, busy := false, error := false }
  stimuli := []
  bus := []
  mem := []
  ioIn := []
  ioOut := []
  cycles := []
  escCommand := none
  escDue := none
  platform := Platform.default
  freeIdx := 0
  accessIdx := 0

end Sys2Proof.Machine
end

