-- ==== Sys2Proof/Machine/Memory.lean ====
section
/-!
DEFINITION. Memory: the physical cells (20_memory.md R203, R205), paging and the TLB (22_paging.md), the segment checks of every
memory reference (20_memory.md R220 to R224), instruction bytes, and the I/O space (R250, R251); with the monad of the machine and
the exceptions raised in it.
-/
namespace Sys2Proof.Machine

open Sys2Proof

/-! The monad of the machine. -/

/-- How the meaning of an instruction stops short: an exception, a refusal, or what ended the processor's activity at a bus operation.
An exception that `keep`s is raised past the commit point of a task switch: it is taken in the state reached (21_protection.md R387
step 6). -/
inductive Stop where
  | exc (e : Exc) (keep : Bool)
  | refuse (r : Refusal)
  | bus (b : BusStop)
deriving DecidableEq, Repr

/-- Computations on the state that may stop. -/
abbrev M (α : Type) := EStateM Stop State α

/-- `raise #XX(code)` (00_scope.md R18). -/
def raise {α : Type} (vector : Byte) (code : Option Half) : M α := throw (.exc { vector := vector, code := code } false)

/-- The model gives no meaning. -/
def refuse {α : Type} (r : Refusal) : M α := throw (.refuse r)

/-- `#XX(sel)`: index and TI of the selector, IDT and EXT clear (21_protection.md R337). -/
def selCode (sel : Half) : Half := sel &&& 0xFFFC

def raiseDE {α : Type} : M α := raise 0 none
def raiseBR {α : Type} : M α := raise 5 none
def raiseUD {α : Type} : M α := raise 6 none
def raiseNM {α : Type} : M α := raise 7 none
def raiseMF {α : Type} : M α := raise 16 none
/-- `#GP(0)`. -/
def raiseGP0 {α : Type} : M α := raise 13 (some 0)
/-- `#SS(0)`. -/
def raiseSS0 {α : Type} : M α := raise 12 (some 0)
/-- `#TS(sel)`. -/
def raiseTS {α : Type} (sel : Half) : M α := raise 10 (some (selCode sel))
/-- `#NP(sel)`. -/
def raiseNP {α : Type} (sel : Half) : M α := raise 11 (some (selCode sel))
/-- `#SS(sel)`. -/
def raiseSS {α : Type} (sel : Half) : M α := raise 12 (some (selCode sel))
/-- `#GP(sel)`. -/
def raiseGP {α : Type} (sel : Half) : M α := raise 13 (some (selCode sel))

/-- Raise where a condition holds. -/
def raiseIf (c : Bool) (x : M Unit) : M Unit := if c then x else pure ()

/-! Modes (00_scope.md R20). -/

/-- CR0.PE. -/
def State.pe (s : State) : Bool := s.cr0.getLsbD 0

/-- CR0.PG. -/
def State.pg (s : State) : Bool := s.cr0.getLsbD 31

/-- Virtual 8086 mode. -/
def State.v86 (s : State) : Bool := s.pe && s.flags.vm

/-- Protected Mode other than Virtual 8086 mode. -/
def State.prot (s : State) : Bool := s.pe && !s.flags.vm

/-- Whether the program's own accesses are user accesses (22_paging.md R472). -/
def State.user (s : State) : Bool := s.cpl == 3

/-! Physical memory. -/

/-- What a byte of memory that nothing has written reads as (DESIGN CHOICE, unsafe, log entry 2). -/
def unlistedByte : Byte := 0

/-- The byte at `a` of a list of cells. -/
def cellAt : List Host.Cell → Nat → Byte
  | [], _ => unlistedByte
  | (k, v) :: rest, a => if k = a then v else cellAt rest a

/-- The cells with the byte at `a` set to `v`, keeping the canonical form. -/
def cellPut : List Host.Cell → Nat → Byte → List Host.Cell
  | [], a, v => if v = unlistedByte then [] else [(a, v)]
  | (k, w) :: rest, a, v =>
    if a < k then (if v = unlistedByte then (k, w) :: rest else (a, v) :: (k, w) :: rest)
    else if a = k then (if v = unlistedByte then rest else (a, v) :: rest)
    else (k, w) :: cellPut rest a v

/-- The size of physical memory (20_memory.md R203). -/
def memSize : Nat := 2 ^ 24

/-- The canonical form: addresses strictly rising and within the address space, no byte equal to what an unlisted address reads as. -/
abbrev memWf (cells : List Host.Cell) : Prop :=
  cells.Pairwise (fun a b => a.1 < b.1) ∧ ∀ c ∈ cells, c.1 < memSize ∧ c.2 ≠ unlistedByte

/-- The byte of physical memory at `a`. -/
def State.byte (s : State) (a : Nat) : Byte := cellAt s.mem a

/-- The byte of physical memory a physical address names: 24 bits (20_memory.md R203), bit 20 cleared where the platform forces A20
low (R214). -/
def State.physKey (s : State) (pa : Word) : Nat :=
  ((pa.setWidth 24) &&& (if s.platform.a20Wrap then 0xEFFFFF else 0xFFFFFF : BitVec 24)).toNat

/-- One byte written, the old one remembered as what the instruction queues may still hold (20_memory.md R205, R262). -/
def State.putByte (s : State) (a : Nat) (v : Byte) : State :=
  { s with mem := cellPut s.mem a v, stale := (a, s.byte a) :: s.stale }

/-! Other bus masters (20_memory.md R237, R238). -/

/-- The bytes another bus master writes, one after the other. -/
def State.mastered (s : State) : List (BitVec 24 × Byte) → State
  | [] => s
  | (a, v) :: rest => (s.putByte a.toNat v).mastered rest

/-- What is to come before the bus operations after this one. -/
def State.withBus (s : State) (rest : List BusTurn) : State := { s with bus := rest }

/-- What the environment does before the next bus operation of the processor (R238; 70_reset_and_hazards.md R1200; log entry 13). -/
def busTurn : M Unit := fun s =>
  match s.bus with
  | [] => .ok () s
  | x :: rest =>
    let t := (s.withBus rest).mastered x.writes
    match x.stop with
    | none => .ok () t
    | some b => .error (.bus b) t

/-- Other masters have to wait with this entry while the bus is locked; RESET and READY# do not (20_memory.md R234). -/
def BusTurn.heldOff (x : BusTurn) : Bool := !x.writes.isEmpty && x.stop.isNone

/-- A locked sequence: what other masters write stays to come until its end (R234). -/
def locked {α : Type} (x : M α) : M α := fun s =>
  let later := s.bus.dropWhile fun b => !b.heldOff
  match x (s.withBus (s.bus.takeWhile fun b => !b.heldOff)) with
  | .ok a t => .ok a (t.withBus (t.bus ++ later))
  | .error e t => .error e (t.withBus (t.bus ++ later))

/-- A sequence that is locked where a condition holds. -/
def lockedIf {α : Type} (c : Bool) (x : M α) : M α := if c then locked x else x

/-- What the environment does before a bus cycle that follows another one of the same locked sequence, or of the same operand (R232,
R234). -/
def cycleTurn : M Unit := locked busTurn

/-- What other bus masters write between the read and the write of an instruction without LOCK (R237): the next entry of `bus`, unless
that ends the processor's activity, which it then does at the next bus operation. -/
def State.between (s : State) : State :=
  if s.pfx.lock then s
  else
    match s.bus with
    | [] => s
    | x :: rest => if x.stop = none then (s.withBus rest).mastered x.writes else s

/-! Bytes and words. -/

/-- Bytes put together, the first the least significant (20_memory.md R201). -/
def littleEndian : List Byte → Word
  | [] => 0
  | b :: rest => (littleEndian rest <<< 8) ||| b.setWidth 32

/-- The bytes at `keys`, put together. -/
def State.readKeys (s : State) (keys : List Nat) : Word := littleEndian (keys.map s.byte)

/-- The bytes of `v` stored at `keys`, the least significant first. -/
def State.writeKeys (s : State) : List Nat → Word → State
  | [], _ => s
  | a :: rest, v => (s.putByte a (v.setWidth 8)).writeKeys rest (v >>> 8)

/-- The keys of `nb` consecutive bytes of physical memory from `pa` (R203: modulo 2^24). -/
def State.physKeys (s : State) (pa : Word) (nb : Nat) : List Nat :=
  (List.range nb).map fun i => s.physKey (pa + BitVec.ofNat 32 i)

/-! The bounds of a segment (20_memory.md R222). -/

/-- The attribute bits of a descriptor cache (21_protection.md R310, R311). -/
def arA (ar : BitVec 12) : Bool := ar.getLsbD 0
def arW (ar : BitVec 12) : Bool := ar.getLsbD 1
def arC (ar : BitVec 12) : Bool := ar.getLsbD 2
def arE (ar : BitVec 12) : Bool := ar.getLsbD 3
def arS (ar : BitVec 12) : Bool := ar.getLsbD 4
def arDpl (ar : BitVec 12) : BitVec 2 := ar.extractLsb' 5 2
def arP (ar : BitVec 12) : Bool := ar.getLsbD 7
def arD (ar : BitVec 12) : Bool := ar.getLsbD 10
def arType (ar : BitVec 12) : Nat := (ar.extractLsb' 0 4).toNat

/-- An expand-down data segment (Table 4.1). -/
def SegReg.expandDown (r : SegReg) : Bool := !arE r.ar && arC r.ar

/-- The offsets `off` to `off + nb - 1` lie outside the segment (R222). -/
def SegReg.outside (r : SegReg) (off : Word) (nb : Nat) (prot : Bool) : Bool :=
  let last := off.toNat + nb - 1
  if prot && r.expandDown then decide (off.toNat ≤ r.limit.toNat) || decide (last > (if arD r.ar then 0xFFFFFFFF else 0xFFFF))
  else decide (last > r.limit.toNat)

/-! Page tables (22_paging.md sections 2 and 4). -/

/-- `Permits(us, rw, write, kind)` (R470). -/
def permits (us rw write user : Bool) : Bool := !user || (us && (rw || !write))

/-- The linear page number of an address. -/
def pageOf (la : Word) : BitVec 20 := la.extractLsb' 12 20

/-- The physical address of a directory entry (R461). -/
def pdeAddr (cr3 la : Word) : Word := cr3.extractLsb' 12 20 ++ la.extractLsb' 22 10 ++ (0 : BitVec 2)

/-- The physical address of a table entry (R461). -/
def pteAddr (pde la : Word) : Word := pde.extractLsb' 12 20 ++ la.extractLsb' 12 10 ++ (0 : BitVec 2)

/-- An entry of a page directory or table. -/
def State.pageEntry (s : State) (pa : Word) : Word := s.readKeys (s.physKeys pa 4)

/-- The present bit of an entry (R454). -/
def entryP (e : Word) : Bool := e.getLsbD 0

/-- R/W, U/S, Accessed and Dirty of an entry (R454). -/
def entryRW (e : Word) : Bool := e.getLsbD 1
def entryUS (e : Word) : Bool := e.getLsbD 2
def entryA (e : Word) : Bool := e.getLsbD 5
def entryD (e : Word) : Bool := e.getLsbD 6

/-- The frame the tables in memory give a read of `la`, where both entries are present and permit it (R461). -/
def State.tableFrame (s : State) (la : Word) (user : Bool) : Option (BitVec 20) :=
  let pde := s.pageEntry (pdeAddr s.cr3 la)
  let pte := s.pageEntry (pteAddr pde la)
  if entryP pde && entryP pte && permits (entryUS pde && entryUS pte) (entryRW pde && entryRW pte) false user then
    some (pte.extractLsb' 12 20)
  else none

/-! What the instruction queues may have read (10_state.md R142; 20_memory.md R262, R263). -/

/-- How far past an instruction the queues may hold bytes: the prefetch queue's 16 (00_scope.md R9) and those of three decoded instructions
(PRESUMED, log entry 23). -/
def queueDepth : Nat := 16 + 3 * 15

/-- The linear addresses of the code bytes that the queues may hold: those of the instruction at EIP, at most 15, and those after it, within
the limit of CS; none while a task switch has CS still to load. -/
def State.queueWindow (s : State) : List Word :=
  if s.prot && !s.cs.valid then []
  else
    ((List.range (15 + queueDepth)).filter fun i => !s.cs.outside (s.eip + BitVec.ofNat 32 i) 1 s.prot).map fun i =>
      s.cs.base + (s.eip + BitVec.ofNat 32 i)

/-- Every value that the queues may hold of the byte of physical memory at `key` (R262). -/
def State.heldBytes (s : State) (key : Nat) : List Byte :=
  s.byte key :: (s.stale.filter (fun c => c.1 == key)).map (fun c => c.2)

/-- What the queues may hold of the byte at `la` where they read it from the page frame `frame`. -/
def State.heldAt (s : State) (la : Word) (frame : BitVec 20) : List Host.Cell :=
  (s.heldBytes (s.physKey (frame ++ la.extractLsb' 0 12))).map fun b => (la.toNat, b)

/-- What the queues may have read through the TLB entry `e`, if it lets the program read (22_paging.md R470, R480). -/
def State.readThrough (s : State) (e : TlbEntry) : List Host.Cell :=
  if permits e.us e.rw false s.user then (s.queueWindow.filter fun la => pageOf la == e.vpn).flatMap fun la => s.heldAt la e.frame
  else []

/-- What the queues may have read, by linear address: through the entries that the TLB holds, whether or not they still agree with the
tables, and through the tables in memory; with paging off at the linear address itself (R142, R263; 22_paging.md R484). -/
def State.readAhead (s : State) : List Host.Cell :=
  if s.pg then
    s.tlb.flatMap s.readThrough ++ s.queueWindow.flatMap fun la =>
      match s.tableFrame la s.user with
      | some frame => s.heldAt la frame
      | none => []
  else s.queueWindow.flatMap fun la => s.heldAt la (pageOf la)

/-- The queues keep what they have read, where the translation of code changes under them (R1220, R1223; 22_paging.md R484). -/
def State.keepQueues (s : State) : State := { s with queued := s.readAhead ++ s.queued }

/-- The queues keep what they may have read through entries that the TLB gives up: it may still execute until the next control transfer
(22_paging.md R484; log entry 23). -/
def State.keepEntries (s : State) (gone : List TlbEntry) : State := { s with queued := gone.flatMap s.readThrough ++ s.queued }

/-! Paging (22_paging.md sections 3, 5 and 6). -/

/-- What the tables in memory now say of the page of `la`, as the entry a walk would cache, where both levels are present and
already Accessed. -/
def State.tableEntry (s : State) (la : Word) : Option TlbEntry :=
  let pde := s.pageEntry (pdeAddr s.cr3 la)
  let pte := s.pageEntry (pteAddr pde la)
  if entryP pde && entryP pte && entryA pde && entryA pte then
    some { vpn := pageOf la, frame := pte.extractLsb' 12 20, us := entryUS pde && entryUS pte, rw := entryRW pde && entryRW pte,
           d := entryD pte }
  else none

/-- The entry of the TLB that is used for `la`: one that agrees with the tables (using it and walking are then the same), or a stale
one that is still held, which is open (R480, R483; log entry 4). -/
def State.tlbHit (s : State) (la : Word) : Option TlbEntry :=
  match s.tlb.find? (fun e => e.vpn == pageOf la) with
  | none => none
  | some e => if s.tableEntry la == some e || Config.tlbKeeps s.accessIdx then some e else none

/-- The number of entries of the TLB (R480). -/
def tlbSize : Nat := 32

/-- The TLB with a new entry: at most one per page, at most 32 in all; which one a full TLB gives up is open (R480; log entry 4). The queues
keep what they have read through the entries that are gone (R484). -/
def State.cacheEntry (s : State) (e : TlbEntry) : State :=
  let others := s.tlb.filter (fun x => x.vpn != e.vpn)
  let kept := if others.length < tlbSize then others else (others.eraseIdx (Config.tlbVictim s.accessIdx % others.length)).take (tlbSize - 1)
  { s.keepEntries (s.tlb.filter fun x => !(e :: kept).contains x) with tlb := e :: kept }

/-- The entry for the page of `la` discarded (R461); the queues keep what they have read through it (R484). -/
def State.dropEntry (s : State) (la : Word) : State :=
  { s.keepEntries (s.tlb.filter fun x => x.vpn == pageOf la) with tlb := s.tlb.filter fun x => x.vpn != pageOf la }

/-- Another access begins: what is open for it is drawn at another index (R483; log entry 4). -/
def State.nextAccess (s : State) : State := { s with accessIdx := s.accessIdx + 1 }

/-- The error code of a page fault (R476, Figure 4.13): P, W/R, U/S; bits 15 to 3 are undefined, a free value (log entry 14). -/
def pageFaultCode (idx : Nat) (p write user : Bool) : Half :=
  (Config.undef idx 9).extractLsb' 3 13 ++ BitVec.ofBool user ++ BitVec.ofBool write ++ BitVec.ofBool p

/-- `PageFault(la, P, write, kind)` (R476). -/
def pageFault {α : Type} (la : Word) (p write user : Bool) : M α := do
  modify fun s => { s with cr2 := la }
  let s ← get
  raise 14 (some (pageFaultCode s.freeIdx p write user))

/-- Accessed or Dirty set in an entry of a page directory or table, as the entry then stands in memory, by a locked read and write;
where they are set nothing is written (R465). -/
def State.markEntry (s : State) (pa bits : Word) : State :=
  let e := s.pageEntry pa
  if e ||| bits = e then s else s.writeKeys (s.physKeys pa 4) (e ||| bits)

/-- The update of an entry that was read without all of the bits: one locked read and write of it (R461, R465). -/
def updateEntry (due : Bool) (pa bits : Word) : M Unit :=
  if due then do
    busTurn
    modify fun s => s.markEntry pa bits
  else pure ()

/-- The bits a walk sets in a table entry: Accessed, and for a write Dirty (R461). -/
def tableBits (write : Bool) : Word := if write then 0x60 else 0x20

/-- The walk of `Translate` (R461, R465): the Accessed and Dirty updates of the entries as they were read, and the new TLB entry. Where the
table entry is not present, Accessed may have been set in the directory entry before (D19; log entry 4). -/
def walk (la : Word) (write user : Bool) : M Word := do
  busTurn
  let s ← get
  let pdePa := pdeAddr s.cr3 la
  let pde := s.pageEntry pdePa
  raiseIf (!entryP pde) (pageFault la false write user)
  busTurn
  let s ← get
  let ptePa := pteAddr pde la
  let pte := s.pageEntry ptePa
  if !entryP pte then do
    updateEntry (!entryA pde && Config.directoryMarked s.accessIdx) pdePa 0x20
    pageFault la false write user
  else do
    let us := entryUS pde && entryUS pte
    let rw := entryRW pde && entryRW pte
    raiseIf (!permits us rw write user) (pageFault la true write user)
    updateEntry (!entryA pde) pdePa 0x20
    updateEntry (!entryA pte || (write && !entryD pte)) ptePa (tableBits write)
    modify fun t => t.cacheEntry
      { vpn := pageOf la, frame := pte.extractLsb' 12 20, us := us, rw := rw, d := entryD pte || write }
    pure (pte.extractLsb' 12 20 ++ la.extractLsb' 0 12)

/-- `Translate(la, write, kind)` with paging on (R461): a write through an entry with D = 0 discards it and walks. -/
def translate (la : Word) (write user : Bool) : M Word := do
  modify State.nextAccess
  let s ← get
  match s.tlbHit la with
  | some e =>
    raiseIf (!permits e.us e.rw write user) (pageFault la true write user)
    if write && !e.d then do
      modify fun t => t.dropEntry la
      walk la write user
    else pure (e.frame ++ la.extractLsb' 0 12)
  | none => walk la write user

/-- The bytes of physical memory that `nb` bytes at the linear address `la` are: all parts are translated before any is used (R460);
with paging off the address is truncated (20_memory.md R208). -/
def linPages (la : Word) (nb : Nat) (write user : Bool) : M (List Nat) := do
  let s ← get
  if !s.pg then pure (s.physKeys la nb)
  else do
    let first := min nb (4096 - (la.extractLsb' 0 12).toNat)
    let pa ← translate la write user
    if first = nb then do
      let s ← get
      pure (s.physKeys pa nb)
    else do
      let pb ← translate (la + BitVec.ofNat 32 first) write user
      let s ← get
      pure (s.physKeys pa first ++ s.physKeys pb (nb - first))

/-- The same, and what the environment does before the bytes are read or written (R238). -/
def linKeys (la : Word) (nb : Nat) (write user : Bool) : M (List Nat) := do
  let keys ← linPages la nb write user
  busTurn
  pure keys

/-- `LinRead(la, nb, kind)` (R460). -/
def linRead (la : Word) (nb : Nat) (user : Bool) : M Word := do
  let keys ← linKeys la nb false user
  let s ← get
  pure (s.readKeys keys)

/-- `LinWrite(la, nb, v, kind)` (R460). -/
def linWrite (la : Word) (nb : Nat) (v : Word) (user : Bool) : M Unit := do
  let keys ← linKeys la nb true user
  modify fun s => s.writeKeys keys v

/-! Segments (20_memory.md section 4). -/

/-- The segment register `g` (10_state.md R70). -/
def State.seg (s : State) : Seg → SegReg
  | .es => s.es
  | .cs => s.cs
  | .ss => s.ss
  | .ds => s.ds
  | .fs => s.fs
  | .gs => s.gs

/-- The segment register `g` replaced. -/
def State.setSeg (s : State) (g : Seg) (r : SegReg) : State :=
  match g with
  | .es => { s with es := r }
  | .cs => { s with cs := r }
  | .ss => { s with ss := r }
  | .ds => { s with ds := r }
  | .fs => { s with fs := r }
  | .gs => { s with gs := r }

/-- What a memory reference does to its segment (R222). -/
inductive Access where
  | read
  | write
  | execute
deriving DecidableEq, Repr

/-- The access rights of the segment forbid the access (R222). -/
def SegReg.forbids (r : SegReg) (a : Access) : Bool :=
  match a with
  | .write => arE r.ar || !arW r.ar
  | .read => arE r.ar && !arW r.ar
  | .execute => false

/-- `CheckSeg(s, off, nb, kind)` (R222), with the cache `r` of the segment register, which is SS or not. -/
def checkReg (r : SegReg) (stack : Bool) (off : Word) (nb : Nat) (a : Access) : M Unit := do
  let s ← get
  raiseIf (s.prot && (!r.valid || r.forbids a)) raiseGP0
  raiseIf (r.outside off nb s.prot) (if stack then raiseSS0 else raiseGP0)

/-- `CheckSeg(s, off, nb, kind)` (R222). -/
def checkSeg (g : Seg) (off : Word) (nb : Nat) (a : Access) : M Unit := do
  let s ← get
  checkReg (s.seg g) (g == .ss) off nb a

/-- The linear address of an offset in a segment (R210). -/
def State.linear (s : State) (g : Seg) (off : Word) : Word := (s.seg g).base + off

/-! Data breakpoints (10_state.md R112; 60_exceptions.md R1121). -/

/-- The enable bits Li and Gi of breakpoint `i`. -/
def bpEnabled (dr7 : Word) (i : Nat) : Bool := dr7.getLsbD (2 * i) || dr7.getLsbD (2 * i + 1)

/-- The R/W field of breakpoint `i`. -/
def bpRW (dr7 : Word) (i : Nat) : Nat := (dr7.extractLsb' (16 + 4 * i) 2).toNat

/-- The LEN field of breakpoint `i`. -/
def bpLen (dr7 : Word) (i : Nat) : Nat := (dr7.extractLsb' (18 + 4 * i) 2).toNat

/-- The address register of breakpoint `i`. -/
def State.bpAddr (s : State) (i : Nat) : Word :=
  match i with
  | 0 => s.dr0
  | 1 => s.dr1
  | 2 => s.dr2
  | _ => s.dr3

/-- The `len` bytes at the `len`-aligned address of `bp` overlap the `nb` bytes at `la`. -/
def bpOverlaps (bp : Word) (len : Nat) (la : Word) (nb : Nat) : Bool :=
  let a := bp &&& ~~~ (BitVec.ofNat 32 (len - 1))
  decide ((la - a).toNat < len) || decide ((a - la).toNat < nb)

/-- The data access meets the condition of breakpoint `i`; with one of the undefined codes it is open whether it does (log entry 9). -/
def State.bpMet (s : State) (i : Nat) (la : Word) (nb : Nat) (write : Bool) : Bool :=
  let met (len : Nat) : Bool :=
    match bpRW s.dr7 i with
    | 0 => false
    | 1 => write && bpOverlaps (s.bpAddr i) len la nb
    | 2 => Config.breakpointUndefined s.accessIdx i
    | _ => bpOverlaps (s.bpAddr i) len la nb
  match bpLen s.dr7 i with
  | 0 => met 1
  | 1 => met 2
  | 2 => decide (bpRW s.dr7 i ≠ 0) && Config.breakpointUndefined s.accessIdx i
  | _ => met 4

/-- The breakpoints a data access meets, as the bits B3 to B0 of DR6. -/
def State.bpHits (s : State) (la : Word) (nb : Nat) (write : Bool) : BitVec 4 :=
  BitVec.ofBool (s.bpMet 3 la nb write) ++ BitVec.ofBool (s.bpMet 2 la nb write) ++ BitVec.ofBool (s.bpMet 1 la nb write) ++
    BitVec.ofBool (s.bpMet 0 la nb write)

/-- The enabled breakpoints, in the same bits. -/
def enabledBits (dr7 : Word) : BitVec 4 :=
  BitVec.ofBool (bpEnabled dr7 3) ++ BitVec.ofBool (bpEnabled dr7 2) ++ BitVec.ofBool (bpEnabled dr7 1) ++
    BitVec.ofBool (bpEnabled dr7 0)

/-- Breakpoint `i` is set for execution at the next instruction (60_exceptions.md R1122). -/
def State.bpExecutes (s : State) (i : Nat) : Bool := bpRW s.dr7 i == 0 && s.bpAddr i == s.linear .cs s.eip

/-- The execution breakpoints that the next instruction meets, as the bits B3 to B0 of DR6. -/
def State.execHits (s : State) : BitVec 4 :=
  BitVec.ofBool (s.bpExecutes 3) ++ BitVec.ofBool (s.bpExecutes 2) ++ BitVec.ofBool (s.bpExecutes 1) ++
    BitVec.ofBool (s.bpExecutes 0)

/-- The data access is held against the breakpoints (R1121): the conditions met are remembered for DR6, and that an enabled one
was. -/
def State.noteData (s : State) (la : Word) (nb : Nat) (write : Bool) : State :=
  let hits := s.bpHits la nb write
  { s with
    pend := { s.pend with hits := s.pend.hits ||| hits, fire := s.pend.fire || (hits &&& enabledBits s.dr7) != 0 }
    accessIdx := s.accessIdx + 1 }

/-! Data accesses of a program (20_memory.md R220, R221). -/

/-- The checks of an access of `nb` bytes at `off` of the segment register `r`, and the bytes of physical memory it touches. -/
def regKeys (r : SegReg) (stack user : Bool) (off : Word) (nb : Nat) (write : Bool) : M (List Nat) := do
  checkReg r stack off nb (if write then .write else .read)
  let keys ← linKeys (r.base + off) nb write user
  modify fun t => t.noteData (r.base + off) nb write
  pure keys

/-- The same in the segment `g`, with the rights of the program. -/
def memKeys (g : Seg) (off : Word) (nb : Nat) (write : Bool) : M (List Nat) := do
  let s ← get
  regKeys (s.seg g) (g == .ss) s.user off nb write

/-- The checks of a write at `g:off` that may not come, and the bytes it would touch: to the breakpoints it is a read (R221; log entry
15). -/
def probeKeys (g : Seg) (off : Word) (nb : Nat) : M (List Nat) := do
  checkSeg g off nb .write
  let s ← get
  let keys ← linKeys (s.linear g off) nb true s.user
  modify fun t => t.noteData (s.linear g off) nb false
  pure keys

/-- `MemRead(s:off, nb)` (R220). -/
def memRead (g : Seg) (off : Word) (nb : Nat) : M Word := do
  let keys ← memKeys g off nb false
  let s ← get
  pure (s.readKeys keys)

/-- `MemWrite(s:off, nb, v)` (R221). -/
def memWrite (g : Seg) (off : Word) (nb : Nat) (v : Word) : M Unit := do
  let keys ← memKeys g off nb true
  modify fun s => s.writeKeys keys v

/-! Instruction bytes (20_memory.md R224, R262). -/

/-- The value a fetch of the byte at `key` returns: the byte in memory, or, where it was stored to since the queues were last
emptied, any value it held since (R262; log entry 5). -/
def State.fetchedByte (s : State) (key : Nat) : Byte :=
  let olds := (s.stale.filter (fun c => c.1 == key)).map (fun c => c.2)
  match olds with
  | [] => s.byte key
  | _ => (s.byte key :: olds).getD (Config.fetchChoice s.freeIdx key % (olds.length + 1)) (s.byte key)

/-- A byte the queues still hold of the linear address `la`, read through an earlier translation: one of those, or none and the fetch
goes to memory, as is open (10_state.md R142; log entry 23). -/
def State.queuedByte (s : State) (la : Word) : Option Byte :=
  let olds := (s.queued.filter (fun c => c.1 == la.toNat)).map (fun c => c.2)
  match olds with
  | [] => none
  | _ => olds[Config.fetchChoice s.freeIdx (memSize + la.toNat) % (olds.length + 1)]?

/-- One instruction byte at `off` in the code segment: the limit, then the queues, then paging (R224). -/
def fetchByte (off : Word) : M Byte := do
  checkSeg .cs off 1 .execute
  let s ← get
  match s.queuedByte (s.linear .cs off) with
  | some b => pure b
  | none => do
    let keys ← linKeys (s.linear .cs off) 1 false s.user
    let t ← get
    pure (t.fetchedByte (keys.headD 0))

/-- The instruction queues are emptied (R262). -/
def State.flushQueues (s : State) : State := { s with stale := [], queued := [], queuedMode := none }

/-! The I/O space (20_memory.md R250, R251). -/

/-- What a byte port answers: the platform's value, or, where it lists none, an open one (D10; log entry 11). -/
def State.portByte (s : State) (port : Half) : Byte :=
  match s.ioIn.find? (fun c => c.1 == port.toNat) with
  | some c => c.2
  | none => Config.portInput s.freeIdx port.toNat

/-- `IoRead(port, nb)`: byte ports from `port` on, modulo 2^16 (D11). -/
def State.ioRead (s : State) (port : Half) (nb : Nat) : Word :=
  littleEndian ((List.range nb).map fun i => s.portByte (port + BitVec.ofNat 16 i))

/-- `IoWrite(port, nb, v)`: the bytes written are recorded, the newest first. -/
def State.ioWrite (s : State) (port : Half) : Nat → Word → State
  | 0, _ => s
  | n + 1, v => { s with ioOut := (port.toNat, v.setWidth 8) :: s.ioOut }.ioWrite (port + 1) n (v >>> 8)

/-- The bytes of the bus cycles of an operand of `nb` bytes, the low part first (R232; D9). -/
def operandCycles (odd : Bool) (nb : Nat) : List Nat :=
  match odd, nb with
  | false, 4 => [2, 2]
  | true, 2 => [1, 1]
  | true, 4 => [1, 2, 1]
  | _, n => [n]

/-- The bus cycles of one write to ports, each of so many bytes: RESET may come between them (R251; 70_reset_and_hazards.md R1200). -/
def portCycles : List Nat → Half → Word → M Unit
  | [], _, _ => pure ()
  | [n], port, v => modify fun s => s.ioWrite port n v
  | n :: m :: rest, port, v => do
    modify fun s => s.ioWrite port n v
    cycleTurn
    portCycles (m :: rest) (port + BitVec.ofNat 16 n) (v >>> (8 * n))

/-- `IoWrite(port, nb, v)` in its bus cycles (R251), and what the environment does before (R238). -/
def portWrite (port : Half) (nb : Nat) (v : Word) : M Unit := do
  busTurn
  portCycles (operandCycles (port.getLsbD 0) nb) port v

/-- `IoRead(port, nb)` (R251), and what the environment does before (R238). -/
def portRead (port : Half) (nb : Nat) : M Word := do
  busTurn
  let s ← get
  pure (s.ioRead port nb)

end Sys2Proof.Machine
end

