-- ==== Sys2Proof/Machine/Flags.lean ====
section
/-!
DEFINITION. EFLAGS as an image (10_state.md R60, R61), the conditions (30_encoding.md R525), and every result with its flags that
the arithmetic, logic, shift and bit rules give (42_arithmetic.md R700; 43_logic.md R761 to R770; 10_state.md R62).
-/
namespace Sys2Proof.Machine

open Sys2Proof

/-! The image. -/

/-- EFLAGS as 32 bits: bit 1 is 1, bits 3, 5, 15 and 31 to 18 are 0 (R61). -/
def Flags.image (f : Flags) : Word :=
  (0 : BitVec 14) ++ BitVec.ofBool f.vm ++ BitVec.ofBool f.rf ++ (0 : BitVec 1) ++ BitVec.ofBool f.nt ++ f.iopl ++
    BitVec.ofBool f.off ++ BitVec.ofBool f.df ++ BitVec.ofBool f.ifl ++ BitVec.ofBool f.tf ++ BitVec.ofBool f.sf ++
    BitVec.ofBool f.zf ++ (0 : BitVec 1) ++ BitVec.ofBool f.af ++ (0 : BitVec 1) ++ BitVec.ofBool f.pf ++ (1 : BitVec 1) ++
    BitVec.ofBool f.cf

/-- The defined bits of an image (R60). -/
def Flags.ofImage (v : Word) : Flags :=
  { cf := v.getLsbD 0, pf := v.getLsbD 2, af := v.getLsbD 4, zf := v.getLsbD 6, sf := v.getLsbD 7, tf := v.getLsbD 8
    ifl := v.getLsbD 9, df := v.getLsbD 10, off := v.getLsbD 11, iopl := v.extractLsb' 12 2, nt := v.getLsbD 14
    rf := v.getLsbD 16, vm := v.getLsbD 17 }

/-! Conditions. -/

/-- `Cond(tttn)` (R525). -/
def Flags.cond (f : Flags) (tttn : Nat) : Bool :=
  let base :=
    match tttn / 2 with
    | 0 => f.off
    | 1 => f.cf
    | 2 => f.zf
    | 3 => f.cf || f.zf
    | 4 => f.sf
    | 5 => f.pf
    | 6 => f.sf != f.off
    | _ => f.zf || (f.sf != f.off)
  if tttn % 2 = 0 then base else !base

/-! Results (R62). -/

/-- `PF_of(r)`: the low eight bits hold an even number of ones. -/
def parity {n : Nat} (r : BitVec n) : Bool :=
  !(r.getLsbD 0 ^^ r.getLsbD 1 ^^ r.getLsbD 2 ^^ r.getLsbD 3 ^^ r.getLsbD 4 ^^ r.getLsbD 5 ^^ r.getLsbD 6 ^^ r.getLsbD 7)

/-- ZF, SF and PF of a result. -/
def Flags.ofResult (f : Flags) {n : Nat} (r : BitVec n) : Flags :=
  { f with zf := r == 0, sf := r.msb, pf := parity r }

/-- The flags a free value stands for, by slot (00_scope.md R19; log entry 3). -/
def undefBit (idx slot : Nat) : Bool := (Config.undef idx slot).getLsbD 0

/-- OF, SF, ZF, AF, PF, CF undefined. -/
def Flags.undefAll (f : Flags) (idx : Nat) : Flags :=
  { f with cf := undefBit idx 0, pf := undefBit idx 1, af := undefBit idx 2, zf := undefBit idx 3, sf := undefBit idx 4
           off := undefBit idx 5 }

/-- SF, ZF, AF, PF undefined (MUL, IMUL). -/
def Flags.undefSZAP (f : Flags) (idx : Nat) : Flags :=
  { f with pf := undefBit idx 1, af := undefBit idx 2, zf := undefBit idx 3, sf := undefBit idx 4 }

/-- OF, SF, ZF, PF undefined (AAA, AAS). -/
def Flags.undefOSZP (f : Flags) (idx : Nat) : Flags :=
  { f with pf := undefBit idx 1, zf := undefBit idx 3, sf := undefBit idx 4, off := undefBit idx 5 }

/-- OF, SF, AF, PF undefined (the bit tests). -/
def Flags.undefOSAP (f : Flags) (idx : Nat) : Flags :=
  { f with pf := undefBit idx 1, af := undefBit idx 2, sf := undefBit idx 4, off := undefBit idx 5 }

/-- OF, AF, CF undefined (AAD, AAM). -/
def Flags.undefOAC (f : Flags) (idx : Nat) : Flags :=
  { f with cf := undefBit idx 0, af := undefBit idx 2, off := undefBit idx 5 }

/-- CF, OF, SF, AF, PF undefined (the bit scans). -/
def Flags.undefCOSAP (f : Flags) (idx : Nat) : Flags :=
  { f with cf := undefBit idx 0, pf := undefBit idx 1, af := undefBit idx 2, sf := undefBit idx 4, off := undefBit idx 5 }

/-! Addition and subtraction (R700). -/

/-- `AddFlags(n, a, b, c)`. -/
def addFlags {n : Nat} (f : Flags) (a b : BitVec n) (c : Bool) : BitVec n × Flags :=
  let full := a.toNat + b.toNat + c.toNat
  let r := BitVec.ofNat n full
  (r, { f.ofResult r with
    cf := decide (2 ^ n ≤ full)
    af := decide (16 ≤ a.toNat % 16 + b.toNat % 16 + c.toNat)
    off := a.msb == b.msb && r.msb != a.msb })

/-- `SubFlags(n, a, b, c)`. -/
def subFlags {n : Nat} (f : Flags) (a b : BitVec n) (c : Bool) : BitVec n × Flags :=
  let r := a - b - BitVec.ofNat n c.toNat
  (r, { f.ofResult r with
    cf := decide (a.toNat < b.toNat + c.toNat)
    af := decide (a.toNat % 16 < b.toNat % 16 + c.toNat)
    off := a.msb != b.msb && r.msb != a.msb })

/-- The flags of AND, OR, XOR, TEST: CF and OF cleared, AF undefined (43_logic.md R771). -/
def logicFlags {n : Nat} (f : Flags) (idx : Nat) (r : BitVec n) : Flags :=
  { f.ofResult r with cf := false, off := false, af := undefBit idx 2 }

/-- The two-operand operations of 42_arithmetic.md R701 and 43_logic.md R771 to R774. -/
inductive AluOp where
  | add
  | or
  | adc
  | sbb
  | and
  | sub
  | xor
  | cmp
deriving DecidableEq, Repr

/-- `F(n, a, b)` of the operation: its result and the flags after it. -/
def alu {n : Nat} (op : AluOp) (f : Flags) (idx : Nat) (a b : BitVec n) : BitVec n × Flags :=
  match op with
  | .add => addFlags f a b false
  | .adc => addFlags f a b f.cf
  | .sub => subFlags f a b false
  | .cmp => subFlags f a b false
  | .sbb => subFlags f a b f.cf
  | .and => (a &&& b, logicFlags f idx (a &&& b))
  | .or => (a ||| b, logicFlags f idx (a ||| b))
  | .xor => (a ^^^ b, logicFlags f idx (a ^^^ b))

/-- INC and DEC keep CF (42_arithmetic.md R704, R708). -/
def incFlags {n : Nat} (f : Flags) (a : BitVec n) : BitVec n × Flags :=
  let x := addFlags f a (BitVec.ofNat n 1) false
  (x.1, { x.2 with cf := f.cf })

/-- DEC (42_arithmetic.md R708). -/
def decFlags {n : Nat} (f : Flags) (a : BitVec n) : BitVec n × Flags :=
  let x := subFlags f a (BitVec.ofNat n 1) false
  (x.1, { x.2 with cf := f.cf })

/-! Shifts and rotates (43_logic.md section 1). -/

/-- The operations of the shift group (R760). -/
inductive ShiftOp where
  | rol
  | ror
  | rcl
  | rcr
  | shl
  | shr
  | sar
deriving DecidableEq, Repr

/-- OF after a rotate or shift: defined for a count of 1 only. -/
def shiftOf (idx c : Nat) (one : Bool) : Bool := if c = 1 then one else undefBit idx 5

/-- The flags of SHL, SHR, SAR besides CF and OF: SF, ZF, PF of the result, AF undefined (R765 to R767). -/
def shiftFlags {n : Nat} (f : Flags) (idx : Nat) (r : BitVec n) : Flags := { f.ofResult r with af := undefBit idx 2 }

/-- ROL by `c`, `c` not 0 (R761). -/
def rol {n : Nat} (f : Flags) (idx : Nat) (a : BitVec n) (c : Nat) : BitVec n × Flags :=
  let k := c % n
  let r := (a <<< k) ||| (a >>> (n - k))
  let r := if k = 0 then a else r
  (r, { f with cf := r.getLsbD 0, off := shiftOf idx c (r.msb ^^ r.getLsbD 0) })

/-- ROR by `c`, `c` not 0 (R762). -/
def ror {n : Nat} (f : Flags) (idx : Nat) (a : BitVec n) (c : Nat) : BitVec n × Flags :=
  let k := c % n
  let r := (a >>> k) ||| (a <<< (n - k))
  let r := if k = 0 then a else r
  (r, { f with cf := r.msb, off := shiftOf idx c (r.msb ^^ r.getLsbD (n - 2)) })

/-- RCL by `c`, `c` not 0: CF over the operand is rotated as one value of n + 1 bits (R763). -/
def rcl {n : Nat} (f : Flags) (idx : Nat) (a : BitVec n) (c : Nat) : BitVec n × Flags :=
  let k := c % (n + 1)
  let t : BitVec (n + 1) := BitVec.cons f.cf a
  let t' := if k = 0 then t else (t <<< k) ||| (t >>> (n + 1 - k))
  let r : BitVec n := t'.setWidth n
  (r, { f with cf := t'.msb, off := shiftOf idx c (r.msb ^^ t'.msb) })

/-- RCR by `c`, `c` not 0 (R764). -/
def rcr {n : Nat} (f : Flags) (idx : Nat) (a : BitVec n) (c : Nat) : BitVec n × Flags :=
  let k := c % (n + 1)
  let t : BitVec (n + 1) := BitVec.cons f.cf a
  let t' := if k = 0 then t else (t >>> k) ||| (t <<< (n + 1 - k))
  let r : BitVec n := t'.setWidth n
  (r, { f with cf := t'.msb, off := shiftOf idx c (r.msb ^^ r.getLsbD (n - 2)) })

/-- SHL by `c`, `c` not 0 (R765). -/
def shl {n : Nat} (f : Flags) (idx : Nat) (a : BitVec n) (c : Nat) : BitVec n × Flags :=
  let r := a <<< c
  let cf := if c ≤ n then a.getLsbD (n - c) else undefBit idx 0
  (r, { shiftFlags f idx r with cf := cf, off := shiftOf idx c (r.msb ^^ cf) })

/-- SHR by `c`, `c` not 0 (R766). -/
def shr {n : Nat} (f : Flags) (idx : Nat) (a : BitVec n) (c : Nat) : BitVec n × Flags :=
  let r := a >>> c
  let cf := if c ≤ n then a.getLsbD (c - 1) else undefBit idx 0
  (r, { shiftFlags f idx r with cf := cf, off := shiftOf idx c a.msb })

/-- SAR by `c`, `c` not 0 (R767). -/
def sar {n : Nat} (f : Flags) (idx : Nat) (a : BitVec n) (c : Nat) : BitVec n × Flags :=
  let r := a.sshiftRight c
  let cf := if c ≤ n then a.getLsbD (c - 1) else a.msb
  (r, { shiftFlags f idx r with cf := cf, off := shiftOf idx c false })

/-- The operation of the shift group by a masked count that is not 0. -/
def shift {n : Nat} (op : ShiftOp) (f : Flags) (idx : Nat) (a : BitVec n) (c : Nat) : BitVec n × Flags :=
  match op with
  | .rol => rol f idx a c
  | .ror => ror f idx a c
  | .rcl => rcl f idx a c
  | .rcr => rcr f idx a c
  | .shl => shl f idx a c
  | .shr => shr f idx a c
  | .sar => sar f idx a c

/-- The masked count (R760). -/
def maskedCount (raw : Byte) : Nat := (raw &&& 0x1F).toNat

/-- The flags of SHLD and SHRD by a count within the width. -/
def doubleFlags {n : Nat} (f : Flags) (idx : Nat) (a r : BitVec n) (c : Nat) (cf : Bool) : Flags :=
  { shiftFlags f idx r with cf := cf, off := shiftOf idx c (r.msb ^^ a.msb) }

/-- SHLD (R769) or, with `right`, SHRD (R770) by a masked count that is not 0; a count above the width leaves the result and all six
flags undefined. -/
def doubleShift {n : Nat} (right : Bool) (f : Flags) (idx : Nat) (a b : BitVec n) (c : Nat) : BitVec n × Flags :=
  if n < c then ((Config.undef idx 6).setWidth n, f.undefAll idx)
  else if right then
    let r := (a >>> c) ||| (b <<< (n - c))
    (r, doubleFlags f idx a r c (a.getLsbD (c - 1)))
  else
    let r := (a <<< c) ||| (b >>> (n - c))
    (r, doubleFlags f idx a r c (a.getLsbD (n - c)))

/-! Multiplication (42_arithmetic.md R716 to R719). -/

/-- The flags of MUL and IMUL: CF and OF say whether the upper half is significant. -/
def mulFlags (f : Flags) (idx : Nat) (high : Bool) : Flags := { f.undefSZAP idx with cf := high, off := high }

end Sys2Proof.Machine
end

