-- ==== Sys2Proof/Machine/Operands.lean ====
section
/-!
DEFINITION. Sizes (30_encoding.md R510 to R513), registers by width (R520; 10_state.md R51, R52), effective addresses (R530 to R532),
and the operand of a "mod r/m" byte, read, written, or read and written (R534; 20_memory.md R221).
-/
namespace Sys2Proof.Machine

open Sys2Proof

/-! Sizes. -/

/-- The default size `D` (R510). -/
def State.dBit (s : State) : Bool := s.prot && arD s.cs.ar

/-- `osz` = 32 (R512). -/
def State.osz32 (s : State) : Bool := s.dBit ^^ s.pfx.opSize

/-- `asz` = 32 (R511). -/
def State.asz32 (s : State) : Bool := s.dBit ^^ s.pfx.addrSize

/-- `ssz` = 32 in a stack segment: the B bit of its cache (R513). In REAL mode entered with B = 1 R513 has a 16-bit stack pointer, where
48_interrupt_instructions.md R931 and 70_reset_and_hazards.md R1226 let the cache decide: either (log entry 38). -/
def SegReg.stackWide (r : SegReg) (prot : Bool) : Bool := arD r.ar && (prot || Config.realStack32)

/-- `ssz` = 32 (R513). -/
def State.ssz32 (s : State) : Bool := s.ss.stackWide s.prot

/-- The operand width without a `w` bit (R512). -/
def State.osz (s : State) : Width := if s.osz32 then .b32 else .b16

/-- The operand width of a `w` bit (R512). -/
def State.width (s : State) (w : Bool) : Width := if w then s.osz else .b8

/-- What the decoder needs of the state. -/
def State.ctx (s : State) : Ctx := { osz32 := s.osz32, asz32 := s.asz32, rep := s.pfx.rep }

/-! Registers. -/

/-- A general register, 32 bits. -/
def Regs.get (x : Regs) : Reg → Word
  | .eax => x.eax
  | .ecx => x.ecx
  | .edx => x.edx
  | .ebx => x.ebx
  | .esp => x.esp
  | .ebp => x.ebp
  | .esi => x.esi
  | .edi => x.edi

/-- A general register replaced. -/
def Regs.set (x : Regs) (r : Reg) (v : Word) : Regs :=
  match r with
  | .eax => { x with eax := v }
  | .ecx => { x with ecx := v }
  | .edx => { x with edx := v }
  | .ebx => { x with ebx := v }
  | .esp => { x with esp := v }
  | .ebp => { x with ebp := v }
  | .esi => { x with esi := v }
  | .edi => { x with edi := v }

/-- The register whose byte an 8-bit code names, and whether it is the high one (R520). -/
def byteReg : Reg → Reg × Bool
  | .eax => (.eax, false)
  | .ecx => (.ecx, false)
  | .edx => (.edx, false)
  | .ebx => (.ebx, false)
  | .esp => (.eax, true)
  | .ebp => (.ecx, true)
  | .esi => (.edx, true)
  | .edi => (.ebx, true)

/-- `reg(n, i)` (R520). -/
def Regs.read (x : Regs) (w : Width) (r : Reg) : BitVec w.bits :=
  match w with
  | .b8 => (x.get (byteReg r).1).extractLsb' (if (byteReg r).2 then 8 else 0) 8
  | .b16 => (x.get r).setWidth 16
  | .b32 => x.get r

/-- `reg(n, i) <- v`: every other bit of the 32-bit register is unchanged (00_scope.md R16). -/
def Regs.write (x : Regs) (w : Width) (r : Reg) (v : BitVec w.bits) : Regs :=
  match w, v with
  | .b8, v =>
    let old := x.get (byteReg r).1
    if (byteReg r).2 then x.set (byteReg r).1 (old.extractLsb' 16 16 ++ v ++ old.extractLsb' 0 8)
    else x.set (byteReg r).1 (old.extractLsb' 8 24 ++ v)
  | .b16, v => x.set r ((x.get r).extractLsb' 16 16 ++ v)
  | .b32, v => x.set r v

/-- `reg(n, i)` of the machine. -/
def State.reg (s : State) (w : Width) (r : Reg) : BitVec w.bits := s.regs.read w r

/-- `reg(n, i) <- v` of the machine. -/
def State.setReg (s : State) (w : Width) (r : Reg) (v : BitVec w.bits) : State := { s with regs := s.regs.write w r v }

/-- The width of an address register: 16 or 32 bits. -/
def addrWidth (is32 : Bool) : Width := if is32 then .b32 else .b16

/-- An address or count register at the address size: (E)SI, (E)DI, (E)CX, (E)BX (30_encoding.md R507), zero-extended. -/
def State.addrReg (s : State) (r : Reg) : Word := if s.asz32 then s.regs.get r else ((s.regs.get r).setWidth 16).setWidth 32

/-- The same register written at the address size. -/
def State.setAddrReg (s : State) (r : Reg) (v : Word) : State :=
  if s.asz32 then s.setReg .b32 r v else s.setReg .b16 r (v.setWidth 16)

/-! Effective addresses. -/

/-- A displacement sign-extended or full, at 32 bits. -/
def dispValue : Disp → Word
  | .none => 0
  | .d8 v => v.signExtend 32
  | .full v => v

/-- The 16-bit sum of the base and index registers of R530. -/
def Regs.base16 (x : Regs) : Base16 → Word
  | .bxsi => x.ebx + x.esi
  | .bxdi => x.ebx + x.edi
  | .bpsi => x.ebp + x.esi
  | .bpdi => x.ebp + x.edi
  | .si => x.esi
  | .di => x.edi
  | .bp => x.ebp
  | .bx => x.ebx

/-- The default segment of a 16-bit base (R530). -/
def base16Seg : Base16 → Seg
  | .bpsi | .bpdi | .bp => .ss
  | _ => .ds

/-- The default segment of a 32-bit base (R531). -/
def baseSeg : Reg → Seg
  | .esp | .ebp => .ss
  | _ => .ds

/-- The low 16 bits, zero-extended. -/
def low16 (v : Word) : Word := (v.setWidth 16).setWidth 32

/-- The scaled index; without an index register 0 (R531). -/
def Regs.scaled (x : Regs) (index : Option Reg) (ss : BitVec 2) : Word :=
  match index with
  | none => 0
  | some r => x.get r <<< ss.toNat

/-- The offset where an s-i-b byte has index 100: with ss not 00 the effective address is undefined, a free value (R532; log entry
7). -/
def sibOffset (idx : Nat) (index : Option Reg) (ss : BitVec 2) (off : Word) : Word :=
  if index = none ∧ ss ≠ 0 then Config.undef idx 8 else off

/-- The effective address of a memory operand: the default segment and the offset (R530, R531). -/
def effectiveAddress (x : Regs) (idx : Nat) : MemRef → Seg × Word
  | .direct16 off => (.ds, off.setWidth 32)
  | .based16 b d => (base16Seg b, low16 (x.base16 b + dispValue d))
  | .direct32 off => (.ds, off)
  | .based32 b d => (baseSeg b, x.get b + dispValue d)
  | .sib b i ss d => (baseSeg b, sibOffset idx i ss (x.get b + x.scaled i ss + dispValue d))
  | .sibNoBase i ss off => (.ds, sibOffset idx i ss (x.scaled i ss + off))

/-- The effective address in the machine, with a segment override in the place of the default segment (R505, R534). -/
def State.ea (s : State) (m : MemRef) : Seg × Word :=
  let a := effectiveAddress s.regs s.freeIdx m
  (s.pfx.seg.getD a.1, a.2)

/-- The data segment register of an implied DS reference, with an override in its place (20_memory.md R227). -/
def State.dataSeg (s : State) : Seg := s.pfx.seg.getD .ds

/-- An offset `d` further on, at the address size (modulo 2^asz). -/
def State.offsetAdd (s : State) (off d : Word) : Word := if s.asz32 then off + d else low16 (off + d)

/-! The operand of a "mod r/m" byte. -/

/-- `ReadRM(n)` (R534). -/
def readRM (w : Width) (m : RM) : M (BitVec w.bits) :=
  match m with
  | .reg r => do
    let s ← get
    pure (s.reg w r)
  | .mem x => do
    let s ← get
    let v ← memRead (s.ea x).1 (s.ea x).2 w.bytes
    pure (v.setWidth w.bits)

/-- `WriteRM(n, v)` (R534). -/
def writeRM (w : Width) (m : RM) (v : BitVec w.bits) : M Unit :=
  match m with
  | .reg r => modify fun s => s.setReg w r v
  | .mem x => do
    let s ← get
    memWrite (s.ea x).1 (s.ea x).2 w.bytes (v.setWidth 32)

/-- A register operand's value becomes the first component of `k`, and the flags its second. -/
def State.updateReg (s : State) (w : Width) (r : Reg) (k : BitVec w.bits → Flags → BitVec w.bits × Flags) : State :=
  { s.setReg w r (k (s.reg w r) s.flags).1 with flags := (k (s.reg w r) s.flags).2 }

/-- The same for an operand whose bytes are at `keys`; between the read and the write another bus master may write, unless the
instruction has a LOCK prefix (20_memory.md R236, R237). -/
def State.updateKeys (s : State) (w : Width) (keys : List Nat) (k : BitVec w.bits → Flags → BitVec w.bits × Flags) : State :=
  { s.between.writeKeys keys (((k ((s.readKeys keys).setWidth w.bits) s.flags).1).setWidth 32) with
    flags := (k ((s.readKeys keys).setWidth w.bits) s.flags).2 }

/-- A read and a write of the same operand: a memory operand is checked for writing before it is read (20_memory.md R221). -/
def updateRM (w : Width) (m : RM) (k : BitVec w.bits → Flags → BitVec w.bits × Flags) : M Unit :=
  match m with
  | .reg r => modify fun s => s.updateReg w r k
  | .mem x => do
    let s ← get
    let keys ← memKeys (s.ea x).1 (s.ea x).2 w.bytes true
    modify fun t => t.updateKeys w keys k

/-- The operand is a register: "mod" is 11. -/
def isRegister : RM → Bool
  | .reg _ => true
  | .mem _ => false

/-- A memory operand that a form requires; a register raises #UD (R571). -/
def memOperand (m : RM) : M MemRef :=
  match m with
  | .reg _ => raiseUD
  | .mem x => pure x

/-- An immediate at width `w`: as it stands, or an 8-bit one sign-extended (R524). -/
def immValue (w : Width) (signed8 : Bool) (imm : Word) : BitVec w.bits :=
  if signed8 then (imm.setWidth 8).signExtend w.bits else imm.setWidth w.bits

end Sys2Proof.Machine
end

