-- ==== Sys2Proof/Machine/Stack.lean ====
section
/-!
DEFINITION. The stack primitives (40_data_transfer.md R612, R613), how an instruction ends, in sequence or by a transfer within its
segment (30_encoding.md R503; 46_control_transfer.md R860), and the wait and permission checks several instructions share.
-/
namespace Sys2Proof.Machine

open Sys2Proof

/-! The stack pointer. -/

/-- The offset of the stack top: SP or ESP (30_encoding.md R513). -/
def State.sp (s : State) : Word := if s.ssz32 then s.regs.esp else low16 s.regs.esp

/-- SP or ESP written; with a 16-bit stack ESP[31:16] is unchanged (R612). -/
def State.setSp (s : State) (v : Word) : State :=
  if s.ssz32 then s.setReg .b32 .esp v else s.setReg .b16 .esp (v.setWidth 16)

/-- A stack offset `d` further on, modulo 2^ssz. -/
def stackAdd (ssz32 : Bool) (sp d : Word) : Word := if ssz32 then sp + d else low16 (sp + d)

/-- A stack offset `n` bytes further down, modulo 2^ssz. -/
def stackSub (ssz32 : Bool) (sp : Word) (n : Nat) : Word := stackAdd ssz32 sp (0 - BitVec.ofNat 32 n)

/-- `Push(v, nb)` (R612). Its store meets data breakpoints, where an entry makes it too (60_exceptions.md R1121; DEDUCED, log entry 33). -/
def push (v : Word) (nb : Nat) : M Unit := do
  let s ← get
  let new := stackSub s.ssz32 s.sp nb
  memWrite .ss new nb v
  modify fun t => t.setSp new

/-- The item `d` bytes above the stack top, read without moving the stack pointer (R613). -/
def stackRead (d nb : Nat) : M Word := do
  let s ← get
  memRead .ss (stackAdd s.ssz32 s.sp (BitVec.ofNat 32 d)) nb

/-- The stack pointer moved up by `d` bytes, which is what `Pop` commits (R613). -/
def State.dropStack (s : State) (d : Word) : State := s.setSp (stackAdd s.ssz32 s.sp d)

/-- The push of `n` items of `w` bytes stays within the stack segment `r`. -/
def SegReg.hasRoom (r : SegReg) (sp : Word) (n w : Nat) (prot : Bool) : Bool :=
  (List.range n).all fun i => !r.outside (stackSub (r.stackWide prot) sp ((i + 1) * w)) w prot

/-- The stack has room for `n` items of `w` bytes, else `#SS(0)`. -/
def checkRoom (n w : Nat) : M Unit := do
  let s ← get
  raiseIf (!s.ss.hasRoom s.sp n w s.prot) raiseSS0

/-- The `len` bytes at the stack top lie within the stack limit, else `#SS(0)`. -/
def checkStackTop (len : Nat) : M Unit := do
  let s ← get
  raiseIf (s.ss.outside s.sp len s.prot) raiseSS0

/-! The end of an instruction. -/

/-- RF is cleared by an instruction that completes (60_exceptions.md R1122). -/
def State.clearRf (s : State) : State := { s with flags := { s.flags with rf := false } }

/-- `EIP <- EIP_next` (30_encoding.md R503). -/
def State.toNext (s : State) : State := { s with eip := s.eipNext }

/-- The end of an instruction in sequence: RF is cleared and EIP moves on. -/
def State.advance (s : State) : State := s.clearRf.toNext

/-- The instruction ends in sequence. -/
def advance : M Unit := modify State.advance

/-- Control passes to `t`: the instruction queues are emptied (20_memory.md R262). -/
def State.transfer (s : State) (t : Word) : State := { s.flushQueues with eip := t }

/-- The instruction ends by a transfer to `t` within its segment or a segment already loaded. -/
def State.jump (s : State) (t : Word) : State := s.clearRf.transfer t

/-- A target truncated to 16 bits at operand size 16 (46_control_transfer.md R860). -/
def State.target (s : State) (t : Word) : Word := if s.osz32 then t else low16 t

/-- `RelTarget` of a displacement of 8 bits (R860). -/
def State.relTarget8 (s : State) (d : Byte) : Word := s.target (s.eipNext + d.signExtend 32)

/-- `RelTarget` of a full displacement: sign-extended when the operand size is 16 (30_encoding.md R541). -/
def State.relTarget (s : State) (d : Word) : Word :=
  s.target (s.eipNext + if s.osz32 then d else (d.setWidth 16).signExtend 32)

/-- The target lies within the code segment, else `#GP(0)` (R860). -/
def checkTarget (t : Word) : M Unit := do
  let s ← get
  raiseIf (decide (s.cs.limit.toNat < t.toNat)) raiseGP0

/-- `NearJump(t)`, for a target already truncated (R860). -/
def nearJump (t : Word) : M Unit := do
  checkTarget t
  modify fun s => s.jump t

/-! Checks shared by instructions. -/

/-- Privileged instructions: `#GP(0)` in Virtual 8086 mode or with CPL above 0 (21_protection.md R410). -/
def requireCpl0 : M Unit := do
  let s ← get
  raiseIf (s.v86 || (s.prot && s.cpl != 0)) raiseGP0

/-- The mode by which the instruction is decoded is Protected Mode: the mode in force, or, where the queues may hold instructions decoded
before a change of PE, either (70_reset_and_hazards.md R1220, R1221; log entry 23). -/
def State.decodedProt (s : State) : Bool :=
  match s.queuedMode with
  | none => s.prot
  | some old => if Config.decodedBefore s.freeIdx then old else s.prot

/-- A far CALL, a far RET and an IRET go by Protected Mode: it is in force, and the instruction was decoded in it. One that the write of PE
finds already decoded may still load CS and EIP by the mode before (R1220, R1221; log entry 23); where PE was cleared all go by REAL mode, which
R1226 says of the JMP alone (DESIGN CHOICE, log entry 23). -/
def State.transferProt (s : State) : Bool := s.prot && s.decodedProt

/-- The queues may hold instructions decoded by the mode in force before CR0 becomes `v` (R1220, R1221). -/
def State.keepMode (s : State) (v : Word) : State :=
  if s.cr0.getLsbD 0 = v.getLsbD 0 then s else { s with queuedMode := some s.prot }

/-- Instructions of Protected Mode only: `#UD` in REAL and Virtual 8086 mode (21_protection.md R411). All bytes of the instruction are fetched
before, with the faults of that fetch, as 60_exceptions.md R1055 orders them, where 30_encoding.md R574 checks before the operand is decoded
further (DESIGN CHOICE, log entry 39). -/
def requireProt : M Unit := do
  let s ← get
  raiseIf (!s.decodedProt) raiseUD

/-- CLI and STI: `#GP(0)` with CPL above IOPL, in Virtual 8086 mode with IOPL below 3 (21_protection.md R404, R405). -/
def requireIopl : M Unit := do
  let s ← get
  raiseIf (s.pe && decide (s.flags.iopl.toNat < s.cpl.toNat)) raiseGP0

/-- INT n, PUSHF, POPF, IRET: `#GP(0)` in Virtual 8086 mode with IOPL below 3 (21_protection.md R405). -/
def requireV86Iopl : M Unit := do
  let s ← get
  raiseIf (s.v86 && s.flags.iopl != 3) raiseGP0

/-- The type codes of a 386 and of a 286 TSS descriptor (21_protection.md R314). -/
def SegReg.isTss386 (r : SegReg) : Bool := arType r.ar == 9 || arType r.ar == 11
def SegReg.isTss286 (r : SegReg) : Bool := arType r.ar == 1 || arType r.ar == 3

/-- `IoMapCheck(port, nb)` (21_protection.md R402). -/
def ioMapCheck (port : Half) (nb : Nat) : M Unit := do
  let s ← get
  raiseIf (!s.tr.valid || !s.tr.isTss386) raiseGP0
  raiseIf (decide (s.tr.limit.toNat < 0x67)) raiseGP0
  let base ← linRead (s.tr.base + 0x66) 2 false
  let o := base.toNat + port.toNat / 8
  raiseIf (decide (s.tr.limit.toNat < o + 1)) raiseGP0
  let bits ← linRead (s.tr.base + BitVec.ofNat 32 o) 2 false
  raiseIf (decide ((bits.toNat >>> (port.toNat % 8)) % 2 ^ nb ≠ 0)) raiseGP0

/-- `IoPermitted(port, nb)` (21_protection.md R400). -/
def ioPermitted (port : Half) (nb : Nat) : M Unit := do
  let s ← get
  if s.v86 || (s.prot && decide (s.flags.iopl.toNat < s.cpl.toNat)) then ioMapCheck port nb
  else pure ()

end Sys2Proof.Machine
end

