-- ==== Sys2Proof/Machine/Segments.lean ====
section
/-!
DEFINITION. Selectors and descriptors (21_protection.md sections 2 and 3), the loads of segment registers (section 5; 10_state.md
R72), and the far transfers within a task (section 6).
-/
namespace Sys2Proof.Machine

open Sys2Proof

/-! Selectors (R305). -/

/-- RPL. -/
def rpl (sel : Half) : BitVec 2 := sel.extractLsb' 0 2

/-- TI: true is the LDT. -/
def selTI (sel : Half) : Bool := sel.getLsbD 2

/-- The offset of the descriptor in its table: Index * 8. -/
def selOffset (sel : Half) : Nat := (sel &&& 0xFFF8).toNat

/-- The null selector, whatever its RPL (R341). -/
def selNull (sel : Half) : Bool := selCode sel == 0

/-- A selector with its RPL replaced. -/
def withRpl (sel : Half) (r : BitVec 2) : Half := sel.extractLsb' 2 14 ++ r

/-! Descriptors (R310). -/

/-- The two dwords of a descriptor. -/
structure Descriptor where
  lo : Word
  hi : Word
deriving DecidableEq, Repr

/-- The base address. -/
def Descriptor.base (d : Descriptor) : Word := d.hi.extractLsb' 24 8 ++ d.hi.extractLsb' 0 8 ++ d.lo.extractLsb' 16 16

/-- The 12 attribute bits. -/
def Descriptor.ar (d : Descriptor) : BitVec 12 := d.hi.extractLsb' 20 4 ++ d.hi.extractLsb' 8 8

/-- The effective limit in bytes (R312). -/
def Descriptor.limit (d : Descriptor) : Word :=
  let l20 : BitVec 20 := d.hi.extractLsb' 16 4 ++ d.lo.extractLsb' 0 16
  if d.hi.getLsbD 23 then l20 ++ (0xFFF : BitVec 12) else l20.setWidth 32

/-- A code segment. -/
def Descriptor.isCode (d : Descriptor) : Bool := arS d.ar && arE d.ar

/-- A writable data segment. -/
def Descriptor.isWritable (d : Descriptor) : Bool := arS d.ar && !arE d.ar && arW d.ar

/-- A conforming code segment. -/
def Descriptor.conforming (d : Descriptor) : Bool := d.isCode && arC d.ar

/-- The type of a system descriptor, or none for a code or data descriptor (R314). -/
def Descriptor.system (d : Descriptor) : Option Nat := if arS d.ar then none else some (arType d.ar)

/-- The selector field of a gate (R316). -/
def Descriptor.gateSel (d : Descriptor) : Half := d.lo.extractLsb' 16 16

/-- The offset of a gate: 16 bits in a 286 gate (R316). -/
def Descriptor.gateOffset (d : Descriptor) (is386 : Bool) : Word :=
  if is386 then d.hi.extractLsb' 16 16 ++ d.lo.extractLsb' 0 16 else (d.lo.extractLsb' 0 16).setWidth 32

/-- The word count of a call gate (R316). -/
def Descriptor.gateCount (d : Descriptor) : Nat := (d.hi.extractLsb' 0 5).toNat

/-- The descriptor loaded into a register. The base, limit and granularity are taken from the same bits whatever the type: where bytes 6 and
7 of a 286 system descriptor are not zero, which 21_protection.md R315 does not provide for, they are used as they stand (DESIGN CHOICE,
log entry 28). -/
def Descriptor.toSegReg (d : Descriptor) (sel : Half) : SegReg :=
  { sel := sel, base := d.base, limit := d.limit, ar := d.ar, valid := true }

/-- The table a selector names: its base and limit; none where it is the LDT and LDTR is not valid (R306). -/
def State.table (s : State) (sel : Half) : Option (Word × Nat) :=
  if selTI sel then (if s.ldtr.valid then some (s.ldtr.base, s.ldtr.limit.toNat) else none)
  else some (s.gdtr.base, s.gdtr.limit.toNat)

/-- The linear address of the descriptor a selector names, where its table holds it (R306). -/
def State.descriptorAt (s : State) (sel : Half) : Option Word :=
  match s.table sel with
  | none => none
  | some (base, limit) => if limit < selOffset sel + 7 then none else some (base + BitVec.ofNat 32 (selOffset sel))

/-- The two dwords at a linear address, with supervisor rights (R306), read without another bus master between (20_memory.md R234). -/
def linDescriptor (la : Word) : M Descriptor := do
  let keys ← linKeys la 8 false false
  let s ← get
  pure { lo := s.readKeys (keys.take 4), hi := s.readKeys (keys.drop 4) }

/-- `ReadDescriptor(sel)`; none is `fail` (R306). -/
def readDescriptor (sel : Half) : M (Option Descriptor) := do
  let s ← get
  match s.descriptorAt sel with
  | none => pure none
  | some la => do
    let d ← linDescriptor la
    pure (some d)

/-- `ReadDescriptor(sel)`, raising `fail` where it fails. -/
def needDescriptor (sel : Half) (fail : M Unit) : M Descriptor := do
  match (← readDescriptor sel) with
  | some d => pure d
  | none => do
    fail
    pure { lo := 0, hi := 0 }

/-- The access rights byte of the descriptor a selector names is written with the bits `set` set and `clear` cleared, in one locked
sequence with the read of the descriptor, or with that of the byte (R343; 20_memory.md R234 item 3). R343 leaves open whether the byte or the
dword that holds it is written: here it is the one byte at offset 5, and its page alone is translated for writing (DESIGN CHOICE, log entry
35). Where the table does not hold the
descriptor, which only the selector of an outgoing TR can meet (R387 step 2), nothing is written and nothing raised (DESIGN CHOICE, log entry
8). -/
def writeAccessByte (sel : Half) (set clear : Word) : M Unit := do
  let s ← get
  match s.descriptorAt sel with
  | none => pure ()
  | some la => locked do
    let keys ← linKeys (la + 5) 1 true false
    modify fun t => t.writeKeys keys ((t.readKeys keys ||| set) &&& ~~~ clear)

/-- The Accessed bit is set where it is clear (R317, R340). -/
def markAccessed (sel : Half) (d : Descriptor) : M Unit :=
  if arA d.ar then pure () else writeAccessByte sel 1 0

/-- What comes between the read of the descriptor `d` and the write that sets its Accessed bit, with that write: locked where there is such a
write (R343; 20_memory.md R234 item 3). -/
def untilMarked {α : Type} (d : Descriptor) (x : M α) : M α := lockedIf (!arA d.ar) x

/-! Loads of segment registers. -/

/-- A REAL mode load: the limit and the attributes stay (10_state.md R72). -/
def realLoad (r : SegReg) (sel : Half) : SegReg := { r with sel := sel, base := (sel.setWidth 32) <<< 4, valid := true }

/-- A Virtual 8086 mode load: limit FFFFH, read/write, DPL 3 (10_state.md R72). -/
def v86Load (sel : Half) : SegReg :=
  { sel := sel, base := (sel.setWidth 32) <<< 4, limit := 0xFFFF, ar := 0x0F3, valid := true }

/-- The 8086-style load of the mode in force. -/
def State.load8086 (s : State) (r : SegReg) (sel : Half) : SegReg := if s.v86 then v86Load sel else realLoad r sel

/-- `LoadDataSeg(s, sel)` (R340); `fail` is raised where the rules say `#GP(sel)` (a task switch raises `#TS`, R387). -/
def loadDataSeg (g : Seg) (sel : Half) (fail : Half → M Unit) : M Unit := do
  if selNull sel then modify fun s => s.setSeg g { s.seg g with sel := sel, valid := false }
  else do
    let d ← needDescriptor sel (fail sel)
    let s ← get
    raiseIf (!arS d.ar) (fail sel)
    raiseIf (arE d.ar && !arW d.ar) (fail sel)
    raiseIf (!d.conforming && decide ((arDpl d.ar).toNat < max s.cpl.toNat (rpl sel).toNat)) (fail sel)
    raiseIf (!arP d.ar) (raiseNP sel)
    markAccessed sel d
    modify fun s => s.setSeg g (d.toSegReg sel)

/-- The checks of a stack segment for privilege level `n` (R342, R363, R372): the null selector raises `nullFail`. -/
def stackDescriptor (sel : Half) (n : BitVec 2) (nullFail : M Unit) (fail : Half → M Unit) : M Descriptor := do
  raiseIf (selNull sel) nullFail
  let d ← needDescriptor sel (fail sel)
  raiseIf (rpl sel != n) (fail sel)
  raiseIf (!d.isWritable) (fail sel)
  raiseIf (arDpl d.ar != n) (fail sel)
  raiseIf (!arP d.ar) (raiseSS sel)
  pure d

/-- `LoadSS(sel)` (R342). -/
def loadSS (sel : Half) : M Unit := do
  let s ← get
  let d ← stackDescriptor sel s.cpl raiseGP0 raiseGP
  markAccessed sel d
  modify fun s => s.setSeg .ss (d.toSegReg sel)

/-- A segment register other than CS is loaded, by the mode in force, or that by which the instruction was decoded (R344;
70_reset_and_hazards.md R1221). -/
def loadSeg (g : Seg) (sel : Half) : M Unit := do
  let s ← get
  if !s.decodedProt then modify fun t => t.setSeg g (t.load8086 (t.seg g) sel)
  else if g = .ss then loadSS sel
  else loadDataSeg g sel raiseGP

/-- CS is loaded with a code segment and the privilege level `n`; the Accessed bit is set (R317, R331). -/
def loadCs (sel : Half) (d : Descriptor) (n : BitVec 2) : M Unit := do
  markAccessed sel d
  modify fun s => { s.setSeg .cs (d.toSegReg (withRpl sel n)) with cpl := n }

/-- SS is loaded with a checked stack segment. -/
def loadStack (sel : Half) (d : Descriptor) : M Unit := do
  markAccessed sel d
  modify fun s => s.setSeg .ss (d.toSegReg sel)

/-- A null segment register (R376; 60_exceptions.md R1070). -/
def SegReg.nulled (r : SegReg) : SegReg := { r with sel := 0, valid := false }

/-- The register may not be kept at the outer level `n`: data or non-conforming code with DPL below it, or not valid (R376). -/
def SegReg.unusable (r : SegReg) (n : BitVec 2) : Bool :=
  !r.valid || (!(arE r.ar && arC r.ar) && decide ((arDpl r.ar).toNat < n.toNat))

/-- DS, ES, FS, GS after a return to an outer level (R376). -/
def State.nullUnusable (s : State) (n : BitVec 2) : State :=
  let f := fun r : SegReg => if r.unusable n then r.nulled else r
  { s with ds := f s.ds, es := f s.es, fs := f s.fs, gs := f s.gs }

/-! Far transfers to code segments. -/

/-- `off` lies within a code segment's limit, else `#GP(0)`. -/
def checkOffset (d : Descriptor) (off : Word) : M Unit := raiseIf (decide (d.limit.toNat < off.toNat)) raiseGP0

/-- The upper half of a pushed CS selector at 32 bits is undefined (46_control_transfer.md R865; 40_data_transfer.md R616). -/
def undefHigh (idx : Nat) (sel : Half) : Word := (Config.undef idx 7).extractLsb' 0 16 ++ sel

/-- The return address of a far CALL is pushed: CS, then `EIP_next` (R352). -/
def pushReturn (csImage : Word) (w : Nat) : M Unit := do
  let s ← get
  push csImage w
  push s.eipNext w

/-- The end of a far transfer within the task. -/
def enterCode (sel : Half) (d : Descriptor) (n : BitVec 2) (off : Word) : M Unit := do
  loadCs sel d n
  modify fun s => s.jump off

/-- A far JMP or, with `call`, CALL to a code segment at the same level, with return addresses of `w` bytes (R352, R355). The upper half of
a 32-bit CS item is zero as R352 writes it, where section 2 of 93_implementation_defined.md calls it undefined (DESIGN CHOICE, log entry
30). -/
def sameLevel (call : Bool) (sel : Half) (d : Descriptor) (off : Word) (w : Nat) : M Unit := do
  let s ← get
  raiseIf (!arP d.ar) (raiseNP sel)
  if call then checkRoom 2 w
  checkOffset d off
  if call then pushReturn (s.cs.sel.setWidth 32) w
  enterCode sel d s.cpl off

/-- The privilege checks of a direct far JMP or CALL to a code segment (R352). -/
def directCode (call : Bool) (sel : Half) (d : Descriptor) (off : Word) : M Unit := do
  let s ← get
  if arC d.ar then raiseIf (decide (s.cpl.toNat < (arDpl d.ar).toNat)) (raiseGP sel)
  else raiseIf (decide (s.cpl.toNat < (rpl sel).toNat) || arDpl d.ar != s.cpl) (raiseGP sel)
  sameLevel call sel d (s.target off) s.osz.bytes

/-- `InnerStack(n)` (R363): the selector, its descriptor, and the stack pointer. A TR that holds no TSS raises `#TS(TR.sel)` (log
entry 8). -/
def innerStack (n : BitVec 2) : M (Half × Descriptor × Word) := do
  let s ← get
  let is386 := s.tr.isTss386
  raiseIf (!is386 && !s.tr.isTss286) (raiseTS s.tr.sel)
  let a := if is386 then 4 + 8 * n.toNat else 2 + 4 * n.toNat
  let w := if is386 then 4 else 2
  raiseIf (decide (s.tr.limit.toNat < a + w + 1)) (raiseTS s.tr.sel)
  let newEsp ← linRead (s.tr.base + BitVec.ofNat 32 a) w false
  let newSs ← linRead (s.tr.base + BitVec.ofNat 32 (a + w)) 2 false
  let sel : Half := newSs.setWidth 16
  let d ← stackDescriptor sel n (raise 10 (some 0)) raiseTS
  pure (sel, d, newEsp)

/-- The items of `w` bytes pushed one after the other. -/
def pushAll (w : Nat) : List Word → M Unit
  | [] => pure ()
  | v :: rest => do
    push v w
    pushAll w rest

/-- The `k` parameters on the old stack, whose segment register was `r` and whose stack pointer `sp`, the last one first: each is read with
the rights of the old level, and pushed (R356). -/
def copyParams (r : SegReg) (user : Bool) (sp : Word) (w : Nat) : Nat → M Unit
  | 0 => pure ()
  | k + 1 => do
    let keys ← regKeys r true user (stackAdd (arD r.ar) sp (BitVec.ofNat 32 (k * w))) w false
    let s ← get
    push (s.readKeys keys) w
    copyParams r user sp w k

/-- CALL through a call gate to a more privileged level (R356). -/
def callInner (csel : Half) (c : Descriptor) (off : Word) (w k : Nat) : M Unit := do
  let s ← get
  let n := arDpl c.ar
  let (ssel, sd, newEsp) ← innerStack n
  let newSs := sd.toSegReg ssel
  raiseIf (!newSs.hasRoom (if arD newSs.ar then newEsp else low16 newEsp) (4 + k) w true) raiseSS0
  checkOffset c off
  loadStack ssel sd
  modify fun t => { t.setReg .b32 .esp newEsp with cpl := n }
  pushAll w [s.ss.sel.setWidth 32, s.regs.esp]
  copyParams s.ss s.user s.sp w k
  pushAll w [s.cs.sel.setWidth 32, s.eipNext]
  enterCode csel c n off

/-- Through a call gate (R355). A CALL to the same level makes the checks of R352 that follow those of R355; sel.RPL of the gate's code
selector is not held against CPL (DESIGN CHOICE, log entry 29). -/
def throughGate (call : Bool) (gsel : Half) (g : Descriptor) : M Unit := do
  let s ← get
  let is386 := g.system == some 12
  let w := if is386 then 4 else 2
  raiseIf (decide ((arDpl g.ar).toNat < max s.cpl.toNat (rpl gsel).toNat)) (raiseGP gsel)
  raiseIf (!arP g.ar) (raiseNP gsel)
  let csel := g.gateSel
  let off := g.gateOffset is386
  raiseIf (selNull csel) raiseGP0
  let c ← needDescriptor csel (raiseGP csel)
  raiseIf (!c.isCode) (raiseGP csel)
  raiseIf (decide (s.cpl.toNat < (arDpl c.ar).toNat)) (raiseGP csel)
  if !call then do
    raiseIf (!arC c.ar && arDpl c.ar != s.cpl) (raiseGP csel)
    untilMarked c (sameLevel false csel c off w)
  else do
    raiseIf (!arP c.ar) (raiseNP csel)
    if !arC c.ar && decide ((arDpl c.ar).toNat < s.cpl.toNat) then untilMarked c (callInner csel c off w g.gateCount)
    else untilMarked c (sameLevel true csel c off w)

/-! Far returns (R370 to R376; 48_interrupt_instructions.md R933, R934). -/

/-- The checks of a return selector (R370). -/
def returnDescriptor (sel : Half) : M Descriptor := do
  let s ← get
  raiseIf (selNull sel) raiseGP0
  raiseIf (decide ((rpl sel).toNat < s.cpl.toNat)) (raiseGP sel)
  let c ← needDescriptor sel (raiseGP sel)
  raiseIf (!c.isCode) (raiseGP sel)
  raiseIf (!arC c.ar && arDpl c.ar != rpl sel) (raiseGP sel)
  raiseIf (arC c.ar && decide ((rpl sel).toNat < (arDpl c.ar).toNat)) (raiseGP sel)
  raiseIf (!arP c.ar) (raiseNP sel)
  pure c

/-- CS of a return is loaded with the selector as it stands; its RPL is the new CPL (R371, R372). -/
def returnCs (sel : Half) (c : Descriptor) : M Unit := loadCs sel c (rpl sel)

/-- ESP after a return to an outer level of `w` bytes: a 16-bit return loads SP and leaves ESP[31:16] (R372). -/
def State.setEspW (s : State) (w : Nat) (v : Word) : State :=
  if w = 4 then s.setReg .b32 .esp v else s.setReg .b16 .esp (v.setWidth 16)

/-- The outer half of a far return whose frame, `frame` bytes with its immediate, is followed by ESP and SS (R372, R934): the stack
is switched, and the data segments the outer level may not use are nulled. -/
def returnOuter (sel : Half) (c : Descriptor) (newEip : Word) (w frame : Nat) (imm : Word) : M Unit := do
  checkStackTop (frame + 2 * w)
  let newEsp ← stackRead frame w
  let ssImage ← stackRead (frame + w) w
  let ssel : Half := ssImage.setWidth 16
  let n := rpl sel
  let d ← stackDescriptor ssel n raiseGP0 raiseGP
  checkOffset c newEip
  returnCs sel c
  loadStack ssel d
  modify fun s => ((s.setEspW w (newEsp + imm)).nullUnusable n).transfer newEip

/-- Far RET in Protected Mode (R370 to R372). -/
def farReturn (imm : Word) : M Unit := do
  let s ← get
  let w := s.osz.bytes
  checkStackTop (2 * w)
  let newEip ← stackRead 0 w
  let csImage ← stackRead w w
  let sel : Half := csImage.setWidth 16
  let c ← returnDescriptor sel
  if rpl sel = s.cpl then do
    checkOffset c newEip
    returnCs sel c
    modify fun t => ((t.dropStack (BitVec.ofNat 32 (2 * w) + imm)).transfer newEip).clearRf
  else do
    untilMarked c (returnOuter sel c newEip w (2 * w + imm.toNat) imm)
    modify State.clearRf

/-- Far RET in REAL and Virtual 8086 mode (46_control_transfer.md R876). -/
def farReturn8086 (imm : Word) : M Unit := do
  let s ← get
  let w := s.osz.bytes
  checkStackTop (2 * w)
  let off ← stackRead 0 w
  let csImage ← stackRead w w
  checkTarget off
  modify fun t => ((t.dropStack (BitVec.ofNat 32 (2 * w) + imm)).setSeg .cs (t.load8086 t.cs (csImage.setWidth 16))).jump off

/-- Far JMP or CALL in REAL and Virtual 8086 mode (46_control_transfer.md R865, R871). -/
def far8086 (call : Bool) (sel : Half) (off : Word) : M Unit := do
  let s ← get
  let w := s.osz.bytes
  if call then checkRoom 2 w
  checkTarget off
  if call then pushReturn (undefHigh s.freeIdx s.cs.sel) w
  modify fun t => (t.setSeg .cs (t.load8086 t.cs sel)).jump off

end Sys2Proof.Machine
end

