-- ==== Sys2Proof/Machine/Tasks.lean ====
section
/-!
DEFINITION. The task switch (21_protection.md section 7) and the dispatch of a far JMP or CALL in Protected Mode (R351, R385, R386).
-/
namespace Sys2Proof.Machine

open Sys2Proof

/-- What started a task switch (R387). -/
inductive SwitchKind where
  | jmp
  | call
  | int
  | iret
deriving DecidableEq, Repr

/-- The descriptor is of the 386 format: types 9 and B (R314). -/
def Descriptor.isTss386 (t : Descriptor) : Bool := t.system == some 9 || t.system == some 11

/-- An available TSS: types 1 and 9 (R314). -/
def Descriptor.isFreeTss (t : Descriptor) : Bool := t.system == some 1 || t.system == some 9

/-- A busy TSS: types 3 and B (R314). -/
def Descriptor.isBusyTss (t : Descriptor) : Bool := t.system == some 3 || t.system == some 11

/-- The limit is too small for a TSS (R383); at 65H, 66H and 2BH it is open (D12, log entry 8). -/
def tssTooSmall (is386 : Bool) (limit : Nat) : Bool :=
  if is386 then decide (limit ≤ 0x64) || (decide (limit < 0x67) && !Config.tssLimitAccepted limit)
  else decide (limit < 0x2B) || (decide (limit = 0x2B) && !Config.tssLimitAccepted limit)

/-- Items written at offsets of a TSS, each (offset, bytes, value), with supervisor rights (R387). -/
def writeItems (base : Word) : List (Nat × Nat × Word) → M Unit
  | [] => pure ()
  | (off, nb, v) :: rest => do
    linWrite (base + BitVec.ofNat 32 off) nb v false
    writeItems base rest

/-- Items of `nb` bytes read at offsets of a TSS, with supervisor rights (R387). -/
def readItems (base : Word) (nb : Nat) : List Nat → M (List Word)
  | [] => pure []
  | off :: rest => do
    let v ← linRead (base + BitVec.ofNat 32 off) nb false
    let vs ← readItems base nb rest
    pure (v :: vs)

/-- What the outgoing task saves in a 386 TSS: offsets 20 to 5F (R381). -/
def State.saved386 (s : State) (savedEip image : Word) : List (Nat × Nat × Word) :=
  [(0x20, 4, savedEip), (0x24, 4, image), (0x28, 4, s.regs.eax), (0x2C, 4, s.regs.ecx), (0x30, 4, s.regs.edx),
   (0x34, 4, s.regs.ebx), (0x38, 4, s.regs.esp), (0x3C, 4, s.regs.ebp), (0x40, 4, s.regs.esi), (0x44, 4, s.regs.edi),
   (0x48, 2, s.es.sel.setWidth 32), (0x4C, 2, s.cs.sel.setWidth 32), (0x50, 2, s.ss.sel.setWidth 32),
   (0x54, 2, s.ds.sel.setWidth 32), (0x58, 2, s.fs.sel.setWidth 32), (0x5C, 2, s.gs.sel.setWidth 32)]

/-- What it saves in a 286 TSS: the low 16 bits of each item (R382, R387). -/
def State.saved286 (s : State) (savedEip image : Word) : List (Nat × Nat × Word) :=
  [(0x0E, 2, savedEip), (0x10, 2, image), (0x12, 2, s.regs.eax), (0x14, 2, s.regs.ecx), (0x16, 2, s.regs.edx),
   (0x18, 2, s.regs.ebx), (0x1A, 2, s.regs.esp), (0x1C, 2, s.regs.ebp), (0x1E, 2, s.regs.esi), (0x20, 2, s.regs.edi),
   (0x22, 2, s.es.sel.setWidth 32), (0x24, 2, s.cs.sel.setWidth 32), (0x26, 2, s.ss.sel.setWidth 32),
   (0x28, 2, s.ds.sel.setWidth 32)]

/-- The outgoing state saved through the TR cache (R387 step 2); a TR that holds no TSS is written as a 386 TSS (log entry 8). -/
def saveTask (savedEip image : Word) : M Unit := do
  let s ← get
  writeItems s.tr.base (if s.tr.isTss286 then s.saved286 savedEip image else s.saved386 savedEip image)

/-- The general registers of a list of items in the order of the TSS. -/
def regsOfItems (x : List Word) : Regs :=
  { eax := x.getD 0 0, ecx := x.getD 1 0, edx := x.getD 2 0, ebx := x.getD 3 0, esp := x.getD 4 0, ebp := x.getD 5 0
    esi := x.getD 6 0, edi := x.getD 7 0 }

/-- A segment register that holds a selector not yet loaded (R387 step 6). -/
def SegReg.pending (r : SegReg) (sel : Half) : SegReg := { r with sel := sel, valid := false }

/-- The incoming state of the registers: EFLAGS with NT set by CALL and INT, EIP, the general registers and the selectors, none of
them loaded yet; the local breakpoint enables are cleared (R387 step 6; 10_state.md R112). In Virtual 8086 mode CPL is 3 (R423). -/
def State.incoming (s : State) (kind : SwitchKind) (flags eip : Word) (regs : Regs) (ldt : Half) (sels : List Half) : State :=
  let f := Flags.ofImage flags
  { s with
    flags := { f with nt := f.nt || kind == .call || kind == .int }
    eip := eip
    regs := regs
    ldtr := s.ldtr.pending ldt
    es := s.es.pending (sels.getD 0 0)
    cs := s.cs.pending (sels.getD 1 0)
    ss := s.ss.pending (sels.getD 2 0)
    ds := s.ds.pending (sels.getD 3 0)
    fs := s.fs.pending (sels.getD 4 0)
    gs := s.gs.pending (sels.getD 5 0)
    cpl := if f.vm then 3 else s.cpl
    dr7 := s.dr7 &&& ~~~ 0x155
    stale := []
    queued := []
    queuedMode := none }

/-- LDTR is loaded in a task switch (R387 step 7). -/
def switchLdt (sel : Half) : M Unit := do
  if selNull sel then modify fun s => { s with ldtr := { s.ldtr with sel := sel, valid := false } }
  else do
    raiseIf (selTI sel) (raiseTS sel)
    let d ← needDescriptor sel (raiseTS sel)
    raiseIf (d.system != some 2) (raiseTS sel)
    raiseIf (!arP d.ar) (raiseTS sel)
    modify fun s => { s with ldtr := d.toSegReg sel }

/-- CS is loaded in a task switch (R387 step 8). -/
def switchCs (sel : Half) : M Unit := do
  raiseIf (selNull sel) (raiseTS sel)
  let c ← needDescriptor sel (raiseTS sel)
  raiseIf (!c.isCode) (raiseTS sel)
  raiseIf (!arC c.ar && arDpl c.ar != rpl sel) (raiseTS sel)
  raiseIf (arC c.ar && decide ((rpl sel).toNat < (arDpl c.ar).toNat)) (raiseTS sel)
  raiseIf (!arP c.ar) (raiseNP sel)
  loadCs sel c (rpl sel)

/-- SS is loaded in a task switch, for the new CPL (R387 step 8). -/
def switchSs (sel : Half) : M Unit := do
  let s ← get
  let d ← stackDescriptor sel s.cpl (raiseTS sel) raiseTS
  loadStack sel d

/-- The segment registers of the new task (R387 step 8). -/
def switchSegments : M Unit := do
  let s ← get
  if s.flags.vm then
    modify fun t => { t with
      es := v86Load s.es.sel, cs := v86Load s.cs.sel, ss := v86Load s.ss.sel, ds := v86Load s.ds.sel
      fs := v86Load s.fs.sel, gs := v86Load s.gs.sel, cpl := 3 }
  else do
    switchCs s.cs.sel
    switchSs s.ss.sel
    loadDataSeg .ds s.ds.sel raiseTS
    loadDataSeg .es s.es.sel raiseTS
    loadDataSeg .fs s.fs.sel raiseTS
    loadDataSeg .gs s.gs.sel raiseTS

/-- CR3 of a 386 TSS, where paging is on; the TLB is flushed (R387 step 6; 22_paging.md R481). -/
def switchCr3 (base : Word) : M Unit := do
  let s ← get
  if s.pg then do
    let v ← linRead (base + 0x1C) 4 false
    modify fun t => { t with cr3 := v &&& 0xFFFFF000, tlb := [] }
  else pure ()

/-- The incoming state from a 386 TSS, read from 1CH to 67H: the T bit is answered; the I/O map base beside it is read again at each use
(R381, R387 step 6, R389, R402). EFLAGS, EIP, the registers and the selectors are loaded together after the last of the reads: a page fault of
one of them is taken with TR, TS and CR3 new and these still old (DESIGN CHOICE, log entry 36). -/
def load386 (base : Word) (kind : SwitchKind) : M Bool := do
  let ldt ← linRead (base + 0x60) 2 false
  switchCr3 base
  let flags ← linRead (base + 0x24) 4 false
  let eip ← linRead (base + 0x20) 4 false
  let regs ← readItems base 4 [0x28, 0x2C, 0x30, 0x34, 0x38, 0x3C, 0x40, 0x44]
  let sels ← readItems base 2 [0x48, 0x4C, 0x50, 0x54, 0x58, 0x5C]
  let t ← linRead (base + 0x64) 4 false
  modify fun s => s.incoming kind flags eip (regsOfItems regs) (ldt.setWidth 16) (sels.map (BitVec.setWidth 16))
  pure (t.getLsbD 0)

/-- The incoming state from a 286 TSS: upper halves 0, FS and GS null, CR3 as it is (R382; D18). As in `load386` nothing is loaded before the
last of the reads (DESIGN CHOICE, log entry 36). -/
def load286 (base : Word) (kind : SwitchKind) : M Bool := do
  let ldt ← linRead (base + 0x2A) 2 false
  let flags ← linRead (base + 0x10) 2 false
  let eip ← linRead (base + 0x0E) 2 false
  let regs ← readItems base 2 [0x12, 0x14, 0x16, 0x18, 0x1A, 0x1C, 0x1E, 0x20]
  let sels ← readItems base 2 [0x22, 0x24, 0x26, 0x28]
  modify fun s => s.incoming kind flags eip (regsOfItems regs) (ldt.setWidth 16) (sels.map (BitVec.setWidth 16))
  pure false

/-- Past the commit point of a task switch an exception is taken in the state reached (R387 step 6). -/
def committed {α : Type} (x : M α) : M α := fun s =>
  match x s with
  | .ok a t => .ok a t
  | .error (.exc e _) t => .error (.exc e true) t
  | .error e t => .error e t

/-- Steps 5 to 10 of R387: TR and TS, the incoming state, its segment registers, and the check of its EIP. The trap of the T bit (step 9)
stays pending where that check fails, and comes at the first boundary in the handler of its fault (60_exceptions.md R1123; DESIGN CHOICE, log
entry 31). -/
def enterTask (nsel : Half) (t : Descriptor) (kind : SwitchKind) : M Unit := do
  modify fun s => { s with tr := { t.toSegReg nsel with ar := t.ar ||| 2 }, cr0 := s.cr0 ||| 8 }
  let debug ← if t.isTss386 then load386 t.base kind else load286 t.base kind
  let s ← get
  switchLdt s.ldtr.sel
  switchSegments
  modify fun u => { u with pend := { u.pend with bt := u.pend.bt || debug } }
  let u ← get
  raiseIf (decide (u.cs.limit.toNat < u.eip.toNat)) raiseGP0

/-- Steps 2 to 4 of R387: the outgoing state is saved, the old TSS freed, the back link written, the new TSS marked busy. The start of the
new TSS is read before, so that a TSS that is entirely not present is met while the switch can be restarted (60_exceptions.md R1058;
DEDUCED, log entry 22). -/
def leaveTask (nsel : Half) (t : Descriptor) (kind : SwitchKind) (savedEip image : Word) : M Unit := do
  let s ← get
  let _ ← linRead t.base 2 false
  saveTask savedEip (if kind = .iret then image &&& ~~~ 0x4000 else image)
  if kind = .jmp ∨ kind = .iret then writeAccessByte s.tr.sel 0 2
  if kind = .call ∨ kind = .int then linWrite t.base 2 (s.tr.sel.setWidth 32) false
  if kind ≠ .iret then writeAccessByte nsel 2 0

/-- `TaskSwitch(nsel, t, kind)` (R387), the outgoing EIP and EFLAGS image as given; an error code is pushed by the caller. From the read of
the new TSS's descriptor to the write that marks it busy the bus is locked (R343; 20_memory.md R234 item 3). -/
def taskSwitch (nsel : Half) (t : Descriptor) (kind : SwitchKind) (savedEip image : Word) : M Unit := do
  raiseIf (tssTooSmall t.isTss386 t.limit.toNat) (raiseTS nsel)
  lockedIf (kind != .iret) (leaveTask nsel t kind savedEip image)
  committed (enterTask nsel t kind)

/-- The checks of the TSS a task gate names (R386; 60_exceptions.md R1069); `ext` is added to the error codes. -/
def gateTask (tsel : Half) : M Descriptor := do
  raiseIf (selTI tsel || selNull tsel) (raiseGP tsel)
  let t ← needDescriptor tsel (raiseGP tsel)
  raiseIf (!t.isFreeTss) (raiseGP tsel)
  raiseIf (!arP t.ar) (raiseNP tsel)
  pure t

/-- The kind of the task switch of a far JMP or CALL. -/
def farKind (call : Bool) : SwitchKind := if call then .call else .jmp

/-- The task switch of a far JMP or CALL. -/
def farSwitch (call : Bool) (tsel : Half) (t : Descriptor) : M Unit := do
  let s ← get
  taskSwitch tsel t (farKind call) s.eipNext s.flags.image

/-- JMP or CALL to a TSS descriptor (R385). -/
def toTss (call : Bool) (sel : Half) (t : Descriptor) : M Unit := do
  let s ← get
  raiseIf (decide ((arDpl t.ar).toNat < max s.cpl.toNat (rpl sel).toNat)) (raiseGP sel)
  raiseIf (selTI sel) (raiseGP sel)
  raiseIf (!arP t.ar) (raiseNP sel)
  farSwitch call sel t

/-- JMP or CALL through a task gate (R386). -/
def throughTaskGate (call : Bool) (gsel : Half) (g : Descriptor) : M Unit := do
  let s ← get
  raiseIf (decide ((arDpl g.ar).toNat < max s.cpl.toNat (rpl gsel).toNat)) (raiseGP gsel)
  raiseIf (!arP g.ar) (raiseNP gsel)
  let t ← gateTask g.gateSel
  farSwitch call g.gateSel t

/-- `FarTarget(sel, off, kind)` (R351). -/
def farTarget (call : Bool) (sel : Half) (off : Word) : M Unit := do
  raiseIf (selNull sel) raiseGP0
  let d ← needDescriptor sel (raiseGP sel)
  match d.system with
  | none => if arE d.ar then untilMarked d (directCode call sel d off) else raiseGP sel
  | some 1 => toTss call sel d
  | some 4 => throughGate call sel d
  | some 5 => throughTaskGate call sel d
  | some 9 => toTss call sel d
  | some 12 => throughGate call sel d
  | some _ => raiseGP sel

/-- Far JMP or CALL (46_control_transfer.md R863, R869). After a write of PE the JMP goes by the mode in force, a CALL by that or by the mode
before, in which it may have been decoded (70_reset_and_hazards.md R1221; log entry 23). -/
def farTransfer (call : Bool) (sel : Half) (off : Word) : M Unit := do
  let s ← get
  if (if call then s.transferProt else s.prot) then farTarget call sel off else far8086 call sel off

end Sys2Proof.Machine
end

