-- ==== Sys2Proof/Machine/Ops.lean ====
section
/-!
DEFINITION. Taking an exception or an interrupt (60_exceptions.md sections 2 and 4), the return from one (48_interrupt_instructions.md
R930 to R935), and how the meaning of an instruction ends: completed, in an exception that is taken, or refused.
-/
namespace Sys2Proof.Machine

open Sys2Proof

/-- What a step answers. -/
abbrev Result := Host.Outcome State Fault Refusal

/-- The kinds of event that are delivered (R1059). -/
inductive EventKind where
  | software
  | fault
  | trap
  | abort
  | intr
  | nmi
deriving DecidableEq, Repr

/-- An event to deliver: `Deliver(vec, kind, err)` (R1059). -/
structure Event where
  vector : Byte
  kind : EventKind
  code : Option Half
deriving DecidableEq, Repr

/-- The event an exception is: a fault, but exceptions 8 and 9 are aborts (R1050). -/
def Exc.event (x : Exc) : Event :=
  { vector := x.vector, kind := if x.vector = 8 ∨ x.vector = 9 then .abort else .fault, code := x.code }

/-- Exception 8 is being delivered (R1100). -/
def Event.isDoubleFault (e : Event) : Bool := e.kind == .abort && e.vector == 8

/-! RESET and READY# (70_reset_and_hazards.md R1200; 20_memory.md R258). -/

/-- RESET: the state of 10_state.md R160; memory, the ports, the pins and the platform are not the processor's to change. With BUSY#
asserted the self-test's signature is in EAX (70_reset_and_hazards.md R1200, R1202, R1204). -/
def State.resetEvent (s : State) : State :=
  { State.reset with
    regs := { State.reset.regs with
      eax := if s.pins.busy then s.platform.selfTestSignature else State.reset.regs.eax
      edx := (0x2300 : Half).setWidth 32 ||| s.platform.steppingId.setWidth 32 }
    pins := s.pins
    stimuli := s.stimuli
    bus := s.bus
    mem := s.mem
    ioIn := s.ioIn
    ioOut := s.ioOut
    cycles := s.cycles
    platform := s.platform
    freeIdx := s.freeIdx
    accessIdx := s.accessIdx }

/-- What ends the processor's activity: RESET takes effect, or the machine waits for READY# until RESET. -/
def State.busStop (s : State) : BusStop → State
  | .reset => s.resetEvent
  | .stall => { s with run := .stalled }

/-! The entries. -/

/-- The EFLAGS image an entry pushes: RF = 1 for a fault (R1066, R1122). -/
def State.entryImage (s : State) (e : Event) : Word := Flags.image { s.flags with rf := s.flags.rf || e.kind == .fault }

/-- `RealEntry(vec)` (R1060, R1062, R1063), without an error code (R1061). A software interrupt is a completed instruction and clears RF
(R1122). The linear address of the vector is its physical address but for an INT decoded before PE and PG were set
(70_reset_and_hazards.md R1221, R1223), whose exception 8 has the error code 0 of Protected Mode; log entry 23. -/
def realEntry (e : Event) (savedEip : Word) : M Unit := do
  let s ← get
  raiseIf (decide (s.idtr.limit.toNat < e.vector.toNat * 4 + 3)) (raise 8 (some 0))
  let at_ := s.idtr.base + BitVec.ofNat 32 (e.vector.toNat * 4)
  let newIp ← linRead at_ 2 false
  let newCs ← linRead (at_ + 2) 2 false
  checkRoom 3 2
  push s.flags.image 2
  push (s.cs.sel.setWidth 32) 2
  push savedEip 2
  modify fun t =>
    { t with
      flags := { t.flags with ifl := false, tf := false, rf := t.flags.rf && e.kind != .software }
      cs := realLoad t.cs (newCs.setWidth 16)
      eip := low16 newIp }

/-- EFLAGS after an entry in Protected or Virtual 8086 mode (R1066): IF is cleared by an interrupt gate only. -/
def Flags.entered (f : Flags) (interruptGate : Bool) : Flags :=
  { f with tf := false, nt := false, rf := false, vm := false, ifl := f.ifl && !interruptGate }

/-- An interrupt gate, types 6 and E (R1066). -/
def Descriptor.isInterruptGate (g : Descriptor) : Bool := g.system == some 6 || g.system == some 14

/-- A 386 interrupt or trap gate, types E and F (R1066). -/
def Descriptor.isGate386 (g : Descriptor) : Bool := g.system == some 14 || g.system == some 15

/-- A descriptor the IDT may hold (R1066). -/
def Descriptor.isIdtGate (g : Descriptor) : Bool :=
  g.system == some 5 || g.system == some 6 || g.system == some 7 || g.isGate386

/-- The error code as an item to push. -/
def codeItems (code : Option Half) : List Word :=
  match code with
  | none => []
  | some c => [c.setWidth 32]

/-- CS:EIP and the flags at the end of an entry. -/
def enterHandler (csel : Half) (c : Descriptor) (n : BitVec 2) (off : Word) (interruptGate : Bool) : M Unit := do
  loadCs csel c n
  modify fun s => { s with eip := off, flags := s.flags.entered interruptGate }

/-- Entry at the same level (R1066). -/
def sameEntry (e : Event) (savedEip : Word) (g c : Descriptor) (w : Nat) : M Unit := do
  let s ← get
  let items := [s.entryImage e, s.cs.sel.setWidth 32, savedEip] ++ codeItems e.code
  checkRoom items.length w
  checkOffset c (g.gateOffset g.isGate386)
  pushAll w items
  enterHandler g.gateSel c s.cpl (g.gateOffset g.isGate386) g.isInterruptGate

/-- The new stack of an entry that changes level has room for `n` items of `w` bytes, else `#SS` (R1067, R1070). -/
def checkNewRoom (r : SegReg) (newEsp : Word) (n w : Nat) : M Unit :=
  raiseIf (!r.hasRoom (if arD r.ar then newEsp else low16 newEsp) n w true) raiseSS0

/-- Entry to a more privileged level (R1067). -/
def innerEntry (e : Event) (savedEip : Word) (g c : Descriptor) (w : Nat) : M Unit := do
  let s ← get
  let n := arDpl c.ar
  let (ssel, sd, newEsp) ← innerStack n
  let items :=
    [s.ss.sel.setWidth 32, s.regs.esp, s.entryImage e, s.cs.sel.setWidth 32, savedEip] ++ codeItems e.code
  checkNewRoom (sd.toSegReg ssel) newEsp items.length w
  checkOffset c (g.gateOffset g.isGate386)
  loadStack ssel sd
  modify fun t => { t.setReg .b32 .esp newEsp with cpl := n }
  pushAll w items
  enterHandler g.gateSel c n (g.gateOffset g.isGate386) g.isInterruptGate

/-- Entry from Virtual 8086 mode (R1070; the upper halves of the segment items are 0, D34). -/
def v86Entry (e : Event) (savedEip : Word) (g c : Descriptor) : M Unit := do
  let s ← get
  raiseIf (arC c.ar || arDpl c.ar != 0) (raiseGP g.gateSel)
  if !g.isGate386 then refuse .gate286FromV86
  let (ssel, sd, newEsp) ← innerStack 0
  let segments := [s.gs.sel.setWidth 32, s.fs.sel.setWidth 32, s.ds.sel.setWidth 32, s.es.sel.setWidth 32]
  let rest :=
    [s.ss.sel.setWidth 32, s.regs.esp, s.entryImage e, s.cs.sel.setWidth 32, savedEip] ++ codeItems e.code
  checkNewRoom (sd.toSegReg ssel) newEsp (segments ++ rest).length 4
  checkOffset c (g.gateOffset true)
  modify fun t => { t with flags := t.flags.entered g.isInterruptGate, cpl := 0 }
  loadStack ssel sd
  modify fun t => t.setReg .b32 .esp newEsp
  pushAll 4 segments
  modify fun t => { t with gs := t.gs.nulled, fs := t.fs.nulled, ds := t.ds.nulled, es := t.es.nulled }
  pushAll 4 rest
  enterHandler g.gateSel c 0 (g.gateOffset true) g.isInterruptGate

/-- Entry through a task gate (R1069): the error code goes on the new task's stack. -/
def taskEntry (e : Event) (savedEip : Word) (g : Descriptor) : M Unit := do
  let s ← get
  let t ← gateTask g.gateSel
  taskSwitch g.gateSel t .int savedEip s.flags.image
  committed do
    let w := if t.isTss386 then 4 else 2
    let items := codeItems e.code
    checkRoom items.length w
    pushAll w items

/-- Through a trap or interrupt gate (R1066). -/
def gateEntry (e : Event) (savedEip : Word) (g : Descriptor) : M Unit := do
  let s ← get
  let csel := g.gateSel
  raiseIf (selNull csel) raiseGP0
  let c ← needDescriptor csel (raiseGP csel)
  raiseIf (!c.isCode) (raiseGP csel)
  raiseIf (decide (s.cpl.toNat < (arDpl c.ar).toNat)) (raiseGP csel)
  raiseIf (!arP c.ar) (raiseNP csel)
  untilMarked c (
    if s.v86 then v86Entry e savedEip g c
    else if !arC c.ar && decide ((arDpl c.ar).toNat < s.cpl.toNat) then
      innerEntry e savedEip g c (if g.isGate386 then 4 else 2)
    else sameEntry e savedEip g c (if g.isGate386 then 4 else 2))

/-- The error code that names a vector: `vec*8 + 2` (21_protection.md R337). -/
def vectorCode (vec : Byte) : Option Half := some (BitVec.ofNat 16 (vec.toNat * 8 + 2))

/-- `ProtEntry(vec, kind, err)` (R1066). -/
def protEntry (e : Event) (savedEip : Word) : M Unit := do
  let s ← get
  raiseIf (decide (s.idtr.limit.toNat < e.vector.toNat * 8 + 7)) (raise 13 (vectorCode e.vector))
  let g ← linDescriptor (s.idtr.base + BitVec.ofNat 32 (e.vector.toNat * 8))
  raiseIf (!g.isIdtGate) (raise 13 (vectorCode e.vector))
  raiseIf (e.kind == .software && decide ((arDpl g.ar).toNat < s.cpl.toNat)) (raise 13 (vectorCode e.vector))
  raiseIf (!arP g.ar) (raise 11 (vectorCode e.vector))
  if g.system == some 5 then taskEntry e savedEip g else gateEntry e savedEip g

/-- The entry goes through the gates of the IDT: PE is set, and a software interrupt was not decoded before it was (70_reset_and_hazards.md
R1220, R1221; log entry 23). Where PE was cleared every entry is that of REAL mode (DESIGN CHOICE, log entry 23). -/
def State.entryProt (s : State) (e : Event) : Bool := s.pe && (e.kind != .software || s.v86 || s.decodedProt)

/-- One attempt at an entry (R1059). -/
def entry (e : Event) (savedEip : Word) : M Unit := do
  let s ← get
  if s.entryProt e then protEntry e savedEip else realEntry e savedEip

/-! Delivery. -/

/-- EXT is set in the error codes of the selector form that arise while an event other than a software interrupt is delivered
(21_protection.md R337; R1066). -/
def Exc.withExt (x : Exc) (first : Event) : Exc :=
  if first.kind != .software && decide (10 ≤ x.vector.toNat) && decide (x.vector.toNat ≤ 13) then
    { x with code := x.code.map (· ||| 1) }
  else x

/-- Exceptions 0 and 10 to 13, which make a double fault of another one (R1100). -/
def Event.contributory (e : Event) : Bool :=
  e.kind == .fault && (e.vector == 0 || (decide (10 ≤ e.vector.toNat) && decide (e.vector.toNat ≤ 13)))

/-- The double fault. -/
def doubleFault : Event := { vector := 8, kind := .abort, code := some 0 }

/-- What an exception during the delivery of `first` becomes; none is shutdown (R1100). After exception 0 a page fault is delivered as
itself (DEDUCED, log entry 20). -/
def combine (first : Event) (second : Exc) : Option Event :=
  if first.isDoubleFault then none
  else if first.kind = .fault ∧ first.vector = 14 then some doubleFault
  else if first.contributory ∧ second.vector ≠ 14 then some doubleFault
  else some (second.withExt first).event

/-- The state a failed instruction or entry leaves: registers and flags as before it; what it stored, the Accessed and Dirty bits, the
TLB and what the queues have read through it, CR2, DR6, DR7, the port writes and what the environment has done as they are (R1057). -/
def State.rollback (s t : State) : State :=
  { s with
    mem := t.mem, stale := t.stale, queued := t.queued, tlb := t.tlb, cr2 := t.cr2, dr6 := t.dr6, dr7 := t.dr7
    ioOut := t.ioOut, bus := t.bus, accessIdx := t.accessIdx }

/-- The state after a successful entry: the machine runs, no prefix and no single step is pending, the queues are empty; exception 1
clears DR7.GD (10_state.md R112), and no other event with vector 1, INT 1 or INTR, does (DESIGN CHOICE, log entry 41). RF is cleared by the
gates of Protected Mode and by a software interrupt in REAL mode; a task switch leaves it as the new task's image has it (R1122). A debug
trap held by `INHIBIT` stays pending until the first boundary in the handler (R1086; DEDUCED, log entry 31); so does the trap of a task's T
bit, where the push of the error code or the check of EIP faults after the switch (R1123; DESIGN CHOICE, log entry 31). -/
def State.entered (s : State) (e : Event) : State :=
  { s with
    run := .running
    pfx := Pfx.none
    inhibit := false
    held := false
    stale := []
    queued := []
    queuedMode := none
    pend := { s.pend with tfStart := false }
    dr7 := if e.vector = 1 ∧ (e.kind = .fault ∨ e.kind = .trap) then s.dr7 &&& ~~~ 0x2000 else s.dr7 }

/-- The shutdown state, after the shutdown indication (R1141). A debug trap still pending is dropped: none comes after an NMI has ended the
shutdown (DESIGN CHOICE, log entry 31). -/
def State.shut (s : State) : State :=
  { s with
    run := .shutdown, pfx := Pfx.none, inhibit := false, held := false, pend := Pend.none, cycles := .shutdown :: s.cycles }

/-- `Deliver` with the exceptions it meets (R1059, R1100): at most the event, one exception, a page fault and a double fault follow one
another, so five attempts are never all used. -/
def deliverWith : Nat → Event → Word → State → Result
  | 0, _, _, s => .next s.shut
  | n + 1, e, savedEip, s =>
    match entry e savedEip s with
    | .ok _ t => .next (t.entered e)
    | .error (.refuse r) _ => .refused r
    | .error (.bus b) t => .next ((s.rollback t).busStop b)
    | .error (.exc x keep) t =>
      let base := if keep then t else s.rollback t
      match combine e x with
      | none => .next base.shut
      | some e' => deliverWith n e' base.eip base

/-- `Deliver(vec, kind, err)` with the saved EIP given (R1059). -/
def deliver (e : Event) (savedEip : Word) (s : State) : Result := deliverWith 5 e savedEip s

/-- The exception `x`, raised in the state `t` by an instruction that began in `s`, is taken (R1051, R1057). -/
def takeException (s t : State) (x : Exc) (keep : Bool) : Result :=
  let base := if keep then t else s.rollback t
  deliver x.event base.eip base

/-! How an instruction ends. -/

/-- How a computation of an instruction that began in `s` stops short in the state `t`. -/
def stopped (s t : State) : Stop → Result
  | .exc x keep => takeException s t x keep
  | .refuse r => .refused r
  | .bus b => .next ((s.rollback t).busStop b)

/-- An instruction that completes: its prefixes are done, the inhibit of the one before it ends, and a single-step trap is pending where
TF was set at its start (R1086, R1120). -/
def State.complete (s : State) : State :=
  { s with pfx := Pfx.none, held := false, pend := { s.pend with bs := s.pend.bs || s.pend.tfStart, tfStart := false } }

/-- The outcome of the meaning `body` from `s`. -/
def perform (body : M Unit) (s : State) : Result :=
  match body s with
  | .ok _ t => .next t.complete
  | .error e t => stopped s t e

/-- A LOCK prefix before a form that Table 3.2 does not list raises `#UD` (30_encoding.md R508). -/
def noLock : M Unit := do
  let s ← get
  raiseIf s.pfx.lock raiseUD

/-- A LOCK prefix is accepted with a memory destination only (30_encoding.md R508; 20_memory.md R235). -/
def lockMemory (m : RM) : M Unit :=
  match m with
  | .reg _ => noLock
  | .mem _ => pure ()

/-- An instruction that takes no LOCK prefix. -/
def instr (body : M Unit) (s : State) : Result := perform (noLock *> body) s

/-- An instruction whose form with the memory operand `m` takes a LOCK prefix. -/
def lockable (m : RM) (body : M Unit) (s : State) : Result := perform (lockMemory m *> body) s

/-- A software interrupt: `Deliver(vec, software, none)` with the return address `EIP_next` (48_interrupt_instructions.md R920). -/
def softwareInterrupt (vec : Byte) (s : State) : Result :=
  deliver { vector := vec, kind := .software, code := none } s.eipNext s

/-- A meaning of the checks `pre` and then a software interrupt. -/
def interruptAfter (pre : M Unit) (vec : Byte) (s : State) : Result :=
  match (noLock *> pre) s with
  | .ok _ t => softwareInterrupt vec t
  | .error e t => stopped s t e

/-! The return from an interrupt. -/

/-- EFLAGS loaded from an image, with the fields that the level does not permit kept; VM is never changed here
(48_interrupt_instructions.md R931, R934; 41_flag_control.md R678). -/
def Flags.load (f : Flags) (image : Word) (ifOk ioplOk rfOk : Bool) : Flags :=
  let g := Flags.ofImage image
  { g with
    ifl := if ifOk then g.ifl else f.ifl
    iopl := if ioplOk then g.iopl else f.iopl
    rf := if rfOk then g.rf else f.rf
    vm := f.vm }

/-- EFLAGS after a return or POPF in the mode in force: IF where CPL is within IOPL, IOPL at CPL 0, everything in REAL mode
(R931, R934). -/
def State.loadFlags (s : State) (image : Word) (rfOk : Bool) : Flags :=
  s.flags.load image (!s.pe || decide (s.cpl.toNat ≤ s.flags.iopl.toNat)) (!s.pe || (s.prot && s.cpl == 0)) rfOk

/-- IRET in REAL and Virtual 8086 mode (R931). -/
def iret8086 : M Unit := do
  let s ← get
  let w := s.osz.bytes
  checkStackTop (3 * w)
  let newIp ← stackRead 0 w
  let csImage ← stackRead w w
  let image ← stackRead (2 * w) w
  checkTarget newIp
  modify fun t =>
    let u := (t.dropStack (BitVec.ofNat 32 (3 * w))).setSeg .cs (t.load8086 t.cs (csImage.setWidth 16))
    { u.transfer newIp with flags := t.loadFlags image s.osz32 }

/-- IRET with NT = 1: the task return (R932). The EIP saved in the outgoing TSS, which the list of R387 step 2 does not give for this
kind, is `EIP_next` (DEDUCED, log entry 22). -/
def iretTask : M Unit := do
  let s ← get
  let linkImage ← linRead s.tr.base 2 false
  let link : Half := linkImage.setWidth 16
  raiseIf (selTI link || selNull link) (raiseTS link)
  let t ← needDescriptor link (raiseTS link)
  raiseIf (!t.isBusyTss) (raiseTS link)
  raiseIf (!arP t.ar) (raiseNP link)
  taskSwitch link t .iret s.eipNext s.flags.image

/-- The nine items of the frame of R935 in the registers. -/
def State.enterV86 (s : State) (eip cs fl esp ss es ds fs gs : Word) : State :=
  { s.setReg .b32 .esp esp with
    eip := low16 eip
    flags := Flags.ofImage fl
    cpl := 3
    cs := v86Load (cs.setWidth 16)
    ss := v86Load (ss.setWidth 16)
    es := v86Load (es.setWidth 16)
    ds := v86Load (ds.setWidth 16)
    fs := v86Load (fs.setWidth 16)
    gs := v86Load (gs.setWidth 16)
    stale := []
    queued := []
    queuedMode := none }

/-- IRET from level 0 to Virtual 8086 mode (R935). -/
def iretV86 (newEip csImage image : Word) : M Unit := do
  checkStackTop 36
  let esp ← stackRead 12 4
  let ss ← stackRead 16 4
  let es ← stackRead 20 4
  let ds ← stackRead 24 4
  let fs ← stackRead 28 4
  let gs ← stackRead 32 4
  modify fun s => s.enterV86 newEip csImage image esp ss es ds fs gs

/-- IRET within the task to Protected Mode code (R934). -/
def iretCode (newEip csImage image : Word) (w : Nat) : M Unit := do
  let s ← get
  let sel : Half := csImage.setWidth 16
  let c ← returnDescriptor sel
  if rpl sel = s.cpl then do
    checkOffset c newEip
    returnCs sel c
    modify fun t => (t.dropStack (BitVec.ofNat 32 (3 * w))).transfer newEip
  else untilMarked c (returnOuter sel c newEip w (3 * w) 0)
  modify fun t => { t with flags := s.loadFlags image (w == 4) }

/-- IRET with NT = 0 in Protected Mode (R933). -/
def iretProt : M Unit := do
  let s ← get
  let w := s.osz.bytes
  checkStackTop (3 * w)
  let newEip ← stackRead 0 w
  let csImage ← stackRead w w
  let image ← stackRead (2 * w) w
  if w = 4 ∧ image.getLsbD 17 ∧ s.cpl = 0 then iretV86 newEip csImage image
  else iretCode newEip csImage image w

/-- IRET (R930): any IRET that completes ends the service of an NMI (60_exceptions.md R1084). It goes by the mode in force, or by the mode
before a write of PE where it may have been decoded in it (70_reset_and_hazards.md R1221; log entry 23). -/
def iretBody : M Unit := do
  let s ← get
  requireV86Iopl
  if !s.transferProt then iret8086
  else if s.flags.nt then iretTask
  else iretProt
  modify fun t => { t with nmiInService := false }

end Sys2Proof.Machine
end

