-- ==== Sys2Proof/Machine/Arithmetic.lean ====
section
/-!
DEFINITION. Arithmetic: ADD, ADC, SUB, SBB, CMP, INC, DEC, NEG, the decimal adjustments, multiplication, division and sign conversion
(42_arithmetic.md); the five shared forms are also those of AND, OR, XOR (43_logic.md).
-/
namespace Sys2Proof.Machine

open Sys2Proof

/-! The five forms (R701). -/

/-- The flags of an operation on an operand that is only read. -/
def readOnly (w : Width) (m : RM) (k : BitVec w.bits → Flags → Flags) : M Unit := do
  let v ← readRM w m
  modify fun s => { s with flags := k v s.flags }
  advance

/-- The operand is read and written by `k`, which also gives the flags. -/
def readWrite (w : Width) (m : RM) (k : BitVec w.bits → Flags → BitVec w.bits × Flags) : M Unit := do
  updateRM w m k
  advance

/-- The destination is the operand `m`, the source the value `b`. -/
def aluTo (op : AluOp) (w : Width) (m : RM) (b : BitVec w.bits) : M Unit := do
  let s ← get
  readWrite w m fun a f => alu op f s.freeIdx a b

/-- The destination is the register `r`, the source the operand `m`. -/
def aluFrom (op : AluOp) (w : Width) (m : RM) (r : Reg) : M Unit := do
  let s ← get
  let b ← readRM w m
  modify fun t => t.updateReg w r fun a f => alu op f s.freeIdx a b
  advance

/-- CMP: the flags of `a - b` (R710). -/
def cmpFlags {n : Nat} (f : Flags) (a b : BitVec n) : Flags := (subFlags f a b false).2

/-- The forms with a general register; d = 1 makes it the destination. -/
def aluRmReg (op : AluOp) (d w : Bool) (m : RM) (r : Reg) (s : State) : Result :=
  if d then instr (aluFrom op (s.width w) m r) s
  else lockable m (aluTo op (s.width w) m (s.reg (s.width w) r)) s

/-- The forms with an immediate (R524). -/
def aluRmImm (op : AluOp) (signed8 w : Bool) (m : RM) (imm : Word) (s : State) : Result :=
  lockable m (aluTo op (s.width w) m (immValue (s.width w) (signed8 && w) imm)) s

/-- The short forms of the accumulator. -/
def aluAccImm (op : AluOp) (w : Bool) (imm : Word) (s : State) : Result :=
  instr (aluTo op (s.width w) (.reg .eax) (immValue (s.width w) false imm)) s

/-- ADD: register/memory with register (R702). -/
def execAddRmReg (d w : Bool) (m : RM) (r : Reg) (s : State) : Result := aluRmReg .add d w m r s
/-- ADD: immediate to register/memory (R702). -/
def execAddRmImm (s8 w : Bool) (m : RM) (imm : Word) (s : State) : Result := aluRmImm .add s8 w m imm s
/-- ADD: immediate to accumulator (R702). -/
def execAddAccImm (w : Bool) (imm : Word) (s : State) : Result := aluAccImm .add w imm s

/-- ADC: register/memory with register (R703). -/
def execAdcRmReg (d w : Bool) (m : RM) (r : Reg) (s : State) : Result := aluRmReg .adc d w m r s
/-- ADC: immediate to register/memory (R703). -/
def execAdcRmImm (s8 w : Bool) (m : RM) (imm : Word) (s : State) : Result := aluRmImm .adc s8 w m imm s
/-- ADC: immediate to accumulator (R703). -/
def execAdcAccImm (w : Bool) (imm : Word) (s : State) : Result := aluAccImm .adc w imm s

/-- SUB: register/memory with register (R706). -/
def execSubRmReg (d w : Bool) (m : RM) (r : Reg) (s : State) : Result := aluRmReg .sub d w m r s
/-- SUB: immediate from register/memory (R706). -/
def execSubRmImm (s8 w : Bool) (m : RM) (imm : Word) (s : State) : Result := aluRmImm .sub s8 w m imm s
/-- SUB: immediate from accumulator (R706). -/
def execSubAccImm (w : Bool) (imm : Word) (s : State) : Result := aluAccImm .sub w imm s

/-- SBB: register/memory with register (R707). -/
def execSbbRmReg (d w : Bool) (m : RM) (r : Reg) (s : State) : Result := aluRmReg .sbb d w m r s
/-- SBB: immediate from register/memory (R707). -/
def execSbbRmImm (s8 w : Bool) (m : RM) (imm : Word) (s : State) : Result := aluRmImm .sbb s8 w m imm s
/-- SBB: immediate from accumulator (R707). -/
def execSbbAccImm (w : Bool) (imm : Word) (s : State) : Result := aluAccImm .sbb w imm s

/-- CMP: register/memory with register (R710). -/
def execCmpRmReg (d w : Bool) (m : RM) (r : Reg) (s : State) : Result :=
  instr (readOnly (s.width w) m fun a f =>
    if d then cmpFlags f (s.reg (s.width w) r) a else cmpFlags f a (s.reg (s.width w) r)) s
/-- CMP: immediate with register/memory (R710). -/
def execCmpRmImm (s8 w : Bool) (m : RM) (imm : Word) (s : State) : Result :=
  instr (readOnly (s.width w) m fun a f => cmpFlags f a (immValue (s.width w) (s8 && w) imm)) s
/-- CMP: immediate with accumulator (R710). -/
def execCmpAccImm (w : Bool) (imm : Word) (s : State) : Result :=
  instr (readOnly (s.width w) (.reg .eax) fun a f => cmpFlags f a (immValue (s.width w) false imm)) s

/-! INC, DEC, NEG. -/

/-- INC: register/memory (R704). -/
def execIncRm (w : Bool) (m : RM) (s : State) : Result :=
  lockable m (readWrite (s.width w) m fun a f => incFlags f a) s
/-- INC: register (R705). -/
def execIncReg (r : Reg) (s : State) : Result := instr (readWrite s.osz (.reg r) fun a f => incFlags f a) s
/-- DEC: register/memory (R708). -/
def execDecRm (w : Bool) (m : RM) (s : State) : Result :=
  lockable m (readWrite (s.width w) m fun a f => decFlags f a) s
/-- DEC: register (R709). -/
def execDecReg (r : Reg) (s : State) : Result := instr (readWrite s.osz (.reg r) fun a f => decFlags f a) s
/-- NEG (R711). -/
def execNegRm (w : Bool) (m : RM) (s : State) : Result :=
  lockable m (readWrite (s.width w) m fun a f => subFlags f 0 a false) s

/-! ASCII and decimal adjust (R712 to R715). -/

/-- The low digit of AL calls for an adjustment. -/
def adjustLow (al : Byte) (f : Flags) : Bool := decide ((al &&& 0xF).toNat > 9) || f.af

/-- AX after AAA: AL + 6 with its carry into AH, then AH + 1 (R712). -/
def aaaAx (ax : Half) (adjust : Bool) : Half := (if adjust then ax + 0x0106 else ax) &&& 0xFF0F

/-- AX after AAS (R713). -/
def aasAx (ax : Half) (adjust : Bool) : Half := (if adjust then ax - 0x0106 else ax) &&& 0xFF0F

/-- AX changed, AF and CF as the adjustment says, the other flags undefined. -/
def asciiAdjust (k : Half → Bool → Half) : M Unit := do
  modify fun s =>
    let adjust := adjustLow (s.reg .b8 .eax) s.flags
    { s.setReg .b16 .eax (k (s.reg .b16 .eax) adjust) with
      flags := { s.flags.undefOSZP s.freeIdx with af := adjust, cf := adjust } }
  advance

/-- AAA (R712). -/
def execAaa (s : State) : Result := instr (asciiAdjust aaaAx) s
/-- AAS (R713). -/
def execAas (s : State) : Result := instr (asciiAdjust aasAx) s

/-- AL and CF after DAA (R714). -/
def daaAl (al : Byte) (f : Flags) : Byte × Bool :=
  let low := if adjustLow al f then al + 6 else al
  let high := decide (0x99 < al.toNat) || f.cf
  (if high then low + 0x60 else low, high)

/-- AL and CF after DAS (R715). -/
def dasAl (al : Byte) (f : Flags) : Byte × Bool :=
  let adjust := adjustLow al f
  let low := if adjust then al - 6 else al
  let borrow := adjust && (f.cf || decide (al.toNat < 6))
  let high := decide (0x99 < al.toNat) || f.cf
  (if high then low - 0x60 else low, high || borrow)

/-- AL changed, AF as the adjustment of the low digit says, OF undefined. -/
def decimalAdjust (k : Byte → Flags → Byte × Bool) : M Unit := do
  modify fun s =>
    let al := s.reg .b8 .eax
    let x := k al s.flags
    { s.setReg .b8 .eax x.1 with
      flags := { s.flags.ofResult x.1 with af := adjustLow al s.flags, cf := x.2, off := undefBit s.freeIdx 5 } }
  advance

/-- DAA (R714). -/
def execDaa (s : State) : Result := instr (decimalAdjust daaAl) s
/-- DAS (R715). -/
def execDas (s : State) : Result := instr (decimalAdjust dasAl) s

/-! Multiplication and division (R716 to R723). -/

/-- The upper register of a double-width pair: AH beside AL, DX beside AX, EDX beside EAX. -/
def highReg : Width → Reg
  | .b8 => .esp
  | _ => .edx

/-- A double-width pair written: `lo` to the accumulator, `hi` beside it. -/
def State.setPair (s : State) (w : Width) (hi lo : BitVec w.bits) : State := (s.setReg w .eax lo).setReg w (highReg w) hi

/-- The double-width pair as a natural number. -/
def State.pair (s : State) (w : Width) : Nat := (s.reg w (highReg w)).toNat * 2 ^ w.bits + (s.reg w .eax).toNat

/-- The double-width pair as a two's complement number. -/
def State.pairInt (s : State) (w : Width) : Int := (s.reg w (highReg w)).toInt * 2 ^ w.bits + (s.reg w .eax).toNat

/-- The accumulator times the operand (R716, R717): the product and the flags. -/
def multiplyAcc (w : Width) (m : RM) (lo hi : BitVec w.bits → BitVec w.bits → BitVec w.bits)
    (significant : BitVec w.bits → BitVec w.bits → Bool) : M Unit := do
  let b ← readRM w m
  modify fun s =>
    let a := s.reg w .eax
    { s.setPair w (hi a b) (lo a b) with flags := mulFlags s.flags s.freeIdx (significant a b) }
  advance

/-- The lower half of a product. -/
def mulLo {n : Nat} (a b : BitVec n) : BitVec n := a * b

/-- The upper half of the unsigned product. -/
def mulHi {n : Nat} (a b : BitVec n) : BitVec n := BitVec.ofNat n (a.toNat * b.toNat / 2 ^ n)

/-- The upper half of the signed product. -/
def imulHi {n : Nat} (a b : BitVec n) : BitVec n := BitVec.ofInt n (a.toInt * b.toInt / 2 ^ n)

/-- The signed product is not the sign extension of its lower half. -/
def imulBig {n : Nat} (a b : BitVec n) : Bool := decide (a.toInt * b.toInt ≠ (mulLo a b).toInt)

/-- MUL (R716). -/
def execMulRm (w : Bool) (m : RM) (s : State) : Result :=
  instr (multiplyAcc (s.width w) m mulLo mulHi fun a b => mulHi a b != 0) s
/-- IMUL: accumulator (R717). -/
def execImulAcc (w : Bool) (m : RM) (s : State) : Result := instr (multiplyAcc (s.width w) m mulLo imulHi imulBig) s

/-- A signed product that goes to a register (R718, R719); `other` is the second factor. -/
def imulTo (w : Width) (m : RM) (r : Reg) (other : State → BitVec w.bits) : M Unit := do
  let b ← readRM w m
  modify fun s =>
    { s.setReg w r (mulLo (other s) b) with flags := mulFlags s.flags s.freeIdx (imulBig (other s) b) }
  advance

/-- IMUL: register with register/memory (R718). -/
def execImulReg (m : RM) (r : Reg) (s : State) : Result := instr (imulTo s.osz m r fun t => t.reg s.osz r) s
/-- IMUL: register/memory with immediate to register (R719). -/
def execImulImm (s8 : Bool) (m : RM) (r : Reg) (imm : Word) (s : State) : Result :=
  instr (imulTo s.osz m r fun _ => immValue s.osz s8 imm) s

/-- Unsigned quotient and remainder; none is `#DE` (R720). -/
def divide {n : Nat} (num : Nat) (d : BitVec n) : Option (BitVec n × BitVec n) :=
  if d = 0 ∨ 2 ^ n ≤ num / d.toNat then none else some (BitVec.ofNat n (num / d.toNat), BitVec.ofNat n (num % d.toNat))

/-- Signed quotient, rounded toward zero, and remainder; none is `#DE` (R721). -/
def idivide {n : Nat} (num : Int) (d : BitVec n) : Option (BitVec n × BitVec n) :=
  let q := num.tdiv d.toInt
  if d = 0 ∨ 2 ^ (n - 1) - 1 < q ∨ q < -(2 ^ (n - 1)) then none
  else some (BitVec.ofInt n q, BitVec.ofInt n (num.tmod d.toInt))

/-- The pair divided by the operand: quotient to the accumulator, remainder beside it, all six flags undefined. -/
def divideAcc (w : Width) (m : RM) (k : State → BitVec w.bits → Option (BitVec w.bits × BitVec w.bits)) : M Unit := do
  let d ← readRM w m
  let s ← get
  match k s d with
  | none => raiseDE
  | some (q, r) => do
    modify fun t => { t.setPair w r q with flags := t.flags.undefAll t.freeIdx }
    advance

/-- DIV (R720). -/
def execDivRm (w : Bool) (m : RM) (s : State) : Result :=
  instr (divideAcc (s.width w) m fun t d => divide (t.pair (s.width w)) d) s
/-- IDIV (R721). -/
def execIdivRm (w : Bool) (m : RM) (s : State) : Result :=
  instr (divideAcc (s.width w) m fun t d => idivide (t.pairInt (s.width w)) d) s

/-- AH and AL written, SF, ZF, PF of AL, the other three flags undefined (R722, R723). -/
def State.setAhAl (s : State) (ah al : Byte) : State :=
  { s.setPair .b8 ah al with flags := (s.flags.ofResult al).undefOAC s.freeIdx }

/-- AL + AH times the base (R722). -/
def aadBody (base : Byte) : M Unit := do
  modify fun s => s.setAhAl 0 (s.reg .b8 .eax + s.reg .b8 .esp * base)
  advance

/-- AL divided by the base; a base of 0 is `#DE` (R723; D25). -/
def aamBody (base : Byte) : M Unit := do
  raiseIf (base == 0) raiseDE
  modify fun s => s.setAhAl (s.reg .b8 .eax / base) (s.reg .b8 .eax % base)
  advance

/-- AAD (R722). -/
def execAad (imm : Byte) (s : State) : Result := instr (aadBody imm) s
/-- AAM (R723). -/
def execAam (imm : Byte) (s : State) : Result := instr (aamBody imm) s

/-! Sign conversion (R724, R725). -/

/-- AL or AX sign-extended in the accumulator. -/
def State.convertLow (s : State) : State :=
  if s.osz32 then s.setReg .b32 .eax ((s.reg .b16 .eax).signExtend 32)
  else s.setReg .b16 .eax ((s.reg .b8 .eax).signExtend 16)

/-- The sign of AX or EAX filled into DX or EDX. -/
def State.convertHigh (s : State) : State :=
  s.setReg s.osz .edx (if (s.reg s.osz .eax).msb then BitVec.allOnes s.osz.bits else 0)

/-- A change of the state, and the end of the instruction. -/
def change (k : State → State) : M Unit := do
  modify k
  advance

/-- CBW, CWDE (R724). -/
def execCbw (s : State) : Result := instr (change State.convertLow) s
/-- CWD, CDQ (R725). -/
def execCwd (s : State) : Result := instr (change State.convertHigh) s

end Sys2Proof.Machine
end

