-- ==== Sys2Proof/Machine/Bits.lean ====
section
/-!
DEFINITION. The bit instructions BSF, BSR, BT, BTC, BTR, BTS (45_bit.md).
-/
namespace Sys2Proof.Machine

open Sys2Proof

/-! Bit scans (R841, R842). -/

/-- The least bit that is 1. -/
def lowestBit {n : Nat} (v : BitVec n) : Option Nat := (List.range n).find? fun i => v.getLsbD i

/-- The greatest bit that is 1. -/
def highestBit {n : Nat} (v : BitVec n) : Option Nat := (List.range n).reverse.find? fun i => v.getLsbD i

/-- The index of a bit of the operand goes to the register; of an operand 0 the register is undefined (R841). -/
def scanBits (w : Width) (m : RM) (r : Reg) (find : BitVec w.bits → Option Nat) : M Unit := do
  let v ← readRM w m
  modify fun s =>
    { s.setReg w r (match find v with
        | some i => BitVec.ofNat w.bits i
        | none => (Config.undef s.freeIdx 6).setWidth w.bits) with
      flags := { s.flags.undefCOSAP s.freeIdx with zf := v == 0 } }
  advance

/-- BSF (R841). -/
def execBsf (m : RM) (r : Reg) (s : State) : Result := instr (scanBits s.osz m r lowestBit) s
/-- BSR (R842). -/
def execBsr (m : RM) (r : Reg) (s : State) : Result := instr (scanBits s.osz m r highestBit) s

/-! Bit tests (R843 to R847). -/

/-- What becomes of the selected bit. -/
inductive BitOp where
  | test
  | complement
  | reset
  | set
deriving DecidableEq, Repr

/-- The operand after the operation on bit `i`. -/
def BitOp.apply (op : BitOp) {n : Nat} (v : BitVec n) (i : Nat) : BitVec n :=
  match op with
  | .test => v
  | .complement => v ^^^ BitVec.twoPow n i
  | .reset => v &&& ~~~ BitVec.twoPow n i
  | .set => v ||| BitVec.twoPow n i

/-- CF from the selected bit, ZF kept, the other four flags undefined. -/
def bitFlags {n : Nat} (f : Flags) (idx : Nat) (v : BitVec n) (i : Nat) : Flags :=
  { f.undefOSAP idx with cf := v.getLsbD i }

/-- `floor(off / n)` operands of `n/8` bytes, as a distance in bytes (R847). -/
def bitDistance (w : Width) (off : BitVec w.bits) : Word := BitVec.ofInt 32 (w.bytes * (off.toInt / w.bits))

/-- The address a register bit offset moves to, modulo 2^asz (R847). -/
def State.bitAddress (s : State) (w : Width) (x : MemRef) (off : BitVec w.bits) : Seg × Word :=
  ((s.ea x).1, s.offsetAdd (s.ea x).2 (bitDistance w off))

/-- The bit `i` of the `w` bits of memory at `g:off` is tested and changed, with what other bus masters do between (20_memory.md R237). -/
def bitAt (op : BitOp) (w : Width) (g : Seg) (off : Word) (i : Nat) : M Unit := do
  let keys ← memKeys g off w.bytes (op != .test)
  modify fun s =>
    let v : BitVec w.bits := (s.readKeys keys).setWidth w.bits
    if op = .test then { s with flags := bitFlags s.flags s.freeIdx v i }
    else { s.between.writeKeys keys ((op.apply v i).setWidth 32) with flags := bitFlags s.flags s.freeIdx v i }

/-- The bit `i` of a register is tested and changed. -/
def State.bitReg (s : State) (op : BitOp) (w : Width) (q : Reg) (i : Nat) : State :=
  { s.setReg w q (op.apply (s.reg w q) i) with flags := bitFlags s.flags s.freeIdx (s.reg w q) i }

/-- The forms with an immediate: the address is never moved (R847). -/
def bitImm (op : BitOp) (w : Width) (m : RM) (imm : Byte) : M Unit := do
  let s ← get
  match m with
  | .reg q => modify fun t => t.bitReg op w q (imm.toNat % w.bits)
  | .mem x => bitAt op w (s.ea x).1 (s.ea x).2 (imm.toNat % w.bits)
  advance

/-- The forms with a register: a memory operand moves with the offset (R847). -/
def bitReg (op : BitOp) (w : Width) (m : RM) (r : Reg) : M Unit := do
  let s ← get
  let off := s.reg w r
  match m with
  | .reg q => modify fun t => t.bitReg op w q (off.toNat % w.bits)
  | .mem x => bitAt op w (s.bitAddress w x off).1 (s.bitAddress w x off).2 (off.toNat % w.bits)
  advance

/-- BT: immediate (R843). -/
def execBtRmImm (m : RM) (imm : Byte) (s : State) : Result := instr (bitImm .test s.osz m imm) s
/-- BT: register (R843). -/
def execBtRmReg (m : RM) (r : Reg) (s : State) : Result := instr (bitReg .test s.osz m r) s
/-- BTC: immediate (R844). -/
def execBtcRmImm (m : RM) (imm : Byte) (s : State) : Result := lockable m (bitImm .complement s.osz m imm) s
/-- BTC: register (R844). -/
def execBtcRmReg (m : RM) (r : Reg) (s : State) : Result := lockable m (bitReg .complement s.osz m r) s
/-- BTR: immediate (R845). -/
def execBtrRmImm (m : RM) (imm : Byte) (s : State) : Result := lockable m (bitImm .reset s.osz m imm) s
/-- BTR: register (R845). -/
def execBtrRmReg (m : RM) (r : Reg) (s : State) : Result := lockable m (bitReg .reset s.osz m r) s
/-- BTS: immediate (R846). -/
def execBtsRmImm (m : RM) (imm : Byte) (s : State) : Result := lockable m (bitImm .set s.osz m imm) s
/-- BTS: register (R846). -/
def execBtsRmReg (m : RM) (r : Reg) (s : State) : Result := lockable m (bitReg .set s.osz m r) s

end Sys2Proof.Machine
end

