-- ==== Sys2Proof/Machine/DataTransfer.lean ====
section
/-!
DEFINITION. Data transfer and segment control: MOV, MOVSX, MOVZX, PUSH, POP, XCHG, IN, OUT, LEA and the far pointer loads
(40_data_transfer.md).
-/
namespace Sys2Proof.Machine

open Sys2Proof

/-! MOV (R602 to R609). -/

/-- A value of the general register `r` at width `w` is stored to `m`. -/
def storeReg (w : Bool) (m : RM) (r : Reg) : M Unit := do
  let s ← get
  writeRM (s.width w) m (s.reg (s.width w) r)
  advance

/-- MOV: register to register/memory (R602). -/
def execMovRmReg (w : Bool) (m : RM) (r : Reg) (s : State) : Result := instr (storeReg w m r) s

/-- The operand `m` at width `w` is loaded into the general register `r`. -/
def loadReg (w : Bool) (m : RM) (r : Reg) : M Unit := do
  let s ← get
  let v ← readRM (s.width w) m
  modify fun t => t.setReg (s.width w) r v
  advance

/-- MOV: register/memory to register (R603). -/
def execMovRegRm (w : Bool) (m : RM) (r : Reg) (s : State) : Result := instr (loadReg w m r) s

/-- An immediate is stored to `m`. -/
def storeImm (w : Bool) (m : RM) (imm : Word) : M Unit := do
  let s ← get
  writeRM (s.width w) m (imm.setWidth (s.width w).bits)
  advance

/-- MOV: immediate to register/memory (R604). -/
def execMovRmImm (w : Bool) (m : RM) (imm : Word) (s : State) : Result := instr (storeImm w m imm) s

/-- MOV: immediate to register (R605). -/
def execMovRegImm (w : Bool) (r : Reg) (imm : Word) (s : State) : Result := instr (storeImm w (.reg r) imm) s

/-- The accumulator is loaded from a direct offset in the data segment. -/
def loadAcc (w : Bool) (off : Word) : M Unit := do
  let s ← get
  let v ← memRead s.dataSeg off (s.width w).bytes
  modify fun t => t.setReg (s.width w) .eax (v.setWidth (s.width w).bits)
  advance

/-- MOV: memory to accumulator (R606). -/
def execMovAccMem (w : Bool) (off : Word) (s : State) : Result := instr (loadAcc w off) s

/-- The accumulator is stored at a direct offset in the data segment. -/
def storeAcc (w : Bool) (off : Word) : M Unit := do
  let s ← get
  memWrite s.dataSeg off (s.width w).bytes ((s.reg (s.width w) .eax).setWidth 32)
  advance

/-- MOV: accumulator to memory (R607). -/
def execMovMemAcc (w : Bool) (off : Word) (s : State) : Result := instr (storeAcc w off) s

/-- `INHIBIT <- true` where SS was loaded (R608; 60_exceptions.md R1086). -/
def State.inhibitIf (s : State) (c : Bool) : State := { s with inhibit := c || s.inhibit }

/-- A segment register is loaded from `m`, always 16 bits; CS raises `#UD` (R608; 30_encoding.md R572). -/
def moveToSeg (m : RM) (g : Seg) : M Unit := do
  raiseIf (g == .cs) raiseUD
  let sel ← readRM .b16 m
  loadSeg g sel
  modify fun t => t.inhibitIf (g == .ss)
  advance

/-- MOV: register/memory to segment register (R608). -/
def execMovSegRm (m : RM) (g : Seg) (s : State) : Result := instr (moveToSeg m g) s

/-- A 16-bit value stored to `m`: two bytes of memory, or a register whose upper half is undefined at operand size 32 (R609; 49_system.md
R995 to R997). -/
def storeHalf (m : RM) (v : Half) : M Unit := do
  let s ← get
  match m with
  | .reg r => modify fun t => if s.osz32 then t.setReg .b32 r (undefHigh s.freeIdx v) else t.setReg .b16 r v
  | .mem x => memWrite (s.ea x).1 (s.ea x).2 2 (v.setWidth 32)

/-- A segment selector is stored to `m`. -/
def moveFromSeg (m : RM) (g : Seg) : M Unit := do
  let s ← get
  storeHalf m (s.seg g).sel
  advance

/-- MOV: segment register to register/memory (R609). -/
def execMovRmSeg (m : RM) (g : Seg) (s : State) : Result := instr (moveFromSeg m g) s

/-! MOVSX and MOVZX (R610, R611). -/

/-- The width of the source: 8 bits, or 16 bits with w = 1. -/
def extendSource (w : Bool) : Width := if w then .b16 else .b8

/-- The operand sign- or zero-extended into a register of the operand size. -/
def extendReg (signed : Bool) (w : Bool) (m : RM) (r : Reg) : M Unit := do
  let s ← get
  let v ← readRM (extendSource w) m
  modify fun t => t.setReg s.osz r (if signed then v.signExtend s.osz.bits else v.setWidth s.osz.bits)
  advance

/-- MOVSX (R610). -/
def execMovsx (w : Bool) (m : RM) (r : Reg) (s : State) : Result := instr (extendReg true w m r) s

/-- MOVZX (R611). -/
def execMovzx (w : Bool) (m : RM) (r : Reg) (s : State) : Result := instr (extendReg false w m r) s

/-! PUSH and PUSHA (R614 to R619). -/

/-- A value is pushed at the operand size. -/
def pushValue (v : Word) : M Unit := do
  let s ← get
  push v s.osz.bytes
  advance

/-- The operand `m` is pushed. -/
def pushOperand (m : RM) : M Unit := do
  let s ← get
  let v ← readRM s.osz m
  pushValue (v.setWidth 32)

/-- PUSH: register/memory (R614). -/
def execPushRm (m : RM) (s : State) : Result := instr (pushOperand m) s

/-- PUSH: register (R615). -/
def execPushReg (r : Reg) (s : State) : Result := instr (pushOperand (.reg r)) s

/-- A segment selector is pushed; the upper half of a 32-bit item is undefined (R616). -/
def pushSelector (g : Seg) : M Unit := do
  let s ← get
  pushValue (undefHigh s.freeIdx (s.seg g).sel)

/-- PUSH: segment register ES, CS, SS, DS (R616). -/
def execPushSeg (g : Seg) (s : State) : Result := instr (pushSelector g) s

/-- PUSH: FS (R617). -/
def execPushFs (s : State) : Result := instr (pushSelector .fs) s

/-- PUSH: GS (R617). -/
def execPushGs (s : State) : Result := instr (pushSelector .gs) s

/-- An immediate is pushed, sign-extended with s = 1. -/
def pushImmediate (signed8 : Bool) (imm : Word) : M Unit := do
  let s ← get
  pushValue ((immValue s.osz signed8 imm).setWidth 32)

/-- PUSH: immediate (R618). -/
def execPushImm (signed8 : Bool) (imm : Word) (s : State) : Result := instr (pushImmediate signed8 imm) s

/-- The eight registers are pushed, (E)SP as it was before (R619). -/
def pushAllRegs : M Unit := do
  let s ← get
  pushAll s.osz.bytes
    [s.regs.eax, s.regs.ecx, s.regs.edx, s.regs.ebx, s.regs.esp, s.regs.ebp, s.regs.esi, s.regs.edi]
  advance

/-- PUSHA (R619). -/
def execPusha (s : State) : Result := instr pushAllRegs s

/-! POP and POPA (R620 to R624). -/

/-- An item of the operand size is popped into `m`, whose address is computed after the stack pointer has moved (R620). -/
def popOperand (m : RM) : M Unit := do
  let s ← get
  let v ← stackRead 0 s.osz.bytes
  modify fun t => t.dropStack (BitVec.ofNat 32 s.osz.bytes)
  writeRM s.osz m (v.setWidth s.osz.bits)
  advance

/-- POP: register/memory (R620). -/
def execPopRm (m : RM) (s : State) : Result := instr (popOperand m) s

/-- POP: register (R621). -/
def execPopReg (r : Reg) (s : State) : Result := instr (popOperand (.reg r)) s

/-- A selector is popped into a segment register; the stack pointer moves by the size of the stack then in SS (R622). -/
def popSelector (g : Seg) : M Unit := do
  let s ← get
  let v ← stackRead 0 s.osz.bytes
  loadSeg g (v.setWidth 16)
  modify fun t => (t.dropStack (BitVec.ofNat 32 s.osz.bytes)).inhibitIf (g == .ss)
  advance

/-- POP: ES (R622). -/
def execPopEs (s : State) : Result := instr (popSelector .es) s

/-- POP: SS (R622). -/
def execPopSs (s : State) : Result := instr (popSelector .ss) s

/-- POP: DS (R622). -/
def execPopDs (s : State) : Result := instr (popSelector .ds) s

/-- POP: FS (R623). -/
def execPopFs (s : State) : Result := instr (popSelector .fs) s

/-- POP: GS (R623). -/
def execPopGs (s : State) : Result := instr (popSelector .gs) s

/-- The first `k` items of `w` bytes at and above the stack top, from the `i`-th on. -/
def stackItems (w : Nat) : Nat → Nat → M (List Word)
  | _, 0 => pure []
  | i, k + 1 => do
    let v ← stackRead (i * w) w
    let rest ← stackItems w (i + 1) k
    pure (v :: rest)

/-- The seven registers of POPA from its eight items; the fourth is skipped (R624). -/
def State.popAllRegs (s : State) (w : Width) (v : List Word) : State :=
  let item (i : Nat) : BitVec w.bits := (v.getD i 0).setWidth w.bits
  (((((((s.setReg w .edi (item 0)).setReg w .esi (item 1)).setReg w .ebp (item 2)).setReg w .ebx (item 4)).setReg w .edx
    (item 5)).setReg w .ecx (item 6)).setReg w .eax (item 7)).dropStack (BitVec.ofNat 32 (8 * w.bytes))

/-- Eight items are popped. -/
def popAll : M Unit := do
  let s ← get
  let v ← stackItems s.osz.bytes 0 8
  modify fun t => t.popAllRegs s.osz v
  advance

/-- POPA (R624). -/
def execPopa (s : State) : Result := instr popAll s

/-! XCHG (R625, R626). -/

/-- A register and an operand are exchanged; a memory operand is checked for writing first (R625), and no other bus master comes between
(20_memory.md R234). -/
def exchange (w : Width) (m : RM) (r : Reg) : M Unit := do
  let s ← get
  match m with
  | .reg q => modify fun t => (t.setReg w q (s.reg w r)).setReg w r (s.reg w q)
  | .mem x => do
    let keys ← memKeys (s.ea x).1 (s.ea x).2 w.bytes true
    modify fun t => (t.writeKeys keys ((s.reg w r).setWidth 32)).setReg w r ((t.readKeys keys).setWidth w.bits)
  advance

/-- XCHG: register/memory with register (R625). -/
def execXchgRmReg (w : Bool) (m : RM) (r : Reg) (s : State) : Result := lockable m (exchange (s.width w) m r) s

/-- XCHG: register with accumulator (R626). -/
def execXchgAccReg (r : Reg) (s : State) : Result := instr (exchange s.osz (.reg .eax) r) s

/-! IN and OUT (R627 to R630). -/

/-- Input from a port into the accumulator. -/
def inPort (w : Bool) (port : Half) : M Unit := do
  let s ← get
  ioPermitted port (s.width w).bytes
  let v ← portRead port (s.width w).bytes
  modify fun t => t.setReg (s.width w) .eax (v.setWidth (s.width w).bits)
  advance

/-- Output from the accumulator to a port. -/
def outPort (w : Bool) (port : Half) : M Unit := do
  let s ← get
  ioPermitted port (s.width w).bytes
  portWrite port (s.width w).bytes ((s.reg (s.width w) .eax).setWidth 32)
  advance

/-- IN: fixed port (R627). -/
def execInImm (w : Bool) (imm : Byte) (s : State) : Result := instr (inPort w (imm.setWidth 16)) s

/-- IN: port DX (R628). -/
def execInDx (w : Bool) (s : State) : Result := instr (inPort w (s.regs.edx.setWidth 16)) s

/-- OUT: fixed port (R629). -/
def execOutImm (w : Bool) (imm : Byte) (s : State) : Result := instr (outPort w (imm.setWidth 16)) s

/-- OUT: port DX (R630). -/
def execOutDx (w : Bool) (s : State) : Result := instr (outPort w (s.regs.edx.setWidth 16)) s

/-! LEA and the far pointer loads (R631 to R637). -/

/-- The effective address itself goes to the register (R631). -/
def leaBody (m : RM) (r : Reg) : M Unit := do
  let x ← memOperand m
  modify fun s => s.setReg s.osz r ((s.ea x).2.setWidth s.osz.bits)
  advance

/-- LEA (R631). -/
def execLea (m : RM) (r : Reg) (s : State) : Result := instr (leaBody m r) s

/-- A far pointer in memory: the offset of the operand size and the selector after it (30_encoding.md R542). The offset of the selector is taken
modulo 2^asz, as 46_control_transfer.md R864 says of CALL; for the five loads of R637, which does not say it, and for JMP (R870) this is
the model's (DESIGN CHOICE, log entry 37). -/
def farPointer (x : MemRef) : M (Word × Half) := do
  let s ← get
  let g := (s.ea x).1
  let a := (s.ea x).2
  let off ← memRead g a s.osz.bytes
  let sel ← memRead g (s.offsetAdd a (BitVec.ofNat 32 s.osz.bytes)) 2
  pure (off, sel.setWidth 16)

/-- `LoadFarPtr(sreg)` (R637). -/
def loadFarPtr (g : Seg) (m : RM) (r : Reg) : M Unit := do
  let x ← memOperand m
  let p ← farPointer x
  loadSeg g p.2
  modify fun t => t.setReg t.osz r (p.1.setWidth t.osz.bits)
  advance

/-- LDS (R632). -/
def execLds (m : RM) (r : Reg) (s : State) : Result := instr (loadFarPtr .ds m r) s

/-- LES (R633). -/
def execLes (m : RM) (r : Reg) (s : State) : Result := instr (loadFarPtr .es m r) s

/-- LFS (R634). -/
def execLfs (m : RM) (r : Reg) (s : State) : Result := instr (loadFarPtr .fs m r) s

/-- LGS (R635). -/
def execLgs (m : RM) (r : Reg) (s : State) : Result := instr (loadFarPtr .gs m r) s

/-- LSS (R636): it does not set `INHIBIT` (D24). -/
def execLss (m : RM) (r : Reg) (s : State) : Result := instr (loadFarPtr .ss m r) s

end Sys2Proof.Machine
end

