-- ==== Sys2Proof/Machine/Control.lean ====
section
/-!
DEFINITION. Control transfer: CALL, JMP, RET, the conditional jumps and loops (46_control_transfer.md), SETcc, ENTER and LEAVE
(47_setcc_enter_leave.md).
-/
namespace Sys2Proof.Machine

open Sys2Proof

/-! CALL (R861 to R865). -/

/-- A near CALL to a target already truncated (R861). -/
def nearCall (t : Word) : M Unit := do
  let s ← get
  checkRoom 1 s.osz.bytes
  checkTarget t
  push s.eipNext s.osz.bytes
  nearJump t

/-- CALL: direct within segment (R861). -/
def execCallRel (rel : Word) (s : State) : Result := instr (nearCall (s.relTarget rel)) s

/-- The target of an indirect near transfer. -/
def indirect (m : RM) (k : Word → M Unit) : M Unit := do
  let s ← get
  let t ← readRM s.osz m
  k (t.setWidth 32)

/-- CALL: indirect within segment (R862). -/
def execCallRm (m : RM) (s : State) : Result := instr (indirect m nearCall) s

/-- CALL: direct intersegment (R863). -/
def execCallFar (off : Word) (sel : Half) (s : State) : Result := instr (farTransfer true sel off) s

/-- A far transfer through a pointer in memory (R864, R870). -/
def farIndirect (call : Bool) (m : RM) : M Unit := do
  let x ← memOperand m
  let p ← farPointer x
  farTransfer call p.2 p.1

/-- CALL: indirect intersegment (R864). -/
def execCallFarMem (m : RM) (s : State) : Result := instr (farIndirect true m) s

/-! JMP (R866 to R871). -/

/-- JMP: short (R866). -/
def execJmpShort (rel : Byte) (s : State) : Result := instr (nearJump (s.relTarget8 rel)) s
/-- JMP: direct within segment (R867). -/
def execJmpRel (rel : Word) (s : State) : Result := instr (nearJump (s.relTarget rel)) s
/-- JMP: indirect within segment (R868). -/
def execJmpRm (m : RM) (s : State) : Result := instr (indirect m nearJump) s
/-- JMP: direct intersegment (R869). -/
def execJmpFar (off : Word) (sel : Half) (s : State) : Result := instr (farTransfer false sel off) s
/-- JMP: indirect intersegment (R870). -/
def execJmpFarMem (m : RM) (s : State) : Result := instr (farIndirect false m) s

/-! RET (R872 to R876). -/

/-- A near RET: the stack pointer is written only after both checks (R872, R873). -/
def nearRet (imm : Word) : M Unit := do
  let s ← get
  let w := s.osz.bytes
  checkStackTop w
  let t ← stackRead 0 w
  checkTarget t
  modify fun u => (u.dropStack (BitVec.ofNat 32 w + imm)).jump t

/-- RET: within segment (R872). -/
def execRet (s : State) : Result := instr (nearRet 0) s
/-- RET: within segment adding immediate to SP (R873). -/
def execRetImm (imm : Half) (s : State) : Result := instr (nearRet (imm.setWidth 32)) s

/-- A far RET by the mode in force (R874), or by the mode before it where it may have been decoded before a write of PE
(70_reset_and_hazards.md R1221; log entry 23). -/
def farRet (imm : Word) : M Unit := do
  let s ← get
  if s.transferProt then farReturn imm else farReturn8086 imm

/-- RET: intersegment (R874). -/
def execRetf (s : State) : Result := instr (farRet 0) s
/-- RET: intersegment adding immediate to SP (R875). -/
def execRetfImm (imm : Half) (s : State) : Result := instr (farRet (imm.setWidth 32)) s

/-! Conditional jumps (R877 to R879). -/

/-- The jump is taken where `c` holds. -/
def jumpIf (c : Bool) (t : Word) : M Unit := if c then nearJump t else advance

/-- JO: 8-bit displacement, tttn = 0000 (R877). -/
def execJoShort (rel : Byte) (s : State) : Result := instr (jumpIf (s.flags.cond 0) (s.relTarget8 rel)) s
/-- JO: full displacement (R878). -/
def execJoNear (rel : Word) (s : State) : Result := instr (jumpIf (s.flags.cond 0) (s.relTarget rel)) s

/-- JNO: 8-bit displacement, tttn = 0001 (R877). -/
def execJnoShort (rel : Byte) (s : State) : Result := instr (jumpIf (s.flags.cond 1) (s.relTarget8 rel)) s
/-- JNO: full displacement (R878). -/
def execJnoNear (rel : Word) (s : State) : Result := instr (jumpIf (s.flags.cond 1) (s.relTarget rel)) s

/-- JB: 8-bit displacement, tttn = 0010 (R877). -/
def execJbShort (rel : Byte) (s : State) : Result := instr (jumpIf (s.flags.cond 2) (s.relTarget8 rel)) s
/-- JB: full displacement (R878). -/
def execJbNear (rel : Word) (s : State) : Result := instr (jumpIf (s.flags.cond 2) (s.relTarget rel)) s

/-- JNB: 8-bit displacement, tttn = 0011 (R877). -/
def execJnbShort (rel : Byte) (s : State) : Result := instr (jumpIf (s.flags.cond 3) (s.relTarget8 rel)) s
/-- JNB: full displacement (R878). -/
def execJnbNear (rel : Word) (s : State) : Result := instr (jumpIf (s.flags.cond 3) (s.relTarget rel)) s

/-- JE: 8-bit displacement, tttn = 0100 (R877). -/
def execJeShort (rel : Byte) (s : State) : Result := instr (jumpIf (s.flags.cond 4) (s.relTarget8 rel)) s
/-- JE: full displacement (R878). -/
def execJeNear (rel : Word) (s : State) : Result := instr (jumpIf (s.flags.cond 4) (s.relTarget rel)) s

/-- JNE: 8-bit displacement, tttn = 0101 (R877). -/
def execJneShort (rel : Byte) (s : State) : Result := instr (jumpIf (s.flags.cond 5) (s.relTarget8 rel)) s
/-- JNE: full displacement (R878). -/
def execJneNear (rel : Word) (s : State) : Result := instr (jumpIf (s.flags.cond 5) (s.relTarget rel)) s

/-- JBE: 8-bit displacement, tttn = 0110 (R877). -/
def execJbeShort (rel : Byte) (s : State) : Result := instr (jumpIf (s.flags.cond 6) (s.relTarget8 rel)) s
/-- JBE: full displacement (R878). -/
def execJbeNear (rel : Word) (s : State) : Result := instr (jumpIf (s.flags.cond 6) (s.relTarget rel)) s

/-- JNBE: 8-bit displacement, tttn = 0111 (R877). -/
def execJnbeShort (rel : Byte) (s : State) : Result := instr (jumpIf (s.flags.cond 7) (s.relTarget8 rel)) s
/-- JNBE: full displacement (R878). -/
def execJnbeNear (rel : Word) (s : State) : Result := instr (jumpIf (s.flags.cond 7) (s.relTarget rel)) s

/-- JS: 8-bit displacement, tttn = 1000 (R877). -/
def execJsShort (rel : Byte) (s : State) : Result := instr (jumpIf (s.flags.cond 8) (s.relTarget8 rel)) s
/-- JS: full displacement (R878). -/
def execJsNear (rel : Word) (s : State) : Result := instr (jumpIf (s.flags.cond 8) (s.relTarget rel)) s

/-- JNS: 8-bit displacement, tttn = 1001 (R877). -/
def execJnsShort (rel : Byte) (s : State) : Result := instr (jumpIf (s.flags.cond 9) (s.relTarget8 rel)) s
/-- JNS: full displacement (R878). -/
def execJnsNear (rel : Word) (s : State) : Result := instr (jumpIf (s.flags.cond 9) (s.relTarget rel)) s

/-- JP: 8-bit displacement, tttn = 1010 (R877). -/
def execJpShort (rel : Byte) (s : State) : Result := instr (jumpIf (s.flags.cond 10) (s.relTarget8 rel)) s
/-- JP: full displacement (R878). -/
def execJpNear (rel : Word) (s : State) : Result := instr (jumpIf (s.flags.cond 10) (s.relTarget rel)) s

/-- JNP: 8-bit displacement, tttn = 1011 (R877). -/
def execJnpShort (rel : Byte) (s : State) : Result := instr (jumpIf (s.flags.cond 11) (s.relTarget8 rel)) s
/-- JNP: full displacement (R878). -/
def execJnpNear (rel : Word) (s : State) : Result := instr (jumpIf (s.flags.cond 11) (s.relTarget rel)) s

/-- JL: 8-bit displacement, tttn = 1100 (R877). -/
def execJlShort (rel : Byte) (s : State) : Result := instr (jumpIf (s.flags.cond 12) (s.relTarget8 rel)) s
/-- JL: full displacement (R878). -/
def execJlNear (rel : Word) (s : State) : Result := instr (jumpIf (s.flags.cond 12) (s.relTarget rel)) s

/-- JNL: 8-bit displacement, tttn = 1101 (R877). -/
def execJnlShort (rel : Byte) (s : State) : Result := instr (jumpIf (s.flags.cond 13) (s.relTarget8 rel)) s
/-- JNL: full displacement (R878). -/
def execJnlNear (rel : Word) (s : State) : Result := instr (jumpIf (s.flags.cond 13) (s.relTarget rel)) s

/-- JLE: 8-bit displacement, tttn = 1110 (R877). -/
def execJleShort (rel : Byte) (s : State) : Result := instr (jumpIf (s.flags.cond 14) (s.relTarget8 rel)) s
/-- JLE: full displacement (R878). -/
def execJleNear (rel : Word) (s : State) : Result := instr (jumpIf (s.flags.cond 14) (s.relTarget rel)) s

/-- JNLE: 8-bit displacement, tttn = 1111 (R877). -/
def execJnleShort (rel : Byte) (s : State) : Result := instr (jumpIf (s.flags.cond 15) (s.relTarget8 rel)) s
/-- JNLE: full displacement (R878). -/
def execJnleNear (rel : Word) (s : State) : Result := instr (jumpIf (s.flags.cond 15) (s.relTarget rel)) s

/-! JCXZ and the loops (R880 to R883). -/

/-- JCXZ, JECXZ: the address size chooses the register (R880). -/
def execJcxz (rel : Byte) (s : State) : Result := instr (jumpIf (s.addrReg .ecx == 0) (s.relTarget8 rel)) s

/-- The count decremented, and the jump where `c` holds and the count is not 0 (R881). -/
def loopBody (c : Bool) (t : Word) : M Unit := do
  let s ← get
  modify fun u => u.setAddrReg .ecx (s.addrReg .ecx - 1)
  jumpIf (c && s.addrReg .ecx != 1) t

/-- LOOP (R881). -/
def execLoop (rel : Byte) (s : State) : Result := instr (loopBody true (s.relTarget8 rel)) s
/-- LOOPZ (R882). -/
def execLoopz (rel : Byte) (s : State) : Result := instr (loopBody s.flags.zf (s.relTarget8 rel)) s
/-- LOOPNZ (R883). -/
def execLoopnz (rel : Byte) (s : State) : Result := instr (loopBody (!s.flags.zf) (s.relTarget8 rel)) s

/-! SETcc (47_setcc_enter_leave.md R900). -/

/-- The byte `m` becomes 1 or 0. -/
def setByte (m : RM) (c : Bool) : M Unit := do
  writeRM .b8 m (if c then 1 else 0)
  advance

/-- SETO: tttn = 0000 (R900). -/
def execSeto (m : RM) (s : State) : Result := instr (setByte m (s.flags.cond 0)) s
/-- SETNO: tttn = 0001 (R900). -/
def execSetno (m : RM) (s : State) : Result := instr (setByte m (s.flags.cond 1)) s
/-- SETB: tttn = 0010 (R900). -/
def execSetb (m : RM) (s : State) : Result := instr (setByte m (s.flags.cond 2)) s
/-- SETNB: tttn = 0011 (R900). -/
def execSetnb (m : RM) (s : State) : Result := instr (setByte m (s.flags.cond 3)) s
/-- SETE: tttn = 0100 (R900). -/
def execSete (m : RM) (s : State) : Result := instr (setByte m (s.flags.cond 4)) s
/-- SETNE: tttn = 0101 (R900). -/
def execSetne (m : RM) (s : State) : Result := instr (setByte m (s.flags.cond 5)) s
/-- SETBE: tttn = 0110 (R900). -/
def execSetbe (m : RM) (s : State) : Result := instr (setByte m (s.flags.cond 6)) s
/-- SETNBE: tttn = 0111 (R900). -/
def execSetnbe (m : RM) (s : State) : Result := instr (setByte m (s.flags.cond 7)) s
/-- SETS: tttn = 1000 (R900). -/
def execSets (m : RM) (s : State) : Result := instr (setByte m (s.flags.cond 8)) s
/-- SETNS: tttn = 1001 (R900). -/
def execSetns (m : RM) (s : State) : Result := instr (setByte m (s.flags.cond 9)) s
/-- SETP: tttn = 1010 (R900). -/
def execSetp (m : RM) (s : State) : Result := instr (setByte m (s.flags.cond 10)) s
/-- SETNP: tttn = 1011 (R900). -/
def execSetnp (m : RM) (s : State) : Result := instr (setByte m (s.flags.cond 11)) s
/-- SETL: tttn = 1100 (R900). -/
def execSetl (m : RM) (s : State) : Result := instr (setByte m (s.flags.cond 12)) s
/-- SETNL: tttn = 1101 (R900). -/
def execSetnl (m : RM) (s : State) : Result := instr (setByte m (s.flags.cond 13)) s
/-- SETLE: tttn = 1110 (R900). -/
def execSetle (m : RM) (s : State) : Result := instr (setByte m (s.flags.cond 14)) s
/-- SETNLE: tttn = 1111 (R900). -/
def execSetnle (m : RM) (s : State) : Result := instr (setByte m (s.flags.cond 15)) s

/-! ENTER and LEAVE (47_setcc_enter_leave.md R901, R902). -/

/-- BP or EBP by the stack size. -/
def State.bp (s : State) : Word := if s.ssz32 then s.regs.ebp else low16 s.regs.ebp

/-- The copies of the display: `k` frame pointers below `bp` are read and pushed (R901). -/
def copyDisplay (w : Nat) : Nat → Word → M Unit
  | 0, _ => pure ()
  | k + 1, bp => do
    let s ← get
    let below := stackSub s.ssz32 bp w
    let v ← memRead .ss below w
    push v w
    copyDisplay w k below

/-- ENTER (R901): the level counts modulo 32. With operand size 32 and a 16-bit stack the frame pointer that is pushed and goes to EBP is SP
with an upper half of 0, which the rule does not give (DESIGN CHOICE, log entry 34). -/
def enterBody (size : Half) (level : Byte) : M Unit := do
  let s ← get
  let w := s.osz.bytes
  let l := level.toNat % 32
  push s.regs.ebp w
  let t ← get
  let frame := t.sp
  if l = 0 then pure ()
  else do
    copyDisplay w (l - 1) s.bp
    push frame w
  modify fun u =>
    (u.setReg s.osz .ebp (frame.setWidth s.osz.bits)).setSp (stackAdd u.ssz32 u.sp (0 - size.setWidth 32))
  advance

/-- ENTER (R901). -/
def execEnter (imm : Half) (level : Byte) (s : State) : Result := instr (enterBody imm level) s

/-- LEAVE (R902). -/
def leaveBody : M Unit := do
  let s ← get
  let w := s.osz.bytes
  let v ← memRead .ss s.bp w
  modify fun t =>
    (t.setSp (stackAdd s.ssz32 s.bp (BitVec.ofNat 32 w))).setReg s.osz .ebp (v.setWidth s.osz.bits)
  advance

/-- LEAVE (R902). -/
def execLeave (s : State) : Result := instr leaveBody s

end Sys2Proof.Machine
end

