-- ==== Sys2Proof/Machine/FlagControl.lean ====
section
/-!
DEFINITION. The flag control instructions (41_flag_control.md).
-/
namespace Sys2Proof.Machine

open Sys2Proof

/-- EFLAGS changed, and the end of the instruction. -/
def setFlags (k : Flags → Flags) : M Unit := do
  modify fun s => { s with flags := k s.flags }
  advance

/-- CLC (R670). -/
def execClc (s : State) : Result := instr (setFlags fun f => { f with cf := false }) s

/-- CLD (R671). -/
def execCld (s : State) : Result := instr (setFlags fun f => { f with df := false }) s

/-- IF cleared, where IOPL permits. -/
def clearInterrupt : M Unit := do
  requireIopl
  setFlags fun f => { f with ifl := false }

/-- CLI (R672). -/
def execCli (s : State) : Result := instr clearInterrupt s

/-- CR0.TS cleared, at CPL 0. -/
def clearTaskSwitched : M Unit := do
  requireCpl0
  modify fun s => { s with cr0 := s.cr0 &&& ~~~ 8 }
  advance

/-- CLTS (R673). -/
def execClts (s : State) : Result := instr clearTaskSwitched s

/-- CMC (R674). -/
def execCmc (s : State) : Result := instr (setFlags fun f => { f with cf := !f.cf }) s

/-- AH from the low byte of EFLAGS. -/
def flagsToAh : M Unit := do
  modify fun s => s.setReg .b8 .esp (s.flags.image.setWidth 8)
  advance

/-- LAHF (R675). -/
def execLahf (s : State) : Result := instr flagsToAh s

/-- EFLAGS from the stack, by the level in force; RF stays (R678; 60_exceptions.md R1122). -/
def popFlags : M Unit := do
  let s ← get
  requireV86Iopl
  let v ← stackRead 0 s.osz.bytes
  modify fun t => { (t.dropStack (BitVec.ofNat 32 s.osz.bytes)).toNext with flags := t.loadFlags v false }

/-- POPF (R678). -/
def execPopf (s : State) : Result := instr popFlags s

/-- EFLAGS onto the stack, VM and RF as 0 (R676). -/
def pushFlags : M Unit := do
  let s ← get
  requireV86Iopl
  push (s.flags.image &&& 0x00FCFFFF) s.osz.bytes
  advance

/-- PUSHF (R676). -/
def execPushf (s : State) : Result := instr pushFlags s

/-- SF, ZF, AF, PF, CF of an image of the low byte; the rest is kept. -/
def Flags.loadLow (f : Flags) (v : Byte) : Flags :=
  { f with sf := v.getLsbD 7, zf := v.getLsbD 6, af := v.getLsbD 4, pf := v.getLsbD 2, cf := v.getLsbD 0 }

/-- The low byte of EFLAGS from AH. -/
def ahToFlags : M Unit := do
  modify fun s => { s with flags := s.flags.loadLow (s.reg .b8 .esp) }
  advance

/-- SAHF (R677). -/
def execSahf (s : State) : Result := instr ahToFlags s

/-- STC (R679). -/
def execStc (s : State) : Result := instr (setFlags fun f => { f with cf := true }) s

/-- STD (R680). -/
def execStd (s : State) : Result := instr (setFlags fun f => { f with df := true }) s

/-- IF set, where IOPL permits; `INHIBIT` where it was clear (R681). -/
def setInterrupt : M Unit := do
  requireIopl
  modify fun s => { s with inhibit := s.inhibit || !s.flags.ifl }
  setFlags fun f => { f with ifl := true }

/-- STI (R681). -/
def execSti (s : State) : Result := instr setInterrupt s

end Sys2Proof.Machine
end

