-- ==== Sys2Proof/Machine/Interrupts.lean ====
section
/-!
DEFINITION. The interrupt instructions INT n, INT 3, INTO, BOUND, IRET (48_interrupt_instructions.md).
-/
namespace Sys2Proof.Machine

open Sys2Proof

/-- INT n (R920). -/
def execIntN (imm : Byte) (s : State) : Result := interruptAfter requireV86Iopl imm s

/-- INT 3 (R921): not IOPL-sensitive. -/
def execInt3 (s : State) : Result := interruptAfter (pure ()) 3 s

/-- INTO (R922). -/
def execInto (s : State) : Result := if s.flags.off then interruptAfter (pure ()) 4 s else instr advance s

/-- The index is compared with the bounds in memory; out of them `#BR` is raised (R923). -/
def boundBody (m : RM) (r : Reg) : M Unit := do
  let x ← memOperand m
  let s ← get
  let w := s.osz
  let lo ← memRead (s.ea x).1 (s.ea x).2 w.bytes
  let hi ← memRead (s.ea x).1 (s.offsetAdd (s.ea x).2 (BitVec.ofNat 32 w.bytes)) w.bytes
  let i := (s.reg w r).toInt
  raiseIf (decide (i < (lo.setWidth w.bits).toInt ∨ (hi.setWidth w.bits).toInt < i)) raiseBR
  advance

/-- BOUND (R923). -/
def execBound (m : RM) (r : Reg) (s : State) : Result := instr (boundBody m r) s

/-- IRET (R930). -/
def execIret (s : State) : Result := instr iretBody s

end Sys2Proof.Machine
end

