-- ==== Sys2Proof/Machine/Logic.lean ====
section
/-!
DEFINITION. Shifts, rotates, double shifts and the boolean operations (43_logic.md).
-/
namespace Sys2Proof.Machine

open Sys2Proof

/-! Shifts and rotates (R760 to R770). -/

/-- A memory operand that is checked for writing and read, but not written: a count of 0 (R760; 20_memory.md R221; log entry 15). Where
93_implementation_defined.md item 43-count0 asks `refuse` for the operand in a memory-mapped device, it runs all the same (DESIGN CHOICE, log
entry 15). -/
def probeRM (w : Width) (m : RM) : M Unit :=
  match m with
  | .reg _ => pure ()
  | .mem x => do
    let s ← get
    let _ ← probeKeys (s.ea x).1 (s.ea x).2 w.bytes
    pure ()

/-- The operand shifted by a masked count; with a count of 0 neither it nor a flag changes (R760). -/
def shiftBody (w : Width) (m : RM) (c : Nat) (k : BitVec w.bits → Flags → BitVec w.bits × Flags) : M Unit := do
  if c = 0 then probeRM w m else updateRM w m k
  advance

/-- A shift or rotate of `m` by a raw count. -/
def shiftRm (op : ShiftOp) (w : Bool) (m : RM) (raw : Byte) (s : State) : Result :=
  instr (shiftBody (s.width w) m (maskedCount raw) fun a f => shift op f s.freeIdx a (maskedCount raw)) s

/-- CL. -/
def State.cl (s : State) : Byte := s.reg .b8 .ecx

/-- ROL: by 1 (R761). -/
def execRolOne (w : Bool) (m : RM) (s : State) : Result := shiftRm .rol w m 1 s
/-- ROL: by CL (R761). -/
def execRolCl (w : Bool) (m : RM) (s : State) : Result := shiftRm .rol w m s.cl s
/-- ROL: by an immediate count (R761). -/
def execRolImm (w : Bool) (m : RM) (imm : Byte) (s : State) : Result := shiftRm .rol w m imm s

/-- ROR: by 1 (R762). -/
def execRorOne (w : Bool) (m : RM) (s : State) : Result := shiftRm .ror w m 1 s
/-- ROR: by CL (R762). -/
def execRorCl (w : Bool) (m : RM) (s : State) : Result := shiftRm .ror w m s.cl s
/-- ROR: by an immediate count (R762). -/
def execRorImm (w : Bool) (m : RM) (imm : Byte) (s : State) : Result := shiftRm .ror w m imm s

/-- RCL: by 1 (R763). -/
def execRclOne (w : Bool) (m : RM) (s : State) : Result := shiftRm .rcl w m 1 s
/-- RCL: by CL (R763). -/
def execRclCl (w : Bool) (m : RM) (s : State) : Result := shiftRm .rcl w m s.cl s
/-- RCL: by an immediate count (R763). -/
def execRclImm (w : Bool) (m : RM) (imm : Byte) (s : State) : Result := shiftRm .rcl w m imm s

/-- RCR: by 1 (R764). -/
def execRcrOne (w : Bool) (m : RM) (s : State) : Result := shiftRm .rcr w m 1 s
/-- RCR: by CL (R764). -/
def execRcrCl (w : Bool) (m : RM) (s : State) : Result := shiftRm .rcr w m s.cl s
/-- RCR: by an immediate count (R764). -/
def execRcrImm (w : Bool) (m : RM) (imm : Byte) (s : State) : Result := shiftRm .rcr w m imm s

/-- SHL: by 1 (R765). -/
def execShlOne (w : Bool) (m : RM) (s : State) : Result := shiftRm .shl w m 1 s
/-- SHL: by CL (R765). -/
def execShlCl (w : Bool) (m : RM) (s : State) : Result := shiftRm .shl w m s.cl s
/-- SHL: by an immediate count (R765). -/
def execShlImm (w : Bool) (m : RM) (imm : Byte) (s : State) : Result := shiftRm .shl w m imm s

/-- SHR: by 1 (R766). -/
def execShrOne (w : Bool) (m : RM) (s : State) : Result := shiftRm .shr w m 1 s
/-- SHR: by CL (R766). -/
def execShrCl (w : Bool) (m : RM) (s : State) : Result := shiftRm .shr w m s.cl s
/-- SHR: by an immediate count (R766). -/
def execShrImm (w : Bool) (m : RM) (imm : Byte) (s : State) : Result := shiftRm .shr w m imm s

/-- SAR: by 1 (R767). -/
def execSarOne (w : Bool) (m : RM) (s : State) : Result := shiftRm .sar w m 1 s
/-- SAR: by CL (R767). -/
def execSarCl (w : Bool) (m : RM) (s : State) : Result := shiftRm .sar w m s.cl s
/-- SAR: by an immediate count (R767). -/
def execSarImm (w : Bool) (m : RM) (imm : Byte) (s : State) : Result := shiftRm .sar w m imm s

/-- A double shift of `m` by a raw count, the bits of `r` shifted in (R769, R770). -/
def doubleRm (right : Bool) (m : RM) (r : Reg) (raw : Byte) (s : State) : Result :=
  instr (shiftBody s.osz m (maskedCount raw) fun a f => doubleShift right f s.freeIdx a (s.reg s.osz r) (maskedCount raw)) s

/-- SHLD: by an immediate count (R769). -/
def execShldImm (m : RM) (r : Reg) (imm : Byte) (s : State) : Result := doubleRm false m r imm s
/-- SHLD: by CL (R769). -/
def execShldCl (m : RM) (r : Reg) (s : State) : Result := doubleRm false m r s.cl s
/-- SHRD: by an immediate count (R770). -/
def execShrdImm (m : RM) (r : Reg) (imm : Byte) (s : State) : Result := doubleRm true m r imm s
/-- SHRD: by CL (R770). -/
def execShrdCl (m : RM) (r : Reg) (s : State) : Result := doubleRm true m r s.cl s

/-! Boolean operations (R771 to R775). -/

/-- AND: register/memory with register (R771). -/
def execAndRmReg (d w : Bool) (m : RM) (r : Reg) (s : State) : Result := aluRmReg .and d w m r s
/-- AND: immediate to register/memory (R771). -/
def execAndRmImm (s8 w : Bool) (m : RM) (imm : Word) (s : State) : Result := aluRmImm .and s8 w m imm s
/-- AND: immediate to accumulator (R771). -/
def execAndAccImm (w : Bool) (imm : Word) (s : State) : Result := aluAccImm .and w imm s

/-- OR: register/memory with register (R773). -/
def execOrRmReg (d w : Bool) (m : RM) (r : Reg) (s : State) : Result := aluRmReg .or d w m r s
/-- OR: immediate to register/memory (R773). -/
def execOrRmImm (s8 w : Bool) (m : RM) (imm : Word) (s : State) : Result := aluRmImm .or s8 w m imm s
/-- OR: immediate to accumulator (R773). -/
def execOrAccImm (w : Bool) (imm : Word) (s : State) : Result := aluAccImm .or w imm s

/-- XOR: register/memory with register (R774). -/
def execXorRmReg (d w : Bool) (m : RM) (r : Reg) (s : State) : Result := aluRmReg .xor d w m r s
/-- XOR: immediate to register/memory (R774). -/
def execXorRmImm (s8 w : Bool) (m : RM) (imm : Word) (s : State) : Result := aluRmImm .xor s8 w m imm s
/-- XOR: immediate to accumulator (R774). -/
def execXorAccImm (w : Bool) (imm : Word) (s : State) : Result := aluAccImm .xor w imm s

/-- TEST: the flags of AND, nothing written (R772). -/
def testBody (w : Width) (m : RM) (b : BitVec w.bits) : M Unit := do
  let s ← get
  readOnly w m fun a f => logicFlags f s.freeIdx (a &&& b)

/-- TEST: register/memory and register (R772). -/
def execTestRmReg (w : Bool) (m : RM) (r : Reg) (s : State) : Result :=
  instr (testBody (s.width w) m (s.reg (s.width w) r)) s
/-- TEST: immediate and register/memory (R772). -/
def execTestRmImm (w : Bool) (m : RM) (imm : Word) (s : State) : Result :=
  instr (testBody (s.width w) m (immValue (s.width w) false imm)) s
/-- TEST: immediate and accumulator (R772). -/
def execTestAccImm (w : Bool) (imm : Word) (s : State) : Result :=
  instr (testBody (s.width w) (.reg .eax) (immValue (s.width w) false imm)) s

/-- NOT (R775): no flag changes. -/
def execNotRm (w : Bool) (m : RM) (s : State) : Result :=
  lockable m (readWrite (s.width w) m fun a f => (~~~ a, f)) s

end Sys2Proof.Machine
end

