-- ==== Sys2Proof/Machine/Prefixes.lean ====
section
/-!
DEFINITION. The eleven prefix bytes (30_encoding.md R504 to R509), each remembered for the bytes that follow it, and the encodings that
Table 9-1 does not list: those that raise #UD and those that stay refused (30_encoding.md R570; 92_eei_decisions.md D23).
-/
namespace Sys2Proof.Machine

open Sys2Proof

/-! Prefixes. -/

/-- A prefix byte is read: no interrupt can come between it and the rest of its instruction (R504). -/
def withPrefix (k : Pfx → Pfx) (s : State) : Result := .next { s with pfx := { k s.pfx with count := s.pfx.count + 1 } }

/-- 67H (R507). -/
def execPfxAddrSize (s : State) : Result := withPrefix (fun p => { p with addrSize := true }) s
/-- F0H (R508). -/
def execPfxLock (s : State) : Result := withPrefix (fun p => { p with lock := true }) s
/-- 66H (R506). -/
def execPfxOpSize (s : State) : Result := withPrefix (fun p => { p with opSize := true }) s
/-- CS override: the last one counts (R505). -/
def execPfxCs (s : State) : Result := withPrefix (fun p => { p with seg := some .cs }) s
/-- DS override: the last one counts (R505). -/
def execPfxDs (s : State) : Result := withPrefix (fun p => { p with seg := some .ds }) s
/-- ES override: the last one counts (R505). -/
def execPfxEs (s : State) : Result := withPrefix (fun p => { p with seg := some .es }) s
/-- FS override: the last one counts (R505). -/
def execPfxFs (s : State) : Result := withPrefix (fun p => { p with seg := some .fs }) s
/-- GS override: the last one counts (R505). -/
def execPfxGs (s : State) : Result := withPrefix (fun p => { p with seg := some .gs }) s
/-- SS override: the last one counts (R505). -/
def execPfxSs (s : State) : Result := withPrefix (fun p => { p with seg := some .ss }) s
/-- F3H: the last repeat prefix counts (R509). -/
def execPfxRep (s : State) : Result := withPrefix (fun p => { p with rep := some .rep }) s
/-- F2H (R509). -/
def execPfxRepne (s : State) : Result := withPrefix (fun p => { p with rep := some .repne }) s

/-! Undefined encodings that raise #UD (R570, R571; 49_system.md R1000). -/

/-- `#UD`. -/
def undefined (s : State) : Result := instr raiseUD s

/-- 10001111 mm001bbb (R570). -/
def execUnd8F1 (_ : BitVec 2) (_ : BitVec 3) (s : State) : Result := undefined s
/-- 10001111 mm010bbb (R570). -/
def execUnd8F2 (_ : BitVec 2) (_ : BitVec 3) (s : State) : Result := undefined s
/-- 10001111 mm011bbb (R570). -/
def execUnd8F3 (_ : BitVec 2) (_ : BitVec 3) (s : State) : Result := undefined s
/-- 10001111 mm100bbb (R570). -/
def execUnd8F4 (_ : BitVec 2) (_ : BitVec 3) (s : State) : Result := undefined s
/-- 10001111 mm101bbb (R570). -/
def execUnd8F5 (_ : BitVec 2) (_ : BitVec 3) (s : State) : Result := undefined s
/-- 10001111 mm110bbb (R570). -/
def execUnd8F6 (_ : BitVec 2) (_ : BitVec 3) (s : State) : Result := undefined s
/-- 10001111 mm111bbb (R570). -/
def execUnd8F7 (_ : BitVec 2) (_ : BitVec 3) (s : State) : Result := undefined s
/-- 1100011w mm001bbb (R570). -/
def execUndC61 (_ : Bool) (_ : BitVec 2) (_ : BitVec 3) (s : State) : Result := undefined s
/-- 1100011w mm010bbb (R570). -/
def execUndC62 (_ : Bool) (_ : BitVec 2) (_ : BitVec 3) (s : State) : Result := undefined s
/-- 1100011w mm011bbb (R570). -/
def execUndC63 (_ : Bool) (_ : BitVec 2) (_ : BitVec 3) (s : State) : Result := undefined s
/-- 1100011w mm100bbb (R570). -/
def execUndC64 (_ : Bool) (_ : BitVec 2) (_ : BitVec 3) (s : State) : Result := undefined s
/-- 1100011w mm101bbb (R570). -/
def execUndC65 (_ : Bool) (_ : BitVec 2) (_ : BitVec 3) (s : State) : Result := undefined s
/-- 1100011w mm110bbb (R570). -/
def execUndC66 (_ : Bool) (_ : BitVec 2) (_ : BitVec 3) (s : State) : Result := undefined s
/-- 1100011w mm111bbb (R570). -/
def execUndC67 (_ : Bool) (_ : BitVec 2) (_ : BitVec 3) (s : State) : Result := undefined s
/-- 11111110 mm010bbb (R570). -/
def execUndFE2 (_ : BitVec 2) (_ : BitVec 3) (s : State) : Result := undefined s
/-- 11111110 mm011bbb (R570). -/
def execUndFE3 (_ : BitVec 2) (_ : BitVec 3) (s : State) : Result := undefined s
/-- 11111110 mm100bbb (R570). -/
def execUndFE4 (_ : BitVec 2) (_ : BitVec 3) (s : State) : Result := undefined s
/-- 11111110 mm101bbb (R570). -/
def execUndFE5 (_ : BitVec 2) (_ : BitVec 3) (s : State) : Result := undefined s
/-- 11111110 mm110bbb (R570). -/
def execUndFE6 (_ : BitVec 2) (_ : BitVec 3) (s : State) : Result := undefined s
/-- 11111110 mm111bbb (R570). -/
def execUndFE7 (_ : BitVec 2) (_ : BitVec 3) (s : State) : Result := undefined s
/-- 11111111 mm111bbb (R570). -/
def execUndFF7 (_ : BitVec 2) (_ : BitVec 3) (s : State) : Result := undefined s
/-- 00001111 00000000 mm110bbb (R570). -/
def execUnd0F006 (_ : BitVec 2) (_ : BitVec 3) (s : State) : Result := undefined s
/-- 00001111 00000000 mm111bbb (R570). -/
def execUnd0F007 (_ : BitVec 2) (_ : BitVec 3) (s : State) : Result := undefined s
/-- 00001111 00000001 mm101bbb (R570). -/
def execUnd0F015 (_ : BitVec 2) (_ : BitVec 3) (s : State) : Result := undefined s
/-- 00001111 00000001 mm111bbb (R570). -/
def execUnd0F017 (_ : BitVec 2) (_ : BitVec 3) (s : State) : Result := undefined s
/-- 00001111 10111010 mm000bbb (R570). -/
def execUnd0FBA0 (_ : BitVec 2) (_ : BitVec 3) (s : State) : Result := undefined s
/-- 00001111 10111010 mm001bbb (R570). -/
def execUnd0FBA1 (_ : BitVec 2) (_ : BitVec 3) (s : State) : Result := undefined s
/-- 00001111 10111010 mm010bbb (R570). -/
def execUnd0FBA2 (_ : BitVec 2) (_ : BitVec 3) (s : State) : Result := undefined s
/-- 00001111 10111010 mm011bbb (R570). -/
def execUnd0FBA3 (_ : BitVec 2) (_ : BitVec 3) (s : State) : Result := undefined s

/-! Undocumented encodings, refused (R570; D23). -/

/-- `#UD` after a LOCK prefix (R508); else no meaning is given. -/
def undocumented (s : State) : Result := instr (refuse .undocumentedOpcode) s

/-- 110100dw mm110bbb (R570; D23). -/
def execUndShift6 (_ : Bool) (_ : Bool) (_ : BitVec 2) (_ : BitVec 3) (s : State) : Result := undocumented s
/-- 1100000w mm110bbb (R570; D23). -/
def execUndShiftImm6 (_ : Bool) (_ : BitVec 2) (_ : BitVec 3) (s : State) : Result := undocumented s
/-- 1111011w mm001bbb (R570; D23). -/
def execUndF61 (_ : Bool) (_ : BitVec 2) (_ : BitVec 3) (s : State) : Result := undocumented s
/-- 11010110 (R570; D23). -/
def execUndD6 (s : State) : Result := undocumented s
/-- 11110001 (R570; D23). -/
def execUndF1 (s : State) : Result := undocumented s
/-- 00001111 00000101 (R570; D23). -/
def execUnd0F05 (s : State) : Result := undocumented s
/-- 00001111 00000111 (R570; D23). -/
def execUnd0F07 (s : State) : Result := undocumented s
/-- 00001111 10100110 (R570; D23). -/
def execUnd0FA6 (s : State) : Result := undocumented s
/-- 00001111 10100111 (R570; D23). -/
def execUnd0FA7 (s : State) : Result := undocumented s

end Sys2Proof.Machine
end

