-- ==== Sys2Proof/Machine/Protection.lean ====
section
/-!
DEFINITION. Protection control: ARPL, LAR, LSL, VERR, VERW, and the loads and stores of GDTR, IDTR, LDTR, TR and the machine status
word (49_system.md section 3).
-/
namespace Sys2Proof.Machine

open Sys2Proof

/-- The selector of ARPL raised to the RPL of the other, and whether it had to be (R985). -/
def adjustRpl (d src : Half) : Half × Bool :=
  if (rpl d).toNat < (rpl src).toNat then (withRpl d (rpl src), true) else (d, false)

/-- ZF of the state. -/
def State.setZf (s : State) (z : Bool) : State := { s with flags := { s.flags with zf := z } }

/-- The memory operand at `keys`, whose linear address is `la`: it is written, and the breakpoints see a write, where RPL is raised only
(R985; 60_exceptions.md R1121). -/
def State.adjustKeys (s : State) (keys : List Nat) (la : Word) (src : Half) : State :=
  let x := adjustRpl ((s.readKeys keys).setWidth 16) src
  (if x.2 then (s.between.noteData la 2 true).writeKeys keys (x.1.setWidth 32) else s).setZf x.2

/-- The body of ARPL. A memory operand is checked for writing whether or not it is written, and the check sets the page's Dirty bit (R985;
log entry 15). -/
def arplBody (m : RM) (r : Reg) : M Unit := do
  requireProt
  let s ← get
  match m with
  | .reg q => modify fun t =>
      (t.setReg .b16 q (adjustRpl (t.reg .b16 q) (s.reg .b16 r)).1).setZf (adjustRpl (t.reg .b16 q) (s.reg .b16 r)).2
  | .mem x => do
    let keys ← probeKeys (s.ea x).1 (s.ea x).2 2
    modify fun t => t.adjustKeys keys (s.linear (s.ea x).1 (s.ea x).2) (s.reg .b16 r)
  advance

/-- ARPL (R985). -/
def execArpl (m : RM) (r : Reg) (s : State) : Result := instr (arplBody m r) s

/-! Selector tests (R986, R991, R998, R999). -/

/-- The descriptor a selector names; none for the null selector and beyond its table (R986). -/
def testDescriptor (sel : Half) : M (Option Descriptor) :=
  if selNull sel then pure none else readDescriptor sel

/-- The descriptor may be seen from CPL with the selector's RPL; conforming code always (R986). -/
def State.visible (s : State) (sel : Half) (d : Descriptor) : Bool :=
  d.conforming || (decide (s.cpl.toNat ≤ (arDpl d.ar).toNat) && decide ((rpl sel).toNat ≤ (arDpl d.ar).toNat))

/-- The system types a selector test accepts. -/
def Descriptor.accepted (d : Descriptor) (types : List Nat) : Bool :=
  match d.system with
  | none => true
  | some t => types.contains t

/-- The system types of LAR. -/
def larTypes : List Nat := [1, 2, 3, 4, 5, 9, 11, 12]

/-- The system types of LSL. -/
def lslTypes : List Nat := [1, 2, 3, 9, 11]

/-- The 20-bit limit of a descriptor, byte-granular: what LSL loads (R991). -/
def lslValue (d : Descriptor) : Word := d.limit

/-- The access rights LAR loads (R986). -/
def larValue (d : Descriptor) : Word := d.hi &&& 0x00F0FF00

/-- A selector is tested: ZF says whether the test passes, and then the register is loaded (R986, R991). -/
def loadTested (m : RM) (r : Reg) (types : List Nat) (value : Descriptor → Word) : M Unit := do
  requireProt
  let sel ← readRM .b16 m
  let x ← testDescriptor sel
  modify fun s =>
    match x with
    | none => s.setZf false
    | some d =>
      if d.accepted types && s.visible sel d then (s.setReg s.osz r ((value d).setWidth s.osz.bits)).setZf true
      else s.setZf false
  advance

/-- LAR (R986). -/
def execLar (m : RM) (r : Reg) (s : State) : Result := instr (loadTested m r larTypes larValue) s
/-- LSL (R991). -/
def execLsl (m : RM) (r : Reg) (s : State) : Result := instr (loadTested m r lslTypes lslValue) s

/-- VERR: a segment that can be read (R998). -/
def State.readable (s : State) (sel : Half) (d : Descriptor) : Bool :=
  arS d.ar && (!arE d.ar || arW d.ar) && s.visible sel d

/-- VERW: a data segment that can be written (R999). -/
def State.writable (s : State) (sel : Half) (d : Descriptor) : Bool := d.isWritable && s.visible sel d

/-- ZF says whether the selector passes the test. -/
def verify (m : RM) (k : State → Half → Descriptor → Bool) : M Unit := do
  requireProt
  let sel ← readRM .b16 m
  let x ← testDescriptor sel
  modify fun s => s.setZf (match x with
    | none => false
    | some d => k s sel d)
  advance

/-- VERR (R998). -/
def execVerr (m : RM) (s : State) : Result := instr (verify m State.readable) s
/-- VERW (R999). -/
def execVerw (m : RM) (s : State) : Result := instr (verify m State.writable) s

/-! GDTR and IDTR (R987, R988, R993, R994). -/

/-- A table register from its six bytes: 24 bits of base at operand size 16 (R987). -/
def tableOf (osz32 : Bool) (lim base : Word) : TableReg :=
  { limit := lim.setWidth 16, base := if osz32 then base else base &&& 0x00FFFFFF }

/-- The six bytes at `m` are loaded. Whether a register operand raises `#UD` before the privilege is looked at (60_exceptions.md R1055) or
after it (R987) is open (log entry 21). -/
def loadTable (m : RM) (k : TableReg → State → State) : M Unit := do
  raiseIf (isRegister m && Config.formBeforePrivilege) raiseUD
  requireCpl0
  let x ← memOperand m
  let s ← get
  let lim ← memRead (s.ea x).1 (s.ea x).2 2
  let base ← memRead (s.ea x).1 (s.offsetAdd (s.ea x).2 2) 4
  modify (k (tableOf s.osz32 lim base))
  advance

/-- LGDT (R987). -/
def execLgdt (m : RM) (s : State) : Result := instr (loadTable m fun x t => { t with gdtr := x }) s
/-- LIDT (R988). -/
def execLidt (m : RM) (s : State) : Result := instr (loadTable m fun x t => { t with idtr := x }) s

/-- The base as it is stored: byte 5 is undefined at operand size 16 (R993). -/
def storedBase (osz32 : Bool) (idx : Nat) (base : Word) : Word :=
  if osz32 then base else (Config.undef idx 7).extractLsb' 0 8 ++ base.extractLsb' 0 24

/-- The six bytes are stored at `m`, all of them checked first. -/
def storeTable (m : RM) (k : State → TableReg) : M Unit := do
  let x ← memOperand m
  let s ← get
  let limKeys ← memKeys (s.ea x).1 (s.ea x).2 2 true
  let baseKeys ← memKeys (s.ea x).1 (s.offsetAdd (s.ea x).2 2) 4 true
  modify fun t =>
    (t.writeKeys limKeys ((k s).limit.setWidth 32)).writeKeys baseKeys (storedBase s.osz32 s.freeIdx (k s).base)
  advance

/-- SGDT (R993). -/
def execSgdt (m : RM) (s : State) : Result := instr (storeTable m State.gdtr) s
/-- SIDT (R994). -/
def execSidt (m : RM) (s : State) : Result := instr (storeTable m State.idtr) s

/-! LDTR, TR and the machine status word (R989, R990, R992, R995 to R997). -/

/-- The body of LLDT. -/
def lldtBody (m : RM) : M Unit := do
  requireProt
  requireCpl0
  let sel ← readRM .b16 m
  if selNull sel then modify fun s => { s with ldtr := { s.ldtr with sel := sel, valid := false } }
  else do
    raiseIf (selTI sel) (raiseGP sel)
    let d ← needDescriptor sel (raiseGP sel)
    raiseIf (d.system != some 2) (raiseGP sel)
    raiseIf (!arP d.ar) (raiseNP sel)
    modify fun s => { s with ldtr := d.toSegReg sel }
  advance

/-- LLDT (R989). -/
def execLldt (m : RM) (s : State) : Result := instr (lldtBody m) s

/-- The body of LTR: the TSS is marked busy, no task is switched. -/
def ltrBody (m : RM) : M Unit := do
  requireProt
  requireCpl0
  let sel ← readRM .b16 m
  raiseIf (selNull sel) raiseGP0
  raiseIf (selTI sel) (raiseGP sel)
  let d ← needDescriptor sel (raiseGP sel)
  raiseIf (!d.isFreeTss) (raiseGP sel)
  raiseIf (!arP d.ar) (raiseNP sel)
  writeAccessByte sel 2 0
  modify fun s => { s with tr := { d.toSegReg sel with ar := d.ar ||| 2 } }
  advance

/-- LTR (R992). -/
def execLtr (m : RM) (s : State) : Result := instr (ltrBody m) s

/-- CR0 after LMSW: TS, EM, MP as in `v`, PE set by it but not cleared (R990). -/
def lmswValue (cr0 : Word) (v : Half) : Word := (cr0 &&& 0xFFFFFFF1) ||| (v.setWidth 32 &&& 0xF)

/-- The body of LMSW. -/
def lmswBody (m : RM) : M Unit := do
  requireCpl0
  let v ← readRM .b16 m
  modify fun s => { s.keepMode (lmswValue s.cr0 v) with cr0 := lmswValue s.cr0 v }
  advance

/-- LMSW (R990). -/
def execLmsw (m : RM) (s : State) : Result := instr (lmswBody m) s

/-- A 16-bit system register stored to `m`. -/
def storeSystem (m : RM) (k : State → Half) : M Unit := do
  let s ← get
  storeHalf m (k s)
  advance

/-- A selector register stored to `m`, in Protected Mode only. -/
def storeSelector (m : RM) (k : State → SegReg) : M Unit := do
  requireProt
  storeSystem m fun s => (k s).sel

/-- SLDT (R995). -/
def execSldt (m : RM) (s : State) : Result := instr (storeSelector m State.ldtr) s
/-- STR (R997). -/
def execStr (m : RM) (s : State) : Result := instr (storeSelector m State.tr) s
/-- SMSW (R996). -/
def execSmsw (m : RM) (s : State) : Result := instr (storeSystem m fun t => t.cr0.setWidth 16) s

end Sys2Proof.Machine
end

