-- ==== Sys2Proof/Machine/Strings.lean ====
section
/-!
DEFINITION. The string instructions, their repeated forms, and XLAT (44_string.md).
-/
namespace Sys2Proof.Machine

open Sys2Proof

/-! Elements (R800). -/

/-- `Step(R)`: an index register moved by the element size, by DF (R800). -/
def State.stepIndex (s : State) (r : Reg) (w : Width) : State :=
  let d := BitVec.ofNat 32 w.bytes
  s.setAddrReg r (if s.flags.df then s.addrReg r - d else s.addrReg r + d)

/-- The source element, at (E)SI in DS or the override segment. -/
def readSource (w : Width) : M (BitVec w.bits) := do
  let s ← get
  let v ← memRead s.dataSeg (s.addrReg .esi) w.bytes
  pure (v.setWidth w.bits)

/-- The destination element, at (E)DI in ES, whatever the prefixes. -/
def readDest (w : Width) : M (BitVec w.bits) := do
  let s ← get
  let v ← memRead .es (s.addrReg .edi) w.bytes
  pure (v.setWidth w.bits)

/-- The destination element written. -/
def writeDest (w : Width) (v : BitVec w.bits) : M Unit := do
  let s ← get
  memWrite .es (s.addrReg .edi) w.bytes (v.setWidth 32)

/-- One element of CMPS (R804). -/
def cmpsElement (w : Width) : M Unit := do
  let a ← readSource w
  let b ← readDest w
  modify fun s => ({ s with flags := cmpFlags s.flags a b }.stepIndex .esi w).stepIndex .edi w

/-- One element of INS (R806): the destination is checked before the port is read (D26). -/
def insElement (w : Width) : M Unit := do
  let s ← get
  let port : Half := s.regs.edx.setWidth 16
  ioPermitted port w.bytes
  let keys ← memKeys .es (s.addrReg .edi) w.bytes true
  let v ← portRead port w.bytes
  modify fun t => (t.writeKeys keys v).stepIndex .edi w

/-- One element of LODS (R807). -/
def lodsElement (w : Width) : M Unit := do
  let v ← readSource w
  modify fun s => (s.setReg w .eax v).stepIndex .esi w

/-- One element of MOVS (R808). -/
def movsElement (w : Width) : M Unit := do
  let v ← readSource w
  writeDest w v
  modify fun s => (s.stepIndex .esi w).stepIndex .edi w

/-- One element of OUTS (R810). -/
def outsElement (w : Width) : M Unit := do
  let s ← get
  let port : Half := s.regs.edx.setWidth 16
  ioPermitted port w.bytes
  let v ← readSource w
  portWrite port w.bytes (v.setWidth 32)
  modify fun t => t.stepIndex .esi w

/-- One element of SCAS (R811). -/
def scasElement (w : Width) : M Unit := do
  let b ← readDest w
  modify fun s => { s with flags := cmpFlags s.flags (s.reg w .eax) b }.stepIndex .edi w

/-- One element of STOS (R812). -/
def stosElement (w : Width) : M Unit := do
  let s ← get
  writeDest w (s.reg w .eax)
  modify fun t => t.stepIndex .edi w

/-! Repetition (R801, R802). -/

/-- A string instruction without a repeat prefix. -/
def once (element : M Unit) : M Unit := do
  element
  advance

/-- The instruction goes on with another iteration: what its beginning was inhibited from stays so at the window before it, for the
instruction has not completed (10_state.md R144; 60_exceptions.md R1080, R1086; log entry 32). -/
def State.holdOn (s : State) : State := { s with inhibit := s.inhibit || s.held }

/-- `RepStep` (R801, R802): one element, the count, and the end of the instruction, or EIP left at its first prefix; `stop` is the
second exit of CMPS and SCAS. -/
def repStep (stop : Flags → Bool) (element : M Unit) : M Unit := do
  let s ← get
  if s.addrReg .ecx = 0 then advance
  else do
    element
    modify fun t => t.setAddrReg .ecx (s.addrReg .ecx - 1)
    let t ← get
    if s.addrReg .ecx = 1 ∨ stop t.flags then advance else modify State.holdOn

/-- REP has no second exit. -/
def neverStop (_ : Flags) : Bool := false

/-- REPE stops at ZF = 0 (R802). -/
def stopUnequal (f : Flags) : Bool := !f.zf

/-- REPNE stops at ZF = 1 (R802). -/
def stopEqual (f : Flags) : Bool := f.zf

/-- CMPS (R804). -/
def execCmps (w : Bool) (s : State) : Result := instr (once (cmpsElement (s.width w))) s
/-- INS (R806). -/
def execIns (w : Bool) (s : State) : Result := instr (once (insElement (s.width w))) s
/-- LODS (R807). -/
def execLods (w : Bool) (s : State) : Result := instr (once (lodsElement (s.width w))) s
/-- MOVS (R808). -/
def execMovs (w : Bool) (s : State) : Result := instr (once (movsElement (s.width w))) s
/-- OUTS (R810). -/
def execOuts (w : Bool) (s : State) : Result := instr (once (outsElement (s.width w))) s
/-- SCAS (R811). -/
def execScas (w : Bool) (s : State) : Result := instr (once (scasElement (s.width w))) s
/-- STOS (R812). -/
def execStos (w : Bool) (s : State) : Result := instr (once (stosElement (s.width w))) s

/-- REPE CMPS (R802, R804). -/
def execRepeCmps (w : Bool) (s : State) : Result := instr (repStep stopUnequal (cmpsElement (s.width w))) s
/-- REPNE CMPS (R802, R804). -/
def execRepneCmps (w : Bool) (s : State) : Result := instr (repStep stopEqual (cmpsElement (s.width w))) s
/-- REP INS (R801, R806). -/
def execRepIns (w : Bool) (s : State) : Result := instr (repStep neverStop (insElement (s.width w))) s
/-- REP LODS (R801, R807). -/
def execRepLods (w : Bool) (s : State) : Result := instr (repStep neverStop (lodsElement (s.width w))) s
/-- REP MOVS (R801, R808). -/
def execRepMovs (w : Bool) (s : State) : Result := instr (repStep neverStop (movsElement (s.width w))) s
/-- REP OUTS (R801, R810). -/
def execRepOuts (w : Bool) (s : State) : Result := instr (repStep neverStop (outsElement (s.width w))) s
/-- REPE SCAS (R802, R811). -/
def execRepeScas (w : Bool) (s : State) : Result := instr (repStep stopUnequal (scasElement (s.width w))) s
/-- REPNE SCAS (R802, R811). -/
def execRepneScas (w : Bool) (s : State) : Result := instr (repStep stopEqual (scasElement (s.width w))) s
/-- REP STOS (R801, R812). -/
def execRepStos (w : Bool) (s : State) : Result := instr (repStep neverStop (stosElement (s.width w))) s

/-! XLAT (R813). -/

/-- AL from the table at (E)BX. -/
def xlatBody : M Unit := do
  let s ← get
  let v ← memRead s.dataSeg (s.offsetAdd (s.addrReg .ebx) ((s.reg .b8 .eax).setWidth 32)) 1
  modify fun t => t.setReg .b8 .eax (v.setWidth 8)
  advance

/-- XLAT (R813). -/
def execXlat (s : State) : Result := instr xlatBody s

end Sys2Proof.Machine
end

