-- ==== Sys2Proof/Machine/System.lean ====
section
/-!
DEFINITION. Processor control: HLT, the moves to and from control, debug and test registers, NOP, WAIT, and the coprocessor escape
(49_system.md sections 1 and 2).
-/
namespace Sys2Proof.Machine

open Sys2Proof

/-! HLT and NOP (R950, R965). -/

/-- EIP moves on, then the processor halts, with one halt indication cycle (R950; 60_exceptions.md R1140). -/
def halt : M Unit := do
  requireCpl0
  change fun s => { s with run := .halted, cycles := .halt :: s.cycles }

/-- HLT (R950). -/
def execHlt (s : State) : Result := instr halt s

/-- NOP (R965). -/
def execNop (s : State) : Result := instr advance s

/-! Control registers (R955, R956). -/

/-- The control register `c`. -/
def State.creg (s : State) : CReg → Word
  | .cr0 => s.cr0
  | .cr2 => s.cr2
  | .cr3 => s.cr3

/-- CR0 as a write leaves it: bit 4 reads 1 unless the part lets it be written (10_state.md R93; D4). -/
def State.cr0Value (s : State) (v : Word) : Word := if s.platform.cr0Bit4Writable then v else v ||| 0x10

/-- A control register written: a change of PG and a load of CR3 flush the TLB (22_paging.md R481; 10_state.md R95), and what the queues
have read or decoded by the old translation or mode stays (R142; 70_reset_and_hazards.md R1220; log entry 23). -/
def State.setCreg (s : State) (c : CReg) (v : Word) : State :=
  match c with
  | .cr0 =>
    let t := (if s.cr0.getLsbD 31 = v.getLsbD 31 then s else { s.keepQueues with tlb := [] }).keepMode v
    { t with cr0 := s.cr0Value v }
  | .cr2 => { s with cr2 := v }
  | .cr3 => { (if s.pg then s.keepQueues else s) with cr3 := v &&& 0xFFFFF000, tlb := [] }

/-- The six status flags are undefined after a move to or from a control, debug or test register. -/
def State.undefFlags (s : State) : State := { s with flags := s.flags.undefAll s.freeIdx }

/-- PG = 1 with PE = 0 (10_state.md R92; D15). -/
def badCr0 (c : CReg) (v : Word) : Bool := c == .cr0 && v.getLsbD 31 && !v.getLsbD 0

/-- The segment registers that REAL mode can be entered with: present, limit FFFFH, writable data, and for CS D = 0 instead
(70_reset_and_hazards.md R1226; D38). One that holds a null selector counts as not present (DESIGN CHOICE, log entry 23). -/
def State.realReady (s : State) : Bool :=
  let fits (r : SegReg) : Bool := r.valid && arP r.ar && r.limit == 0xFFFF
  let data (r : SegReg) : Bool := fits r && arS r.ar && !arE r.ar && arW r.ar
  fits s.cs && !arD s.cs.ar && data s.ds && data s.es && data s.fs && data s.gs && data s.ss

/-- PE is cleared with other segment caches, which decision D38 refuses. -/
def State.leavesUnready (s : State) (c : CReg) (v : Word) : Bool := c == .cr0 && s.pe && !v.getLsbD 0 && !s.realReady

/-- A control register from a general register. -/
def moveToCr (c : CReg) (r : Reg) : M Unit := do
  requireCpl0
  let s ← get
  raiseIf (badCr0 c (s.regs.get r)) raiseGP0
  if s.leavesUnready c (s.regs.get r) then refuse .realCaches
  change fun t => (t.setCreg c (s.regs.get r)).undefFlags

/-- MOV CRn, reg (R955). -/
def execMovCrReg (c : CReg) (r : Reg) (s : State) : Result := instr (moveToCr c r) s

/-- A general register from a control register. -/
def moveFromCr (c : CReg) (r : Reg) : M Unit := do
  requireCpl0
  change fun t => (t.setReg .b32 r (t.creg c)).undefFlags

/-- MOV reg, CRn (R956). -/
def execMovRegCr (c : CReg) (r : Reg) (s : State) : Result := instr (moveFromCr c r) s

/-! Debug registers (R957, R958). -/

/-- The debug register `d`. -/
def State.dreg (s : State) : DReg → Word
  | .dr0 => s.dr0
  | .dr1 => s.dr1
  | .dr2 => s.dr2
  | .dr3 => s.dr3
  | .dr6 => s.dr6
  | .dr7 => s.dr7

/-- A debug register written, reserved bits as they come (D31). -/
def State.setDreg (s : State) (d : DReg) (v : Word) : State :=
  match d with
  | .dr0 => { s with dr0 := v }
  | .dr1 => { s with dr1 := v }
  | .dr2 => { s with dr2 := v }
  | .dr3 => { s with dr3 := v }
  | .dr6 => { s with dr6 := v }
  | .dr7 => { s with dr7 := v }

/-- DR7.GD. -/
def State.gd (s : State) : Bool := s.dr7.getLsbD 13

/-- With DR7.GD set any access of a debug register raises exception 1, with DR6.BD set and GD cleared (R957). The execution breakpoints that
the MOV itself meets, not enabled or held off by RF, are reported beside BD (10_state.md R113), and no other (DESIGN CHOICE, log entry 40). -/
def debugAccess : M Unit := do
  let s ← get
  if s.gd then do
    modify fun t => { t with dr6 := t.dr6 ||| 0x2000 ||| t.execHits.setWidth 32, dr7 := t.dr7 &&& ~~~ 0x2000 }
    raise 1 none
  else pure ()

/-- A debug register from a general register. -/
def moveToDr (d : DReg) (r : Reg) : M Unit := do
  requireCpl0
  debugAccess
  change fun t => (t.setDreg d (t.regs.get r)).undefFlags

/-- MOV DRn, reg (R957). -/
def execMovDrReg (d : DReg) (r : Reg) (s : State) : Result := instr (moveToDr d r) s

/-- A general register from a debug register. -/
def moveFromDr (d : DReg) (r : Reg) : M Unit := do
  requireCpl0
  debugAccess
  change fun t => (t.setReg .b32 r (t.dreg d)).undefFlags

/-- MOV reg, DRn (R958). -/
def execMovRegDr (d : DReg) (r : Reg) (s : State) : Result := instr (moveFromDr d r) s

/-! Test registers (R959, R960). -/

/-- The test register `t`. -/
def State.treg (s : State) : TReg → Word
  | .tr6 => s.tr6
  | .tr7 => s.tr7

/-- A test register written: stored only (10_state.md R133). -/
def State.setTreg (s : State) (x : TReg) (v : Word) : State :=
  match x with
  | .tr6 => { s with tr6 := v }
  | .tr7 => { s with tr7 := v }

/-- A test register from a general register; with paging on the rules give it no meaning (R959; D16). -/
def moveToTr (x : TReg) (r : Reg) : M Unit := do
  requireCpl0
  let s ← get
  if s.pg then refuse .testRegisterWithPaging
  change fun t => (t.setTreg x (t.regs.get r)).undefFlags

/-- MOV TRn, reg (R959). -/
def execMovTrReg (x : TReg) (r : Reg) (s : State) : Result := instr (moveToTr x r) s

/-- A general register from a test register. -/
def moveFromTr (x : TReg) (r : Reg) : M Unit := do
  requireCpl0
  change fun t => (t.setReg .b32 r (t.treg x)).undefFlags

/-- MOV reg, TRn (R960). -/
def execMovRegTr (x : TReg) (r : Reg) (s : State) : Result := instr (moveFromTr x r) s

/-! WAIT and ESC (R966, R975 to R978). -/

/-- CR0.MP, CR0.EM, CR0.TS. -/
def State.mp (s : State) : Bool := s.cr0.getLsbD 1
def State.em (s : State) : Bool := s.cr0.getLsbD 2
def State.ts (s : State) : Bool := s.cr0.getLsbD 3

/-- The instruction waits: EIP stays at it and it is executed again, so that an interrupt can be taken between; it has not completed,
so no single step follows. -/
def State.waiting (s : State) : State := { s with pend := { s.pend with tfStart := false } }

/-- BUSY# is waited for, then ERROR# is sampled, then `k` (R966, R975). -/
def afterBusy (k : M Unit) : M Unit := do
  let s ← get
  if s.pins.busy then modify State.waiting
  else do
    raiseIf s.pins.error raiseMF
    k

/-- The check of TS and MP, then the wait. -/
def waitBody : M Unit := do
  let s ← get
  raiseIf (s.ts && s.mp) raiseNM
  afterBusy advance

/-- WAIT (R966). -/
def execWait (s : State) : Result := instr waitBody s

/-- The forms that neither wait for BUSY# nor look at ERROR# (R978). -/
def escNoWait (ttt lll : BitVec 3) (m : RM) : Bool :=
  match m with
  | .reg r =>
    (ttt == 3 && lll == 4 && (r == .ebx || r == .edx)) || (ttt == 7 && lll == 4 && r == .eax)
  | .mem _ => (ttt == 5 && (lll == 7 || lll == 6)) || (ttt == 1 && (lll == 7 || lll == 6))

/-- FNSTSW AX, whose answer comes through the coprocessor interface (R975, R978). -/
def escStoresAx (ttt lll : BitVec 3) (m : RM) : Bool := ttt == 7 && lll == 4 && m == .reg .eax

/-- The opcode register of the coprocessor (R977). -/
def coprocessorPort : Nat := 0x8000F8

/-- The operand register of the coprocessor: 8000FCH, and 8000FEH in the second cycle of a dword (R977). -/
def coprocessorData : Nat := 0x8000FC

/-- The two opcode bytes written to the coprocessor's opcode register (R976, R977; log entry 16). -/
def State.handOver (s : State) (ttt lll : BitVec 3) (m : RM) : State :=
  { s with
    ioOut := (coprocessorPort + 1, (m.encode lll).headD 0) :: (coprocessorPort, (27 : BitVec 5) ++ ttt) :: s.ioOut }

/-- Whether an instruction with a memory operand writes it: FNSTENV, FNSTCW, FNSAVE, FNSTSW do; of the others the spec does not say (R975,
R978; log entry 16). -/
def escToMemory (ttt lll : BitVec 3) : Bool :=
  ((ttt == 1 || ttt == 5) && (lll == 6 || lll == 7)) || Config.escStores ttt lll

/-- The command kept for the transfers that PEREQ asks for (R976). -/
def State.escStart (s : State) (ttt lll : BitVec 3) (x : MemRef) : EscCommand :=
  { ttt := ttt, lll := lll, seg := s.seg (s.ea x).1, stack := (s.ea x).1 == .ss, off := (s.ea x).2, asz32 := s.asz32
    stores := escToMemory ttt lll, started := false, cs := s.cs, eip := s.eip }

/-- The operand's start is checked before the instruction is executed, and the command is kept (R975, R976; log entry 16). -/
def escOperand (ttt lll : BitVec 3) (m : RM) : M Unit := do
  match m with
  | .reg _ => modify fun t => { t with escCommand := none }
  | .mem x => do
    let s ← get
    let c := s.escStart ttt lll x
    checkReg c.seg c.stack c.off 1 (if c.stores then .write else .read)
    let _ ← linKeys (c.seg.base + c.off) 1 c.stores s.user
    modify fun t => { t with escCommand := some c }

/-- The answer of FNSTSW AX is read: it is the coprocessor's, a free value (R975, R978; log entry 16). -/
def escAnswer : M Unit := do
  busTurn
  modify fun s => s.setReg .b16 .eax ((Config.undef s.freeIdx 10).setWidth 16)

/-- The instruction is handed to the coprocessor by one bus cycle; what the coprocessor then does is its own (R975, R977; 00_scope.md
R8). -/
def escHandOver (ttt lll : BitVec 3) (m : RM) : M Unit := do
  escOperand ttt lll m
  busTurn
  modify fun s => s.handOver ttt lll m
  if escStoresAx ttt lll m then escAnswer
  advance

/-- The checks of EM and TS, the wait, and the hand-over; without a coprocessor the rules give no meaning (R975; D32). -/
def escBody (ttt lll : BitVec 3) (m : RM) : M Unit := do
  let s ← get
  raiseIf (s.em || s.ts) raiseNM
  if !s.platform.has387 then refuse .coprocessorAbsent
  if escNoWait ttt lll m then escHandOver ttt lll m else afterBusy (escHandOver ttt lll m)

/-- A word written to the operand register by one bus cycle, at 8000FCH or, the second of a dword, at 8000FEH (R977). -/
def State.operandWord (s : State) (address : Nat) (v : Half) : State :=
  { s with ioOut := (address + 1, v.extractLsb' 8 8) :: (address, v.extractLsb' 0 8) :: s.ioOut }

/-- An item written to the operand register, the low word first (R977; 20_memory.md R232). -/
def operandOut (dword : Bool) (v : Word) : M Unit := do
  busTurn
  modify fun s => s.operandWord coprocessorData (v.setWidth 16)
  if dword then do
    cycleTurn
    modify fun s => s.operandWord (coprocessorData + 2) (v.extractLsb' 16 16)

/-- The number of bytes of an item. -/
def itemBytes (dword : Bool) : Nat := if dword then 4 else 2

/-- One item of the operand of `c` is transferred between memory and the operand register, with the checks of the current task (R976). -/
def transferItem (c : EscCommand) (dword : Bool) (value : Word) : M Unit := do
  let s ← get
  let keys ← regKeys c.seg c.stack s.user c.off (itemBytes dword) c.stores
  let t ← get
  if c.stores then do
    busTurn
    modify fun u => u.writeKeys keys value
  else operandOut dword (t.readKeys keys)

/-- The command with its offset moved past an item. -/
def EscCommand.moved (c : EscCommand) (nb : Nat) : EscCommand :=
  let off := c.off + BitVec.ofNat 32 nb
  { c with off := if c.asz32 then off else low16 off, started := true }

/-- What an item that ran into a limit or a page fault makes due: after the first item exception 9, an abort that ends the transfers (R979;
60_exceptions.md R1052, R1132); of the first item, with which nothing of the operand has been transferred, the exception met: a fault of the ESC
instruction, whose command stands until it is taken (60_exceptions.md R1051; DESIGN CHOICE, log entry 16). -/
def State.itemFailed (s : State) (c : EscCommand) (x : Exc) : State :=
  if c.started then { s with escCommand := none, escDue := some { vector := 9, code := none } } else { s with escDue := some x }

/-- PEREQ: one item is transferred, of 4 bytes or 2; without a command, or with an exception due, the processor does nothing (R976; log entry
16). -/
def State.pereq (s : State) (dword : Bool) (value : Word) : State :=
  match s.escCommand, s.escDue with
  | some c, none =>
    match transferItem c dword value s with
    | .ok _ t => { t with escCommand := some (c.moved (itemBytes dword)) }
    | .error (.bus b) t => (s.rollback t).busStop b
    | .error (.exc x _) t => (s.rollback t).itemFailed c x
    | .error (.refuse _) t => s.rollback t
  | _, _ => s

/-- ESC (R975). -/
def execEsc (ttt lll : BitVec 3) (m : RM) (s : State) : Result := instr (escBody ttt lll m) s

end Sys2Proof.Machine
end

