-- ==== Sys2Proof/Machine/Dispatch.lean ====
section
/-!
DEFINITION. The meaning of every instruction, one arm per constructor of `Instr`: each arm calls its own definition.
-/
namespace Sys2Proof.Machine

open Sys2Proof

def exec (i : Instr) (s : State) : Host.Outcome State Fault Refusal :=
  match i with
  | .movRmReg w m r => Sys2Proof.Machine.execMovRmReg w m r s
  | .movRegRm w m r => Sys2Proof.Machine.execMovRegRm w m r s
  | .movRmImm w m imm => Sys2Proof.Machine.execMovRmImm w m imm s
  | .movRegImm w r imm => Sys2Proof.Machine.execMovRegImm w r imm s
  | .movAccMem w off => Sys2Proof.Machine.execMovAccMem w off s
  | .movMemAcc w off => Sys2Proof.Machine.execMovMemAcc w off s
  | .movSegRm m g => Sys2Proof.Machine.execMovSegRm m g s
  | .movRmSeg m g => Sys2Proof.Machine.execMovRmSeg m g s
  | .movsx w m r => Sys2Proof.Machine.execMovsx w m r s
  | .movzx w m r => Sys2Proof.Machine.execMovzx w m r s
  | .pushRm m => Sys2Proof.Machine.execPushRm m s
  | .pushReg r => Sys2Proof.Machine.execPushReg r s
  | .pushSeg g => Sys2Proof.Machine.execPushSeg g s
  | .pushImm s8 imm => Sys2Proof.Machine.execPushImm s8 imm s
  | .popRm m => Sys2Proof.Machine.execPopRm m s
  | .popReg r => Sys2Proof.Machine.execPopReg r s
  | .xchgRmReg w m r => Sys2Proof.Machine.execXchgRmReg w m r s
  | .xchgAccReg r => Sys2Proof.Machine.execXchgAccReg r s
  | .inImm w imm => Sys2Proof.Machine.execInImm w imm s
  | .inDx w => Sys2Proof.Machine.execInDx w s
  | .outImm w imm => Sys2Proof.Machine.execOutImm w imm s
  | .outDx w => Sys2Proof.Machine.execOutDx w s
  | .lea m r => Sys2Proof.Machine.execLea m r s
  | .lds m r => Sys2Proof.Machine.execLds m r s
  | .les m r => Sys2Proof.Machine.execLes m r s
  | .lfs m r => Sys2Proof.Machine.execLfs m r s
  | .lgs m r => Sys2Proof.Machine.execLgs m r s
  | .lss m r => Sys2Proof.Machine.execLss m r s
  | .addRmReg d w m r => Sys2Proof.Machine.execAddRmReg d w m r s
  | .addRmImm s8 w m imm => Sys2Proof.Machine.execAddRmImm s8 w m imm s
  | .addAccImm w imm => Sys2Proof.Machine.execAddAccImm w imm s
  | .adcRmReg d w m r => Sys2Proof.Machine.execAdcRmReg d w m r s
  | .adcRmImm s8 w m imm => Sys2Proof.Machine.execAdcRmImm s8 w m imm s
  | .adcAccImm w imm => Sys2Proof.Machine.execAdcAccImm w imm s
  | .incRm w m => Sys2Proof.Machine.execIncRm w m s
  | .incReg r => Sys2Proof.Machine.execIncReg r s
  | .subRmReg d w m r => Sys2Proof.Machine.execSubRmReg d w m r s
  | .subRmImm s8 w m imm => Sys2Proof.Machine.execSubRmImm s8 w m imm s
  | .subAccImm w imm => Sys2Proof.Machine.execSubAccImm w imm s
  | .sbbRmReg d w m r => Sys2Proof.Machine.execSbbRmReg d w m r s
  | .sbbRmImm s8 w m imm => Sys2Proof.Machine.execSbbRmImm s8 w m imm s
  | .sbbAccImm w imm => Sys2Proof.Machine.execSbbAccImm w imm s
  | .decRm w m => Sys2Proof.Machine.execDecRm w m s
  | .decReg r => Sys2Proof.Machine.execDecReg r s
  | .cmpRmReg d w m r => Sys2Proof.Machine.execCmpRmReg d w m r s
  | .cmpRmImm s8 w m imm => Sys2Proof.Machine.execCmpRmImm s8 w m imm s
  | .cmpAccImm w imm => Sys2Proof.Machine.execCmpAccImm w imm s
  | .negRm w m => Sys2Proof.Machine.execNegRm w m s
  | .mulRm w m => Sys2Proof.Machine.execMulRm w m s
  | .imulAcc w m => Sys2Proof.Machine.execImulAcc w m s
  | .imulReg m r => Sys2Proof.Machine.execImulReg m r s
  | .imulImm s8 m r imm => Sys2Proof.Machine.execImulImm s8 m r imm s
  | .divRm w m => Sys2Proof.Machine.execDivRm w m s
  | .idivRm w m => Sys2Proof.Machine.execIdivRm w m s
  | .aad imm => Sys2Proof.Machine.execAad imm s
  | .aam imm => Sys2Proof.Machine.execAam imm s
  | .rolOne w m => Sys2Proof.Machine.execRolOne w m s
  | .rolCl w m => Sys2Proof.Machine.execRolCl w m s
  | .rolImm w m imm => Sys2Proof.Machine.execRolImm w m imm s
  | .rorOne w m => Sys2Proof.Machine.execRorOne w m s
  | .rorCl w m => Sys2Proof.Machine.execRorCl w m s
  | .rorImm w m imm => Sys2Proof.Machine.execRorImm w m imm s
  | .rclOne w m => Sys2Proof.Machine.execRclOne w m s
  | .rclCl w m => Sys2Proof.Machine.execRclCl w m s
  | .rclImm w m imm => Sys2Proof.Machine.execRclImm w m imm s
  | .rcrOne w m => Sys2Proof.Machine.execRcrOne w m s
  | .rcrCl w m => Sys2Proof.Machine.execRcrCl w m s
  | .rcrImm w m imm => Sys2Proof.Machine.execRcrImm w m imm s
  | .shlOne w m => Sys2Proof.Machine.execShlOne w m s
  | .shlCl w m => Sys2Proof.Machine.execShlCl w m s
  | .shlImm w m imm => Sys2Proof.Machine.execShlImm w m imm s
  | .shrOne w m => Sys2Proof.Machine.execShrOne w m s
  | .shrCl w m => Sys2Proof.Machine.execShrCl w m s
  | .shrImm w m imm => Sys2Proof.Machine.execShrImm w m imm s
  | .sarOne w m => Sys2Proof.Machine.execSarOne w m s
  | .sarCl w m => Sys2Proof.Machine.execSarCl w m s
  | .sarImm w m imm => Sys2Proof.Machine.execSarImm w m imm s
  | .shldImm m r imm => Sys2Proof.Machine.execShldImm m r imm s
  | .shldCl m r => Sys2Proof.Machine.execShldCl m r s
  | .shrdImm m r imm => Sys2Proof.Machine.execShrdImm m r imm s
  | .shrdCl m r => Sys2Proof.Machine.execShrdCl m r s
  | .andRmReg d w m r => Sys2Proof.Machine.execAndRmReg d w m r s
  | .andRmImm s8 w m imm => Sys2Proof.Machine.execAndRmImm s8 w m imm s
  | .andAccImm w imm => Sys2Proof.Machine.execAndAccImm w imm s
  | .testRmReg w m r => Sys2Proof.Machine.execTestRmReg w m r s
  | .testRmImm w m imm => Sys2Proof.Machine.execTestRmImm w m imm s
  | .testAccImm w imm => Sys2Proof.Machine.execTestAccImm w imm s
  | .orRmReg d w m r => Sys2Proof.Machine.execOrRmReg d w m r s
  | .orRmImm s8 w m imm => Sys2Proof.Machine.execOrRmImm s8 w m imm s
  | .orAccImm w imm => Sys2Proof.Machine.execOrAccImm w imm s
  | .xorRmReg d w m r => Sys2Proof.Machine.execXorRmReg d w m r s
  | .xorRmImm s8 w m imm => Sys2Proof.Machine.execXorRmImm s8 w m imm s
  | .xorAccImm w imm => Sys2Proof.Machine.execXorAccImm w imm s
  | .notRm w m => Sys2Proof.Machine.execNotRm w m s
  | .cmps w => Sys2Proof.Machine.execCmps w s
  | .ins w => Sys2Proof.Machine.execIns w s
  | .lods w => Sys2Proof.Machine.execLods w s
  | .movs w => Sys2Proof.Machine.execMovs w s
  | .outs w => Sys2Proof.Machine.execOuts w s
  | .scas w => Sys2Proof.Machine.execScas w s
  | .stos w => Sys2Proof.Machine.execStos w s
  | .repeCmps w => Sys2Proof.Machine.execRepeCmps w s
  | .repneCmps w => Sys2Proof.Machine.execRepneCmps w s
  | .repIns w => Sys2Proof.Machine.execRepIns w s
  | .repLods w => Sys2Proof.Machine.execRepLods w s
  | .repMovs w => Sys2Proof.Machine.execRepMovs w s
  | .repOuts w => Sys2Proof.Machine.execRepOuts w s
  | .repeScas w => Sys2Proof.Machine.execRepeScas w s
  | .repneScas w => Sys2Proof.Machine.execRepneScas w s
  | .repStos w => Sys2Proof.Machine.execRepStos w s
  | .bsf m r => Sys2Proof.Machine.execBsf m r s
  | .bsr m r => Sys2Proof.Machine.execBsr m r s
  | .btRmImm m imm => Sys2Proof.Machine.execBtRmImm m imm s
  | .btRmReg m r => Sys2Proof.Machine.execBtRmReg m r s
  | .btcRmImm m imm => Sys2Proof.Machine.execBtcRmImm m imm s
  | .btcRmReg m r => Sys2Proof.Machine.execBtcRmReg m r s
  | .btrRmImm m imm => Sys2Proof.Machine.execBtrRmImm m imm s
  | .btrRmReg m r => Sys2Proof.Machine.execBtrRmReg m r s
  | .btsRmImm m imm => Sys2Proof.Machine.execBtsRmImm m imm s
  | .btsRmReg m r => Sys2Proof.Machine.execBtsRmReg m r s
  | .callRel rel => Sys2Proof.Machine.execCallRel rel s
  | .callRm m => Sys2Proof.Machine.execCallRm m s
  | .callFar off sel => Sys2Proof.Machine.execCallFar off sel s
  | .callFarMem m => Sys2Proof.Machine.execCallFarMem m s
  | .jmpShort rel => Sys2Proof.Machine.execJmpShort rel s
  | .jmpRel rel => Sys2Proof.Machine.execJmpRel rel s
  | .jmpRm m => Sys2Proof.Machine.execJmpRm m s
  | .jmpFar off sel => Sys2Proof.Machine.execJmpFar off sel s
  | .jmpFarMem m => Sys2Proof.Machine.execJmpFarMem m s
  | .retImm imm => Sys2Proof.Machine.execRetImm imm s
  | .retfImm imm => Sys2Proof.Machine.execRetfImm imm s
  | .joShort rel => Sys2Proof.Machine.execJoShort rel s
  | .jnoShort rel => Sys2Proof.Machine.execJnoShort rel s
  | .jbShort rel => Sys2Proof.Machine.execJbShort rel s
  | .jnbShort rel => Sys2Proof.Machine.execJnbShort rel s
  | .jeShort rel => Sys2Proof.Machine.execJeShort rel s
  | .jneShort rel => Sys2Proof.Machine.execJneShort rel s
  | .jbeShort rel => Sys2Proof.Machine.execJbeShort rel s
  | .jnbeShort rel => Sys2Proof.Machine.execJnbeShort rel s
  | .jsShort rel => Sys2Proof.Machine.execJsShort rel s
  | .jnsShort rel => Sys2Proof.Machine.execJnsShort rel s
  | .jpShort rel => Sys2Proof.Machine.execJpShort rel s
  | .jnpShort rel => Sys2Proof.Machine.execJnpShort rel s
  | .jlShort rel => Sys2Proof.Machine.execJlShort rel s
  | .jnlShort rel => Sys2Proof.Machine.execJnlShort rel s
  | .jleShort rel => Sys2Proof.Machine.execJleShort rel s
  | .jnleShort rel => Sys2Proof.Machine.execJnleShort rel s
  | .joNear rel => Sys2Proof.Machine.execJoNear rel s
  | .jnoNear rel => Sys2Proof.Machine.execJnoNear rel s
  | .jbNear rel => Sys2Proof.Machine.execJbNear rel s
  | .jnbNear rel => Sys2Proof.Machine.execJnbNear rel s
  | .jeNear rel => Sys2Proof.Machine.execJeNear rel s
  | .jneNear rel => Sys2Proof.Machine.execJneNear rel s
  | .jbeNear rel => Sys2Proof.Machine.execJbeNear rel s
  | .jnbeNear rel => Sys2Proof.Machine.execJnbeNear rel s
  | .jsNear rel => Sys2Proof.Machine.execJsNear rel s
  | .jnsNear rel => Sys2Proof.Machine.execJnsNear rel s
  | .jpNear rel => Sys2Proof.Machine.execJpNear rel s
  | .jnpNear rel => Sys2Proof.Machine.execJnpNear rel s
  | .jlNear rel => Sys2Proof.Machine.execJlNear rel s
  | .jnlNear rel => Sys2Proof.Machine.execJnlNear rel s
  | .jleNear rel => Sys2Proof.Machine.execJleNear rel s
  | .jnleNear rel => Sys2Proof.Machine.execJnleNear rel s
  | .jcxz rel => Sys2Proof.Machine.execJcxz rel s
  | .loop rel => Sys2Proof.Machine.execLoop rel s
  | .loopz rel => Sys2Proof.Machine.execLoopz rel s
  | .loopnz rel => Sys2Proof.Machine.execLoopnz rel s
  | .seto m => Sys2Proof.Machine.execSeto m s
  | .setno m => Sys2Proof.Machine.execSetno m s
  | .setb m => Sys2Proof.Machine.execSetb m s
  | .setnb m => Sys2Proof.Machine.execSetnb m s
  | .sete m => Sys2Proof.Machine.execSete m s
  | .setne m => Sys2Proof.Machine.execSetne m s
  | .setbe m => Sys2Proof.Machine.execSetbe m s
  | .setnbe m => Sys2Proof.Machine.execSetnbe m s
  | .sets m => Sys2Proof.Machine.execSets m s
  | .setns m => Sys2Proof.Machine.execSetns m s
  | .setp m => Sys2Proof.Machine.execSetp m s
  | .setnp m => Sys2Proof.Machine.execSetnp m s
  | .setl m => Sys2Proof.Machine.execSetl m s
  | .setnl m => Sys2Proof.Machine.execSetnl m s
  | .setle m => Sys2Proof.Machine.execSetle m s
  | .setnle m => Sys2Proof.Machine.execSetnle m s
  | .enter imm level => Sys2Proof.Machine.execEnter imm level s
  | .intN imm => Sys2Proof.Machine.execIntN imm s
  | .bound m r => Sys2Proof.Machine.execBound m r s
  | .movCrReg c r => Sys2Proof.Machine.execMovCrReg c r s
  | .movRegCr c r => Sys2Proof.Machine.execMovRegCr c r s
  | .movDrReg c r => Sys2Proof.Machine.execMovDrReg c r s
  | .movRegDr c r => Sys2Proof.Machine.execMovRegDr c r s
  | .movTrReg c r => Sys2Proof.Machine.execMovTrReg c r s
  | .movRegTr c r => Sys2Proof.Machine.execMovRegTr c r s
  | .esc ttt lll m => Sys2Proof.Machine.execEsc ttt lll m s
  | .arpl m r => Sys2Proof.Machine.execArpl m r s
  | .lar m r => Sys2Proof.Machine.execLar m r s
  | .lgdt m => Sys2Proof.Machine.execLgdt m s
  | .lidt m => Sys2Proof.Machine.execLidt m s
  | .lldt m => Sys2Proof.Machine.execLldt m s
  | .lmsw m => Sys2Proof.Machine.execLmsw m s
  | .lsl m r => Sys2Proof.Machine.execLsl m r s
  | .ltr m => Sys2Proof.Machine.execLtr m s
  | .sgdt m => Sys2Proof.Machine.execSgdt m s
  | .sidt m => Sys2Proof.Machine.execSidt m s
  | .sldt m => Sys2Proof.Machine.execSldt m s
  | .smsw m => Sys2Proof.Machine.execSmsw m s
  | .str m => Sys2Proof.Machine.execStr m s
  | .verr m => Sys2Proof.Machine.execVerr m s
  | .verw m => Sys2Proof.Machine.execVerw m s
  | .und8F1 md rm => Sys2Proof.Machine.execUnd8F1 md rm s
  | .und8F2 md rm => Sys2Proof.Machine.execUnd8F2 md rm s
  | .und8F3 md rm => Sys2Proof.Machine.execUnd8F3 md rm s
  | .und8F4 md rm => Sys2Proof.Machine.execUnd8F4 md rm s
  | .und8F5 md rm => Sys2Proof.Machine.execUnd8F5 md rm s
  | .und8F6 md rm => Sys2Proof.Machine.execUnd8F6 md rm s
  | .und8F7 md rm => Sys2Proof.Machine.execUnd8F7 md rm s
  | .undC61 w md rm => Sys2Proof.Machine.execUndC61 w md rm s
  | .undC62 w md rm => Sys2Proof.Machine.execUndC62 w md rm s
  | .undC63 w md rm => Sys2Proof.Machine.execUndC63 w md rm s
  | .undC64 w md rm => Sys2Proof.Machine.execUndC64 w md rm s
  | .undC65 w md rm => Sys2Proof.Machine.execUndC65 w md rm s
  | .undC66 w md rm => Sys2Proof.Machine.execUndC66 w md rm s
  | .undC67 w md rm => Sys2Proof.Machine.execUndC67 w md rm s
  | .undFE2 md rm => Sys2Proof.Machine.execUndFE2 md rm s
  | .undFE3 md rm => Sys2Proof.Machine.execUndFE3 md rm s
  | .undFE4 md rm => Sys2Proof.Machine.execUndFE4 md rm s
  | .undFE5 md rm => Sys2Proof.Machine.execUndFE5 md rm s
  | .undFE6 md rm => Sys2Proof.Machine.execUndFE6 md rm s
  | .undFE7 md rm => Sys2Proof.Machine.execUndFE7 md rm s
  | .undFF7 md rm => Sys2Proof.Machine.execUndFF7 md rm s
  | .und0F006 md rm => Sys2Proof.Machine.execUnd0F006 md rm s
  | .und0F007 md rm => Sys2Proof.Machine.execUnd0F007 md rm s
  | .und0F015 md rm => Sys2Proof.Machine.execUnd0F015 md rm s
  | .und0F017 md rm => Sys2Proof.Machine.execUnd0F017 md rm s
  | .und0FBA0 md rm => Sys2Proof.Machine.execUnd0FBA0 md rm s
  | .und0FBA1 md rm => Sys2Proof.Machine.execUnd0FBA1 md rm s
  | .und0FBA2 md rm => Sys2Proof.Machine.execUnd0FBA2 md rm s
  | .und0FBA3 md rm => Sys2Proof.Machine.execUnd0FBA3 md rm s
  | .undShift6 d w md rm => Sys2Proof.Machine.execUndShift6 d w md rm s
  | .undShiftImm6 w md rm => Sys2Proof.Machine.execUndShiftImm6 w md rm s
  | .undF61 w md rm => Sys2Proof.Machine.execUndF61 w md rm s
  | .pushFs => Sys2Proof.Machine.execPushFs s
  | .pushGs => Sys2Proof.Machine.execPushGs s
  | .pusha => Sys2Proof.Machine.execPusha s
  | .popEs => Sys2Proof.Machine.execPopEs s
  | .popSs => Sys2Proof.Machine.execPopSs s
  | .popDs => Sys2Proof.Machine.execPopDs s
  | .popFs => Sys2Proof.Machine.execPopFs s
  | .popGs => Sys2Proof.Machine.execPopGs s
  | .popa => Sys2Proof.Machine.execPopa s
  | .clc => Sys2Proof.Machine.execClc s
  | .cld => Sys2Proof.Machine.execCld s
  | .cli => Sys2Proof.Machine.execCli s
  | .clts => Sys2Proof.Machine.execClts s
  | .cmc => Sys2Proof.Machine.execCmc s
  | .lahf => Sys2Proof.Machine.execLahf s
  | .popf => Sys2Proof.Machine.execPopf s
  | .pushf => Sys2Proof.Machine.execPushf s
  | .sahf => Sys2Proof.Machine.execSahf s
  | .stc => Sys2Proof.Machine.execStc s
  | .std => Sys2Proof.Machine.execStd s
  | .sti => Sys2Proof.Machine.execSti s
  | .aaa => Sys2Proof.Machine.execAaa s
  | .aas => Sys2Proof.Machine.execAas s
  | .daa => Sys2Proof.Machine.execDaa s
  | .das => Sys2Proof.Machine.execDas s
  | .cbw => Sys2Proof.Machine.execCbw s
  | .cwd => Sys2Proof.Machine.execCwd s
  | .xlat => Sys2Proof.Machine.execXlat s
  | .ret => Sys2Proof.Machine.execRet s
  | .retf => Sys2Proof.Machine.execRetf s
  | .leave => Sys2Proof.Machine.execLeave s
  | .int3 => Sys2Proof.Machine.execInt3 s
  | .into => Sys2Proof.Machine.execInto s
  | .iret => Sys2Proof.Machine.execIret s
  | .hlt => Sys2Proof.Machine.execHlt s
  | .nop => Sys2Proof.Machine.execNop s
  | .wait => Sys2Proof.Machine.execWait s
  | .pfxAddrSize => Sys2Proof.Machine.execPfxAddrSize s
  | .pfxLock => Sys2Proof.Machine.execPfxLock s
  | .pfxOpSize => Sys2Proof.Machine.execPfxOpSize s
  | .pfxCs => Sys2Proof.Machine.execPfxCs s
  | .pfxDs => Sys2Proof.Machine.execPfxDs s
  | .pfxEs => Sys2Proof.Machine.execPfxEs s
  | .pfxFs => Sys2Proof.Machine.execPfxFs s
  | .pfxGs => Sys2Proof.Machine.execPfxGs s
  | .pfxSs => Sys2Proof.Machine.execPfxSs s
  | .pfxRep => Sys2Proof.Machine.execPfxRep s
  | .pfxRepne => Sys2Proof.Machine.execPfxRepne s
  | .undD6 => Sys2Proof.Machine.execUndD6 s
  | .undF1 => Sys2Proof.Machine.execUndF1 s
  | .und0F05 => Sys2Proof.Machine.execUnd0F05 s
  | .und0F07 => Sys2Proof.Machine.execUnd0F07 s
  | .und0FA6 => Sys2Proof.Machine.execUnd0FA6 s
  | .und0FA7 => Sys2Proof.Machine.execUnd0FA7 s

end Sys2Proof.Machine
end

