-- ==== Sys2Proof/Machine/Boundary.lean ====
section
/-!
DEFINITION. What happens at an instruction boundary, in the order of Table 2.6 (60_exceptions.md R1054): the environment's events, debug
traps, NMI and INTR, halt and shutdown, instruction breakpoints; then the fetch of the next instruction and its execution.
-/
namespace Sys2Proof.Machine

open Sys2Proof

/-! Fetch and execution (30_encoding.md R502; 60_exceptions.md R1055). -/

/-- Bytes are fetched one at a time until they make an instruction or are rejected; `room` of the 15 bytes are left, and one more raises
`#GP(0)` (R1055 steps 1 and 2). -/
def fetchInstr (c : Ctx) (off : Word) : Nat → List Byte → M Decoded
  | room, bs =>
    match decode c bs, room with
    | .more, 0 => raiseGP0
    | .more, room + 1 => do
      let b ← fetchByte (off + BitVec.ofNat 32 bs.length)
      fetchInstr c off room (bs ++ [b])
    | d, _ => pure d

/-- The offset at which the bytes after the prefixes already read begin. -/
def State.fetchOffset (s : State) : Word := s.eip + BitVec.ofNat 32 s.pfx.count

/-- The state in which the page of the byte at `off` of the code segment has been translated for the prefetch unit; none where that
faults. -/
def State.prefetchAt (s : State) (off : Word) : Option State :=
  match translate (s.linear .cs off) false s.user s with
  | .ok _ t => some t
  | .error _ _ => none

/-- The prefetch unit reads ahead from `next`, as far as the queues reach, within the limit of CS and without faults; what remains of it are
Accessed bits and TLB entries, through which the queues have then read (20_memory.md R263; 22_paging.md R480, R484; log entry 24). -/
def State.prefetched (s : State) (next : Word) : State :=
  if s.pg then
    let n := Config.prefetchDepth s.freeIdx % (queueDepth + 1)
    if n = 0 ∨ s.cs.outside next n s.prot then s
    else
      match s.prefetchAt next with
      | none => s
      | some t => (t.prefetchAt (next + BitVec.ofNat 32 (n - 1))).getD t
  else s

/-- The decoded bytes of the next instruction, or of its next prefix (R504), and the reads ahead of it. Past bytes that are rejected, or whose
fetch faults, the prefetch unit reads nothing ahead, which 20_memory.md R263 leaves open (DESIGN CHOICE, log entry 24). -/
def fetch : M Decoded := do
  let s ← get
  let d ← fetchInstr s.ctx s.fetchOffset (maxLength - s.pfx.count) []
  match d with
  | .instr _ len => modify fun t => t.prefetched (s.fetchOffset + BitVec.ofNat 32 len)
  | _ => pure ()
  pure d

/-- An instruction of `len` more bytes begins: `EIP_next`, TF at its start, and the inhibit of the one before it, which lasts until it
completes while it may set another (30_encoding.md R503; 10_state.md R144; 60_exceptions.md R1086, R1120). -/
def State.begin (s : State) (len : Nat) : State :=
  { s with
    eipNext := s.fetchOffset + BitVec.ofNat 32 len
    inhibit := false
    held := s.held || s.inhibit
    pend := { s.pend with tfStart := s.flags.tf } }

/-- An encoding outside the table of an instruction that began in `s`: `#UD` after a LOCK prefix (30_encoding.md R508), else `body`. -/
def State.rejected (s t : State) (body : M Unit) : Result :=
  match (noLock *> body) t with
  | .ok _ u => .next u.complete
  | .error e u => stopped s u e

/-- What is done with the decoded bytes: an illegal opcode raises `#UD` (R1055 step 3); the encodings that the rules refuse are refused,
those of the special registers after the privilege check (30_encoding.md R526; 49_system.md R955 to R960; 47_setcc_enter_leave.md
R900). -/
def State.runDecoded (s t : State) : Decoded → Result
  | .instr i len => exec i (t.begin len)
  | .reject .undefinedOpcode => s.rejected t raiseUD
  | .reject .specialCode => s.rejected t (requireCpl0 *> raiseUD)
  | .reject .setccField => s.rejected t (refuse .setccField)
  | .reject .specialMod => s.rejected t (requireCpl0 *> refuse .specialMod)
  | .reject .cr1 => s.rejected t (requireCpl0 *> refuse .cr1)
  | .reject .dr45 => s.rejected t (requireCpl0 *> refuse .dr45)
  | .more => takeException s t { vector := 13, code := some 0 } false

/-- The next instruction, or its next prefix, is fetched and run. -/
def State.runNext (s : State) : Result :=
  match fetch s with
  | .ok d t => s.runDecoded t d
  | .error e t => stopped s t e

/-! Debug events (R1120 to R1123). -/

/-- A debug trap is pending. -/
def State.trapPending (s : State) : Bool := s.pend.bs || s.pend.bt || s.pend.fire

/-- DR6 with the causes of a trap: BS, BT, and B3 to B0 of the data breakpoints met, enabled or not (10_state.md R113); of execution
breakpoints that raise nothing it reports none (DESIGN CHOICE, log entry 40). -/
def State.dr6Trap (s : State) : Word :=
  s.dr6 ||| s.pend.hits.setWidth 32 ||| (if s.pend.bs then 0x4000 else 0) ||| (if s.pend.bt then 0x8000 else 0)

/-- Exception 1 as a trap. -/
def State.debugTrap (s : State) : Result :=
  deliver { vector := 1, kind := .trap, code := none } s.eip { s with dr6 := s.dr6Trap, pend := Pend.none }

/-- An enabled execution breakpoint is met and RF does not hold it off (R1122). -/
def State.breakpointMet (s : State) : Bool := !s.flags.rf && (s.execHits &&& enabledBits s.dr7) != 0

/-- Exception 1 as a fault: B3 to B0 of the execution breakpoints at the instruction, enabled or not (10_state.md R113), and none of the data
breakpoints that the instruction before met (DESIGN CHOICE, log entry 40). -/
def State.debugFault (s : State) : Result :=
  deliver { vector := 1, kind := .fault, code := none } s.eip { s with dr6 := s.dr6 ||| s.execHits.setWidth 32 }

/-! External interrupts (R1080, R1084). -/

/-- The event of an NMI. -/
def nmiEvent : Event := { vector := 2, kind := .nmi, code := none }

/-- An NMI is pending and can be served. -/
def State.nmiReady (s : State) : Bool := s.nmiPending && !s.nmiInService && !s.inhibit

/-- The NMI is taken into service. -/
def State.takeNmi (s : State) : State := { s with nmiPending := false, nmiInService := true }

/-- INTR is asserted and recognised. -/
def State.intrReady (s : State) : Bool := s.pins.intr && s.flags.ifl && !s.inhibit

/-- A bus cycle that tells the platform something. -/
def State.noteCycle (s : State) (c : BusCycle) : State := { s with cycles := c :: s.cycles }

/-- The two cycles that acknowledge INTR, locked (R1081; 20_memory.md R234 item 5). -/
def acknowledge : M Unit := do
  busTurn
  modify fun s => s.noteCycle .intAckFirst
  cycleTurn
  modify fun s => s.noteCycle .intAckSecond

/-- INTR is acknowledged: the vector is the platform's (R1081). -/
def State.takeIntr (s : State) : Result :=
  match acknowledge s with
  | .ok _ t => deliver { vector := t.pins.intaVector, kind := .intr, code := none } t.eip t
  | .error e t => stopped t t e

/-- IF is cleared after the delivery of an NMI, whatever came of it (R1084). -/
def State.masked (s : State) : State := { s with flags := { s.flags with ifl := false } }

/-- The same of a next state. -/
def maskIntr : Result → Result
  | .next s => .next s.masked
  | .fault f => .fault f
  | .refused r => .refused r

/-- In REAL mode an NMI cannot end shutdown: the limit of IDTR is below 000FH, or SP is 5 or less (R1142). -/
def State.shutdownHolds (s : State) : Bool := !s.pe && (decide (s.idtr.limit.toNat < 0xF) || decide (s.sp.toNat ≤ 5))

/-- In shutdown an NMI gets one attempt; if it fails the machine stays in shutdown (R1142). -/
def State.nmiInShutdown (s : State) : Result :=
  if s.shutdownHolds then .next s.takeNmi
  else
    match entry nmiEvent s.eip s.takeNmi with
    | .ok _ t => .next (t.entered nmiEvent).masked
    | .error (.refuse r) _ => .refused r
    | .error (.bus b) t => .next ((s.takeNmi.rollback t).busStop b)
    | .error (.exc _ _) t => .next (s.takeNmi.rollback t)

/-- The machine back at the ESC instruction whose first item failed: its command ends, and no debug trap is pending of it (R1051, R1057;
DESIGN CHOICE, log entry 16). -/
def State.backAtEsc (s : State) (c : EscCommand) : State :=
  { s with cs := c.cs, eip := c.eip, escCommand := none, pend := Pend.none }

/-- The exception due from a coprocessor operand is taken. Exception 9, an abort, has ended the command, and saves the address of the next
instruction; a fault of the first item saves that of the ESC instruction (R1050, R1051, R1132; 49_system.md R979; log entry 16). -/
def State.takeEscDue (s : State) (x : Exc) : Result :=
  let t : State := { s with escDue := none }
  match s.escCommand with
  | none => deliver x.event s.eip t
  | some c => deliver x.event c.eip (t.backAtEsc c)

/-! The boundary. -/

/-- Conditions met by no enabled breakpoint are forgotten where no debug trap is held back (10_state.md R113, R146). -/
def State.settle (s : State) : State := if s.inhibit then s else { s with pend := { s.pend with hits := 0 } }

/-- A running machine goes on to its next instruction, unless a breakpoint is set on it. -/
def State.proceed (s : State) : Result := if s.breakpointMet then s.debugFault else s.settle.runNext

/-- What a boundary does where no exception of a coprocessor operand is due, in the order of R1054 (items 1 to 3), with halt (R1140). -/
def State.ordinary (s : State) : Result :=
  if s.trapPending && !s.inhibit then s.debugTrap
  else if s.nmiReady then maskIntr (deliver nmiEvent s.eip s.takeNmi)
  else if s.intrReady then s.takeIntr
  else if s.run = .halted then .next s
  else s.proceed

/-- One boundary (R1054), with shutdown (R1141, R1142). The exception of a coprocessor operand comes first, and leaves the halt: R1140 names
no such case (DESIGN CHOICE, log entry 16). -/
def State.boundary (s : State) : Result :=
  if s.run = .shutdown then (if s.nmiReady then s.nmiInShutdown else .next s)
  else
    match s.escDue with
    | some x => s.takeEscDue x
    | none => s.ordinary

/-! The environment (R1152). -/

/-- The port `p` answers `v` from now on. -/
def State.setPort (s : State) (p : Half) (v : Byte) : State :=
  { s with ioIn := (p.toNat, v) :: s.ioIn.filter fun c => c.1 != p.toNat }

/-- One event of the environment. A stalled bus answers no PEREQ; a processor halted or in shutdown transfers the item and stays as it is, a
case that R1140 to R1142 do not name (DESIGN CHOICE, log entry 16). -/
def State.receive (s : State) : Stimulus → State
  | .intr level vector => { s with pins := { s.pins with intr := level, intaVector := vector } }
  | .nmi => { s with nmiPending := true }
  | .busy level => { s with pins := { s.pins with busy := level } }
  | .error level => { s with pins := { s.pins with error := level } }
  | .reset => s.resetEvent
  | .dma address value => s.putByte address.toNat value
  | .port p v => s.setPort p v
  | .stall => s.busStop .stall
  | .pereq dword value => if s.run = .stalled then s else s.pereq dword value

/-- The events that arrive at one boundary, in their order. -/
def State.receiveAll (s : State) (xs : List Stimulus) : State := xs.foldl State.receive s

/-- A boundary at which the events `xs` arrive: RESET, and a bus that stalls, leave nothing else to do. -/
def State.boundaryWith (s : State) (xs : List Stimulus) : Result :=
  let t := s.receiveAll xs
  if xs.any (· == .reset) || t.run == .stalled then .next t else t.boundary

/-- A stalled machine waits for READY# until RESET; with no event to come it waits for ever (20_memory.md R258; 70_reset_and_hazards.md
R1200). -/
def State.stalledCycle (s : State) : Result :=
  match s.stimuli with
  | [] => .fault .busStall
  | xs :: rest => .next ({ s with stimuli := rest }.receiveAll xs)

/-- A step from any state: within an instruction whose prefixes are being read nothing else can happen (30_encoding.md R504), but for
what `bus` brings. -/
def State.cycle (s : State) : Result :=
  if s.run = .stalled then s.stalledCycle
  else if s.pfx.count = 0 then
    match s.stimuli with
    | [] => s.boundary
    | xs :: rest => { s with stimuli := rest }.boundaryWith xs
  else s.runNext

/-- The next undefined values are drawn at another index (00_scope.md R19; log entry 3). -/
def State.freshen (s : State) : State := { s with freeIdx := s.freeIdx + 1 }

/-- The same of a next state. -/
def freshen : Result → Result
  | .next s => .next s.freshen
  | .fault f => .fault f
  | .refused r => .refused r

/-! Where the next instruction is fetched. -/

/-- The byte of physical memory that holds the byte at `off` of the code segment. -/
def State.codeKey (s : State) (off : Word) : Nat :=
  let la := s.linear .cs off
  if s.pg then
    match translate la false s.user { s with bus := [] } with
    | .ok pa _ => s.physKey pa
    | .error _ _ => s.physKey la
  else s.physKey la

/-- Without an entry of the TLB for the page of `la` that does not agree with the tables: whether a fetch used it would be open, and the
queues would keep what they have read through it (22_paging.md R483, R484). -/
def State.settledPage (s : State) (la : Word) : State :=
  if s.pg then { s with tlb := s.tlb.filter fun e => e.vpn != pageOf la || s.tableEntry la == some e } else s

/-- Bytes placed where the next instruction is fetched, seen by the fetch. -/
def State.placeCode (s : State) (off : Word) : List Byte → State
  | [] => s
  | b :: rest =>
    let t := s.settledPage (s.linear .cs off)
    let key := t.codeKey off
    State.placeCode
      { t with
        mem := cellPut t.mem key b
        stale := t.stale.filter fun c => c.1 != key
        queued := t.queued.filter fun c => c.1 != (t.linear .cs off).toNat } (off + 1) rest

end Sys2Proof.Machine
end

