-- ==== Sys2Proof/Machine/Step.lean ====
section
/-!
DEFINITION. The step of the machine, and the placement of an instruction where the step fetches it.
-/
namespace Sys2Proof.Machine

open Sys2Proof

/-- One step: an event delivered, a halted or shut down machine waiting, or one instruction, one prefix of it, or one iteration of a
repeated string instruction. -/
def step (s : State) : Host.Outcome State Fault Refusal := freshen s.cycle

/-- The instruction whose bits are `w`, numbered as spec/opcode_table.json numbers them, stored where `step` fetches its next
instruction; the bytes above its `nbits` bits are zero. -/
def State.withFetchWord (s : State) (nbits w : Nat) : State := s.placeCode s.fetchOffset (tableBytes nbits w)

end Sys2Proof.Machine
end

