-- ==== Sys2Proof/Safety.lean ====
section
/-!
DEFINITION. The terms in which statements are made: what every reachable state keeps, when nothing comes before the next instruction,
which instructions the rules leave refused, and the stack and entry of a machine with paging off.
-/
namespace Sys2Proof.Machine

open Sys2Proof

/-! What steps keep. -/

/-- The legal modes (00_scope.md R20): REAL mode has CPL 0 (10_state.md R75), no VM and no paging (R92); Virtual 8086 mode has CPL 3
(21_protection.md R423). -/
def State.modeLegal (s : State) : Prop :=
  (s.pe = false → s.flags.vm = false ∧ s.cpl = 0 ∧ s.pg = false) ∧ (s.flags.vm = true → s.cpl = 3)

/-- The translation state: CR3 without low bits (10_state.md R95), a TLB of at most 32 entries, one for a page (22_paging.md R480). -/
def State.translationLegal (s : State) : Prop :=
  s.cr3.extractLsb' 0 12 = 0 ∧ s.tlb.length ≤ tlbSize ∧ s.tlb.Pairwise (fun a b => a.vpn ≠ b.vpn)

/-- An instruction in progress has at most 15 prefix bytes (30_encoding.md R573). -/
def State.prefixLegal (s : State) : Prop := s.pfx.count ≤ maxLength

/-! When the next instruction is next. -/

/-- Nothing of 60_exceptions.md R1054 comes before the next instruction: no event of the environment, no debug trap, no interrupt, no
breakpoint, and the machine runs. -/
def State.quiet (s : State) : Prop :=
  s.stimuli = [] ∧ s.run = .running ∧ s.escDue = none ∧ (s.trapPending && !s.inhibit) = false ∧ s.nmiReady = false ∧ s.intrReady = false ∧
    s.breakpointMet = false

/-- No RESET and no stall of the bus comes before a bus operation (20_memory.md R258; 70_reset_and_hazards.md R1200). -/
def State.unstopped (s : State) : Prop := ∀ x ∈ s.bus, x.stop = none

/-- The state in which the next instruction, or its next byte after a prefix, is fetched. -/
def State.fetchState (s : State) : State := if s.pfx.count = 0 then s.settle else s

/-! Levels. -/

/-- The program may not run the privileged instructions of 21_protection.md R410. -/
def State.unprivileged (s : State) : Prop := s.v86 = true ∨ (s.prot = true ∧ s.cpl ≠ 0)

/-- An access of the kind `a` to `nb` bytes at `g:off` violates the segment's rights, or its limit (20_memory.md R222). -/
def State.rightsViolated (s : State) (g : Seg) (a : Access) : Bool := s.prot && (!(s.seg g).valid || (s.seg g).forbids a)

/-- The same, for the limit (20_memory.md R222). -/
def State.limitViolated (s : State) (g : Seg) (off : Word) (nb : Nat) : Bool := (s.seg g).outside off nb s.prot

/-- The forms with a memory destination that take a LOCK prefix: BTS, BTR, BTC, XCHG, and the arithmetic and logic instructions that
write their operand (20_memory.md R235; 30_encoding.md R508). -/
def LockForm : Instr → Bool
  | .addRmReg d _ (.mem _) _ | .orRmReg d _ (.mem _) _ | .adcRmReg d _ (.mem _) _ | .sbbRmReg d _ (.mem _) _ => !d
  | .andRmReg d _ (.mem _) _ | .subRmReg d _ (.mem _) _ | .xorRmReg d _ (.mem _) _ => !d
  | .addRmImm _ _ (.mem _) _ | .orRmImm _ _ (.mem _) _ | .adcRmImm _ _ (.mem _) _ | .sbbRmImm _ _ (.mem _) _ => true
  | .andRmImm _ _ (.mem _) _ | .subRmImm _ _ (.mem _) _ | .xorRmImm _ _ (.mem _) _ => true
  | .notRm _ (.mem _) | .negRm _ (.mem _) | .incRm _ (.mem _) | .decRm _ (.mem _) | .xchgRmReg _ (.mem _) _ => true
  | .btsRmReg (.mem _) _ | .btrRmReg (.mem _) _ | .btcRmReg (.mem _) _ => true
  | .btsRmImm (.mem _) _ | .btrRmImm (.mem _) _ | .btcRmImm (.mem _) _ => true
  | _ => false

/-- The prefix bytes (30_encoding.md R504). -/
def IsPrefix : Instr → Bool
  | .pfxAddrSize | .pfxLock | .pfxOpSize | .pfxCs | .pfxDs | .pfxEs | .pfxFs | .pfxGs | .pfxSs | .pfxRep | .pfxRepne => true
  | _ => false

/-! Flags. -/

/-- `g` is `f` with the flags of a shift that left `r`: SF, ZF, PF of it, AF undefined, CF and OF changed too (10_state.md R62; 43_logic.md
R765 to R767). -/
def Flags.shifted {n : Nat} (g f : Flags) (idx : Nat) (r : BitVec n) : Prop :=
  g = { f with cf := g.cf, pf := g.pf, af := undefBit idx 2, zf := g.zf, sf := r.msb, off := g.off } ∧
    (g.zf = true ↔ r.toNat = 0) ∧ (g.pf = true ↔ ((List.range 8).countP fun i => r.getLsbD i) % 2 = 0)

/-- `g` is `f` with the flags of a bitwise operation that left `r`: CF and OF clear, SF, ZF, PF of it, AF undefined (43_logic.md R771). -/
def Flags.bitwise {n : Nat} (g f : Flags) (idx : Nat) (r : BitVec n) : Prop := g.shifted f idx r ∧ g.cf = false ∧ g.off = false

/-! Paging. -/

/-- The bytes of physical memory of the directory entry and of the table entry for the page of `la` (22_paging.md R461). -/
def State.tableKeys (s : State) (la : Word) : List Nat :=
  s.physKeys (pdeAddr s.cr3 la) 4 ++ s.physKeys (pteAddr (s.pageEntry (pdeAddr s.cr3 la)) la) 4

/-! Code segments. -/

/-- `d` is code that a far transfer to the selector `sel` may enter at the level in force (21_protection.md R352). -/
def State.entersCode (s : State) (sel : Half) (d : Descriptor) : Prop :=
  d.isCode = true ∧ arP d.ar = true ∧ (arC d.ar = true → (arDpl d.ar).toNat ≤ s.cpl.toNat) ∧
    (arC d.ar = false → arDpl d.ar = s.cpl ∧ (rpl sel).toNat ≤ s.cpl.toNat)

/-- `d` is code that a return to the selector `sel` may enter (21_protection.md R370). -/
def Descriptor.returnable (d : Descriptor) (sel : Half) : Prop :=
  d.isCode = true ∧ arP d.ar = true ∧ (arC d.ar = false → arDpl d.ar = rpl sel) ∧
    (arC d.ar = true → (arDpl d.ar).toNat ≤ (rpl sel).toNat)

/-- CS loaded with the descriptor `d` and the level `n` (21_protection.md R331). -/
def State.withCode (s : State) (sel : Half) (d : Descriptor) (n : BitVec 2) : State :=
  { s.setSeg .cs (d.toSegReg (withRpl sel n)) with cpl := n }

/-! Refused instructions. -/

/-- The nine undocumented rows of the opcode table (30_encoding.md R570; 92_eei_decisions.md D23). -/
def Undocumented (i : Instr) : Prop :=
  (∃ d w md rm, i = .undShift6 d w md rm) ∨ (∃ w md rm, i = .undShiftImm6 w md rm) ∨ (∃ w md rm, i = .undF61 w md rm) ∨
    i = .undD6 ∨ i = .undF1 ∨ i = .und0F05 ∨ i = .und0F07 ∨ i = .und0FA6 ∨ i = .und0FA7

/-- The ways in which `exec` may refuse an instruction in a state. -/
def DeclaredRefusal (i : Instr) (s : State) (r : Refusal) : Prop :=
  (r = .undocumentedOpcode ∧ Undocumented i) ∨
    (r = .testRegisterWithPaging ∧ s.pg = true ∧ ∃ x q, i = .movTrReg x q) ∨
    (r = .coprocessorAbsent ∧ s.platform.has387 = false ∧ s.em = false ∧ s.ts = false ∧ ∃ ttt lll m, i = .esc ttt lll m) ∨
    (r = .realCaches ∧ s.pe = true ∧ s.realReady = false ∧ ∃ q, i = .movCrReg .cr0 q ∧ (s.regs.get q).getLsbD 0 = false) ∨
    (r = .gate286FromV86 ∧ s.pe = true)

/-! The stack and the entry of REAL mode. -/

/-- The bytes of physical memory that a push of `nb` bytes stores to, with paging off (40_data_transfer.md R612). -/
def State.pushKeys (s : State) (nb : Nat) : List Nat := s.physKeys (s.linear .ss (stackSub s.ssz32 s.sp nb)) nb

/-- The state after a push of `nb` bytes of `v`, with paging off (40_data_transfer.md R612). -/
def State.pushed (s : State) (nb : Nat) (v : Word) : State :=
  let off := stackSub s.ssz32 s.sp nb
  ((s.noteData (s.linear .ss off) nb true).writeKeys (s.pushKeys nb) v).setSp off

/-- The four bytes of the interrupt vector table for a vector are at this linear address (60_exceptions.md R1060). -/
def State.vectorAt (s : State) (vector : Byte) : Word := s.idtr.base + BitVec.ofNat 32 (vector.toNat * 4)

/-- The state at the handler of the event in REAL mode: FLAGS, CS and the saved IP are pushed, IF and TF are cleared, RF by a software
interrupt, CS:IP comes from the vector table (60_exceptions.md R1060, R1062, R1122). -/
def State.realEntered (s : State) (e : Event) (savedEip : Word) : State :=
  let t := ((s.pushed 2 s.flags.image).pushed 2 (s.cs.sel.setWidth 32)).pushed 2 savedEip
  { t with
    flags := { t.flags with ifl := false, tf := false, rf := t.flags.rf && e.kind != .software }
    cs := realLoad t.cs ((s.readKeys (s.physKeys (s.vectorAt e.vector + 2) 2)).setWidth 16)
    eip := low16 (s.readKeys (s.physKeys (s.vectorAt e.vector) 2)) }

end Sys2Proof.Machine
end

