-- ==== Sys2Proof/Certificates/Slice0/Obligations.lean ====
section
/-!
DEFINITION. The statements about the machine, by family of the opcode table. An instruction's result is stated as the state `exec`
answers, in full: what the right side does not name is unchanged. `t.advance.complete` is the end of an instruction in sequence: EIP
takes `EIP_next`, RF is cleared, the prefixes are done, and a single step is pending where TF was set at its start. The hypotheses
`readRM …`, `memKeys …`, `memRead …`, `push …`, `stackRead … = .ok …` say that the operand can be accessed in the state, and name its
value or its bytes, and the state in which the access leaves the machine; `OperandAccess` says what that state can differ in,
`UnpagedAccess` when an access succeeds. `busTurn s = .ok () t` says what the environment does before a bus operation: nothing, and t = s,
where `s.bus` is empty (log entry 13). The spec marks most of what an instruction computes as general knowledge and not the data
sheet's (00_scope.md R6): such statements have basis derived and follow the spec's rule as it is written.
-/
open Sys2Proof Sys2Proof.Machine

/-! Encoding (30_encoding.md). -/

/-- Decoding the encoding of a well-formed instruction, whatever follows it, gives it back with its length (R500 to R561). A repeat
prefix alone is followed by a byte that is no string opcode (R509). -/
def Obligations.DecodeReadsEncodedInstruction : Prop :=
  ∀ (c : Ctx) (i : Instr) (rest : List Byte), i.wf c = true →
    (i = .pfxRep ∨ i = .pfxRepne → ∃ b tail, rest = b :: tail ∧ repeated .rep b = none) →
    decode c (encode c i ++ rest) = .instr i (encode c i).length

/-- Words written out from the encodings of R560: ADD BL to r/m of [BX+SI+1], MOV EAX from [ECX*4+1000H], JMP far, REP MOVSB, MOV CR3,
LEA of a register, SHLD by 4, and two bytes that are none. -/
def Obligations.EncodedWordsDecode : Prop :=
  decode Ctx.real [0x00, 0x58, 0x01] = .instr (.addRmReg false false (.mem (.based16 .bxsi (.d8 0x01))) .ebx) 3 ∧
  decode ⟨true, true, none⟩ [0x8B, 0x04, 0x8D, 0x00, 0x10, 0x00, 0x00] =
    .instr (.movRegRm true (.mem (.sibNoBase (some .ecx) 2 0x1000)) .eax) 7 ∧
  decode Ctx.real [0xEA, 0x00, 0x01, 0x00, 0xF0] = .instr (.jmpFar 0x0100 0xF000) 5 ∧
  decode Ctx.real [0xF3, 0xA4] = .instr (.repMovs false) 2 ∧
  decode Ctx.real [0x0F, 0x22, 0xD8] = .instr (.movCrReg .cr3 .eax) 3 ∧
  decode Ctx.real [0x8D, 0xC0] = .instr (.lea (.reg .eax) .eax) 2 ∧
  decode Ctx.real [0x0F, 0xA4, 0xD8, 0x04] = .instr (.shldImm (.reg .eax) .ebx 0x04) 4 ∧
  decode Ctx.real [0x0F, 0xFF] = .reject .undefinedOpcode ∧
  decode Ctx.real [0x8E, 0xF0] = .reject .undefinedOpcode

/-! Fetch and step (30_encoding.md R502, R503; 60_exceptions.md R1055). -/

/-- With paging off, empty queues and no other bus master, the bytes of a well-formed instruction in the code segment are fetched as that
instruction, where they lie within the limit and within the 15 bytes. -/
def Obligations.FetchReadsInstructionBytes : Prop :=
  ∀ (s : State) (i : Instr), s.pg = false → s.stale = [] → s.queued = [] → s.bus = [] → i.wf s.ctx = true →
    i ≠ .pfxRep → i ≠ .pfxRepne →
    s.pfx.count + (encode s.ctx i).length ≤ maxLength →
    s.rightsViolated .cs .execute = false →
    (∀ k b, (encode s.ctx i)[k]? = some b →
      s.limitViolated .cs (s.fetchOffset + BitVec.ofNat 32 k) 1 = false ∧
      s.byte (s.physKey (s.linear .cs (s.fetchOffset + BitVec.ofNat 32 k))) = b) →
    fetch s = .ok (.instr i (encode s.ctx i).length) s

/-- Where nothing comes before the next instruction, or a prefix of it has been read (log entry 10) and the bus does not stall, a step is
`exec` of the fetched instruction, in the state in which it begins: EIP_next is past its bytes. -/
def Obligations.StepRunsFetchedInstruction : Prop :=
  ∀ (s t : State) (i : Instr) (len : Nat), (s.pfx.count = 0 → s.quiet) → s.run ≠ .stalled →
    fetch s.fetchState = .ok (.instr i len) t →
    step s = freshen (exec i (t.begin len))

/-! Reset (10_state.md R160; 70_reset_and_hazards.md R1201 to R1205). -/

/-- The reset values the spec gives, those of its own decisions D3, D5 and D7 among them; the stepping and the registers left out are the
model's (log entry 1). -/
def Obligations.ResetState : Prop :=
  State.reset.flags.image = 0x00000002 ∧ State.reset.eip = 0x0000FFF0 ∧
  State.reset.cs.sel = 0xF000 ∧ State.reset.cs.base = 0xFFFF0000 ∧ State.reset.cs.limit = 0xFFFF ∧
  (∀ g, g ≠ Seg.cs → (State.reset.seg g).sel = 0 ∧ (State.reset.seg g).base = 0 ∧ (State.reset.seg g).limit = 0xFFFF) ∧
  State.reset.pe = false ∧ State.reset.mp = false ∧ State.reset.em = false ∧ State.reset.ts = false ∧ State.reset.pg = false ∧
  State.reset.cr0.setWidth 8 = (0x10 : Byte) ∧
  State.reset.idtr = { base := 0, limit := 0x03FF } ∧ State.reset.dr7 = 0 ∧ State.reset.cpl = 0 ∧
  (State.reset.regs.edx.extractLsb' 8 8 = (0x23 : Byte)) ∧
  State.reset.run = .running ∧ State.reset.stale = [] ∧
  State.reset.codeKey State.reset.fetchOffset = 0xFFFFF0

/-- The reset state has what steps keep. -/
def Obligations.ResetMeetsInvariants : Prop :=
  memWf State.reset.mem ∧ State.reset.modeLegal ∧ State.reset.translationLegal ∧ State.reset.prefixLegal

/-! What every step keeps. -/

/-- `PhysWrite` and `PhysRead`: byte `i` of the value is the byte at `(pa + i) mod 2^24`, written and read, where no address line is
masked (20_memory.md R205; `a20Wrap` is the platform's, R214); the byte written is the byte read, every other byte is as before, and the
canonical form is kept; a value stored at distinct bytes is read back, low byte first, and no other byte changes. -/
def Obligations.MemoryReadsLastWrite : Prop :=
  (∀ (s : State) (pa v : Word) (nb i : Nat), memWf s.mem → s.platform.a20Wrap = false → nb ≤ 4 → i < nb →
    (s.writeKeys (s.physKeys pa nb) v).byte ((pa.toNat + i) % 2 ^ 24) = v.extractLsb' (8 * i) 8 ∧
    (s.readKeys (s.physKeys pa nb)).extractLsb' (8 * i) 8 = s.byte ((pa.toNat + i) % 2 ^ 24)) ∧
  (∀ (s : State) (a : Nat) (v : Byte), memWf s.mem → a < memSize →
    (s.putByte a v).byte a = v ∧ (∀ b, b ≠ a → (s.putByte a v).byte b = s.byte b) ∧ memWf (s.putByte a v).mem) ∧
  (∀ (s : State) (keys : List Nat) (v : Word), memWf s.mem → (∀ k ∈ keys, k < memSize) → keys.Nodup → keys.length ≤ 4 →
    (s.writeKeys keys v).readKeys keys = v &&& BitVec.ofNat 32 (2 ^ (8 * keys.length) - 1) ∧
    (∀ b, b ∉ keys → (s.writeKeys keys v).byte b = s.byte b))

/-- Every step keeps the canonical form of memory. -/
def Obligations.StepKeepsMemoryCanonical : Prop :=
  ∀ (s t : State), memWf s.mem → step s = .next t → memWf t.mem

/-- Every step from a legal mode leads to a legal mode: REAL mode has CPL 0, no VM and no paging, Virtual 8086 mode has CPL 3. -/
def Obligations.StepKeepsModesLegal : Prop :=
  ∀ (s t : State), s.modeLegal → step s = .next t → t.modeLegal

/-- Every step keeps CR3 without low bits, the TLB within 32 entries and one for a page, and the prefixes within 15 bytes. -/
def Obligations.StepKeepsTranslationState : Prop :=
  ∀ (s t : State), s.translationLegal → s.prefixLegal → step s = .next t → t.translationLegal ∧ t.prefixLegal

/-- No instruction run in Virtual 8086 mode or with CPL above 0 changes GDTR, IDTR, DR0 to DR3, TR6, TR7 or CR0 but for TS, whether it
completes or takes an exception (21_protection.md R410); RESET, which may come before a bus operation of it, is left aside. -/
def Obligations.UnprivilegedKeepsSystemRegisters : Prop :=
  ∀ (i : Instr) (s t : State), s.unprivileged → s.unstopped → exec i s = .next t →
    t.gdtr = s.gdtr ∧ t.idtr = s.idtr ∧ t.dr0 = s.dr0 ∧ t.dr1 = s.dr1 ∧ t.dr2 = s.dr2 ∧ t.dr3 = s.dr3 ∧
    t.tr6 = s.tr6 ∧ t.tr7 = s.tr7 ∧ t.cr0 ||| 8 = s.cr0 ||| 8

/-- But for RESET, only MOV CR0 clears PE, only IRET ends the service of an NMI, only HLT halts. -/
def Obligations.ModeChangesHaveOneSource : Prop :=
  ∀ (i : Instr) (s t : State), s.unstopped → exec i s = .next t →
    (s.pe = true → t.pe = false → ∃ r, i = .movCrReg .cr0 r) ∧
    (s.nmiInService = true → t.nmiInService = false → i = .iret) ∧
    (s.run = .running → t.run = .halted → i = .hlt)

/-- `exec` never faults, and refuses in the declared cases only: the undocumented rows (log entry 17), a write of TR6 or TR7 with paging on
(18), a 286 gate met in Virtual 8086 mode (19), ESC without a coprocessor (25), and MOV CR0 that clears PE with segment caches unfit for
REAL mode (23). -/
def Obligations.ExecRefusesOnlyDeclared : Prop :=
  ∀ (i : Instr) (s : State), (∀ f, exec i s ≠ .fault f) ∧ (∀ r, exec i s = .refused r → DeclaredRefusal i s r)

/-! Accesses to operands (20_memory.md R210, R220 to R223; 22_paging.md). -/

/-- With paging off an access that violates neither the rights nor the limit of its segment succeeds, at the bytes that the linear
address truncated to 24 bits names, after what the environment does before it; a violation raises `#GP(0)`, a limit violation through SS
`#SS(0)`, and changes nothing (R208, R210, R222). Without other bus masters the environment does nothing. The limit is violated where one of
the bytes lies above it; in an expand-down segment, in Protected Mode, where one lies at or below it, or above FFFFH, with B = 1 FFFFFFFFH. The
rights are violated in Protected Mode by any access through a null selector, a write to code or to data that is not writable, and a read of code
that is not readable; execution violates none (R222). -/
def Obligations.UnpagedAccess : Prop :=
  (∀ (s : State) (g : Seg) (off : Word) (nb : Nat) (write : Bool), s.pg = false →
    let a := if write then Access.write else Access.read
    (memKeys g off nb write s =
      if s.rightsViolated g a then .error (.exc ⟨13, some 0⟩ false) s
      else if s.limitViolated g off nb then .error (.exc ⟨if g = .ss then 12 else 13, some 0⟩ false) s
      else match busTurn s with
        | .ok _ t => .ok (s.physKeys (s.linear g off) nb) (t.noteData (s.linear g off) nb write)
        | .error e t => .error e t) ∧
    (s.bus = [] → busTurn s = .ok () s)) ∧
  (∀ (s : State) (g : Seg) (off : Word) (nb : Nat) (a : Access), 0 < nb →
    let r := s.seg g
    let code := r.ar.getLsbD 3
    let down := s.prot && !code && r.ar.getLsbD 2
    let allowed (k : Nat) : Prop := if down then r.limit.toNat < k ∧ k ≤ (if r.ar.getLsbD 10 then 0xFFFFFFFF else 0xFFFF) else k ≤ r.limit.toNat
    let forbidden : Prop := match a with
      | .write => code = true ∨ r.ar.getLsbD 1 = false
      | .read => code = true ∧ r.ar.getLsbD 1 = false
      | .execute => False
    (s.limitViolated g off nb = true ↔ ∃ i, i < nb ∧ ¬ allowed (off.toNat + i)) ∧
    (s.rightsViolated g a = true ↔ s.prot = true ∧ (r.valid = false ∨ forbidden)))

/-- An access that succeeds leaves everything as it was but for memory, the TLB, the old bytes the queues may hold, the breakpoints noted,
what is to come on the bus, and the index of accesses; with paging off the TLB stays, and of the bytes the queues have read none is lost and
new ones, with paging on, are of the code that follows; its bytes are as many as asked for, within physical memory. Where no other bus master
writes, no memory changes with paging off, and with paging on none but the directory and table entries of the pages of its first and last
byte (their Accessed and Dirty bits: `PageWalk`), which alone may be old bytes the queues hold. An operand read is a register as it stands,
with no change, or the bytes of memory at its effective address (20_memory.md R220, R221; 30_encoding.md R534): the base, the index by its scale,
and the displacement, 8 bits of it sign-extended, with a sum of 16 or of 32 bits, in SS where the base is BP, EBP or ESP and in DS else, and in
the segment of an override in its place (R505, R530, R531). The effective address of an s-i-b byte with a scale and no index, undefined by R532,
is a free value (log entry 7). -/
def Obligations.OperandAccess : Prop :=
  (∀ (s t : State) (g : Seg) (off : Word) (nb : Nat) (write : Bool) (keys : List Nat),
    memKeys g off nb write s = .ok keys t →
    t = { s with mem := t.mem, stale := t.stale, queued := t.queued, tlb := t.tlb, pend := t.pend, bus := t.bus, accessIdx := t.accessIdx } ∧
    keys.length = nb ∧ (∀ k ∈ keys, k < memSize) ∧ (s.pg = false → t.tlb = s.tlb ∧ t.queued = s.queued) ∧
    s.queued <:+ t.queued ∧ (∀ c ∈ t.queued, c ∈ s.queued ∨ ∃ a ∈ s.queueWindow, c.1 = a.toNat) ∧
    (s.bus = [] → s.pg = false → t.mem = s.mem ∧ t.stale = s.stale) ∧
    (s.bus = [] → memWf s.mem → nb ≤ 4096 →
      let la := s.linear g off
      let entries := s.tableKeys la ++ s.tableKeys (la + BitVec.ofNat 32 (nb - 1))
      (∀ a, a ∉ entries → t.byte a = s.byte a) ∧ (∀ c ∈ t.stale, c ∈ s.stale ∨ c.1 ∈ entries))) ∧
  (∀ (s : State) (w : Width),
    (∀ r, readRM w (.reg r) s = .ok (s.reg w r) s) ∧
    (∀ x keys t, memKeys (s.ea x).1 (s.ea x).2 w.bytes false s = .ok keys t →
      readRM w (.mem x) s = .ok ((t.readKeys keys).setWidth w.bits) t)) ∧
  (∀ (s : State) (v : Half) (d32 : Word) (b : Reg) (i : Option Reg) (scale : BitVec 2) (d : Disp),
    let x := s.regs
    let disp : Word := match d with
      | .none => 0
      | .d8 k => k.signExtend 32
      | .full k => k
    let is (m : MemRef) (default : Seg) (off : Word) : Prop := s.ea m = (match s.pfx.seg with
      | some g => g
      | none => default, off)
    let is16 (b : Base16) (default : Seg) (base : Word) : Prop := is (.based16 b d) default ((base + disp) &&& 0xFFFF)
    let default : Seg := if b = .esp ∨ b = .ebp then .ss else .ds
    let indexed (off : Word) : Word := match i with
      | none => if scale = 0 then off else Config.undef s.freeIdx 8
      | some r => off + x.get r * BitVec.ofNat 32 (2 ^ scale.toNat)
    is (.direct16 v) .ds (v.setWidth 32) ∧ is16 .bxsi .ds (x.ebx + x.esi) ∧ is16 .bxdi .ds (x.ebx + x.edi) ∧
    is16 .bpsi .ss (x.ebp + x.esi) ∧ is16 .bpdi .ss (x.ebp + x.edi) ∧ is16 .si .ds x.esi ∧ is16 .di .ds x.edi ∧ is16 .bp .ss x.ebp ∧
    is16 .bx .ds x.ebx ∧ is (.direct32 d32) .ds d32 ∧ is (.based32 b d) default (x.get b + disp) ∧
    is (.sib b i scale d) default (indexed (x.get b + disp)) ∧ is (.sibNoBase i scale d32) .ds (indexed d32))

/-- A page walk that finds an entry not present, or one that does not permit the access, raises exception 14 with CR2 = the linear
address and P, W/R, U/S of the access in the low bits of the error code, and changes nothing else, but that the directory entry's
Accessed bit may be set where the table entry is not present (D19); one that succeeds answers the frame of the table entry with the
offset, sets Accessed in both entries in memory, and for a write Dirty in the table entry, and no other bit of them (both in the one entry
where the directory serves as the table), changes no other byte, and caches the page with the rights of both levels and the Dirty bit (R461, R465, R470, R476). No other bus master writes. A TLB entry
that agrees with the tables, both entries Accessed, is used: it answers its frame with the offset, or the page fault of its rights, and for
a write with D = 0 it is discarded and the tables are walked; with a stale entry the same is done or the tables are walked (R480), and
without an entry they are walked. The code bytes that the queues may have read through an entry that the TLB gives up stay in `queued`, from
which later instructions may still execute (R484). That each access draws what is open anew is the model's (log entry 4), and so is how far
the queues reach (log entry 23). -/
def Obligations.PageWalk : Prop :=
  (∀ (s : State) (la : Word) (write user : Bool), s.bus = [] →
    let pa := pdeAddr s.cr3 la
    let pde := s.pageEntry pa
    let pte := s.pageEntry (pteAddr pde la)
    let fails (p : Bool) (u : State) : Prop := walk la write user s =
      .error (.exc ⟨14, some (pageFaultCode s.freeIdx p write user)⟩ false) { u with cr2 := la }
    (entryP pde = false → fails false s) ∧
    (entryP pde = true → entryP pte = false → fails false s ∨ (entryA pde = false ∧ fails false (s.markEntry pa 0x20))) ∧
    (entryP pde = true → entryP pte = true →
      permits (entryUS pde && entryUS pte) (entryRW pde && entryRW pte) write user = false → fails true s) ∧
    (∀ p, (pageFaultCode s.freeIdx p write user).getLsbD 0 = p ∧
      (pageFaultCode s.freeIdx p write user).getLsbD 1 = write ∧ (pageFaultCode s.freeIdx p write user).getLsbD 2 = user)) ∧
  (∀ (s t : State) (la pa : Word) (write user : Bool), s.bus = [] → memWf s.mem → walk la write user s = .ok pa t →
    let pdePa := pdeAddr s.cr3 la
    let pde := s.pageEntry pdePa
    let ptePa := pteAddr pde la
    let pte := s.pageEntry ptePa
    let us := entryUS pde && entryUS pte
    let rw := entryRW pde && entryRW pte
    entryP pde = true ∧ entryP pte = true ∧ permits us rw write user = true ∧
    pa = pte.extractLsb' 12 20 ++ la.extractLsb' 0 12 ∧
    t.tlb.head? = some { vpn := pageOf la, frame := pte.extractLsb' 12 20, us := us, rw := rw, d := entryD pte || write } ∧
    entryA (t.pageEntry pdePa) = true ∧ entryA (t.pageEntry ptePa) = true ∧ (write = true → entryD (t.pageEntry ptePa) = true) ∧
    (let bits : Word := if write then 0x60 else 0x20
     if s.physKeys pdePa 4 = s.physKeys ptePa 4 then t.pageEntry pdePa = pde ||| (0x20 ||| bits) ∧ t.pageEntry ptePa = pte ||| (0x20 ||| bits)
     else t.pageEntry pdePa = pde ||| 0x20 ∧ t.pageEntry ptePa = pte ||| bits) ∧
    (entryA pde = true → entryA pte = true → (write = true → entryD pte = true) → t.mem = s.mem) ∧
    (∀ a, a ∉ s.tableKeys la → t.byte a = s.byte a)) ∧
  (∀ (s : State) (la : Word) (write user : Bool),
    let n : State := { s with accessIdx := s.accessIdx + 1 }
    let pde := s.pageEntry (pdeAddr s.cr3 la)
    let pte := s.pageEntry (pteAddr pde la)
    let others := s.tlb.filter fun x => x.vpn != pageOf la
    let used (e : TlbEntry) : EStateM.Result Stop State Word :=
      if permits e.us e.rw write user = false then
        .error (.exc ⟨14, some (pageFaultCode s.freeIdx true write user)⟩ false) { n with cr2 := la }
      else if write = true ∧ e.d = false then
        walk la write user { n with tlb := others, queued := (s.tlb.filter fun x => x.vpn == pageOf la).flatMap s.readThrough ++ s.queued }
      else .ok (e.frame ++ la.extractLsb' 0 12) n
    (s.tlb.find? (fun e => e.vpn == pageOf la) = none → translate la write user s = walk la write user n) ∧
    (∀ e, s.tlb.find? (fun e => e.vpn == pageOf la) = some e →
      (entryP pde = true → entryP pte = true → entryA pde = true → entryA pte = true →
        e = { vpn := pageOf la, frame := pte.extractLsb' 12 20, us := entryUS pde && entryUS pte, rw := entryRW pde && entryRW pte,
              d := entryD pte } → translate la write user s = used e) ∧
      (translate la write user s = used e ∨ translate la write user s = walk la write user n))) ∧
  (∀ (s t : State) (la pa : Word) (write user : Bool), translate la write user s = .ok pa t →
    ∀ e ∈ s.tlb, e ∉ t.tlb → permits e.us e.rw false s.user = true → ∀ a ∈ s.queueWindow, pageOf a = e.vpn →
      (a.toNat, s.byte (s.physKey (e.frame ++ a.extractLsb' 0 12))) ∈ t.queued)

/-! Data transfer (40_data_transfer.md). -/

/-- Loads of a general register: MOV from r/m, immediate and memory, MOVSX, MOVZX, LEA, XLAT (R603, R605, R606, R610, R611, R631;
44_string.md R813). Where the operand of MOV cannot be read, the exception met is taken, a page fault too, with nothing loaded
(60_exceptions.md R1051, R1057). A register of 32 bits is read and written whole, of 16 bits its low half, of 8 bits the byte 7 to 0 of EAX,
ECX, EDX, EBX for the codes 0 to 3 and the byte 15 to 8 of them for the codes 4 to 7; what was written is read, and no other bit of any register
changes (10_state.md R51, R52; 30_encoding.md R520). -/
def Obligations.RegisterLoads : Prop :=
  (∀ (s t : State) (w : Bool) (m : RM) (r : Reg), s.pfx.lock = false →
    (∀ v, readRM (s.width w) m s = .ok v t →
      exec (.movRegRm w m r) s = .next (t.setReg (s.width w) r v).advance.complete) ∧
    (∀ x keep, readRM (s.width w) m s = .error (.exc x keep) t → exec (.movRegRm w m r) s = takeException s t x keep ∧
      (keep = false → x.vector = 14 → takeException s t x keep =
        deliver { vector := 14, kind := .fault, code := x.code } s.eip (s.rollback t))) ∧
    (∀ imm, exec (.movRegImm w r imm) s =
      .next (s.setReg (s.width w) r (imm.setWidth (s.width w).bits)).advance.complete) ∧
    (∀ off v, memRead s.dataSeg off (s.width w).bytes s = .ok v t →
      exec (.movAccMem w off) s = .next (t.setReg (s.width w) .eax (v.setWidth (s.width w).bits)).advance.complete) ∧
    (∀ v, readRM (extendSource w) m s = .ok v t →
      exec (.movsx w m r) s = .next (t.setReg s.osz r (v.signExtend s.osz.bits)).advance.complete ∧
      exec (.movzx w m r) s = .next (t.setReg s.osz r (v.setWidth s.osz.bits)).advance.complete) ∧
    (∀ x, exec (.lea (.mem x) r) s = .next (s.setReg s.osz r ((s.ea x).2.setWidth s.osz.bits)).advance.complete) ∧
    (∀ v, memRead s.dataSeg (s.offsetAdd (s.addrReg .ebx) ((s.reg .b8 .eax).setWidth 32)) 1 s = .ok v t →
      exec .xlat s = .next (t.setReg .b8 .eax (v.setWidth 8)).advance.complete)) ∧
  (∀ (s : State) (w : Width) (r q : Reg) (v : BitVec w.bits) (k : Nat),
    let x := s.regs
    let high := w == .b8 && (r == .esp || r == .ebp || r == .esi || r == .edi)
    let home : Reg := if high then (if r = .esp then .eax else if r = .ebp then .ecx else if r = .esi then .edx else .ebx) else r
    let low := if high then 8 else 0
    s.reg w r = (x.get home).extractLsb' low w.bits ∧ (s.setReg w r v).reg w r = v ∧
    ((s.setReg w r v).regs.get q).getLsbD k =
      (if q = home ∧ low ≤ k ∧ k < low + w.bits then v.getLsbD (k - low) else (x.get q).getLsbD k) ∧
    s.setReg w r v = { s with regs := (s.setReg w r v).regs } ∧
    [Reg.eax, .ecx, .edx, .ebx, .esp, .ebp, .esi, .edi].map x.get = [x.eax, x.ecx, x.edx, x.ebx, x.esp, x.ebp, x.esi, x.edi])

/-- Stores of a register or an immediate, to a register or to the bytes at the effective address, of which no other byte changes (R602,
R604, R607); MOV from a segment register, SLDT, STR, SMSW store two bytes, or to a register 16 bits of it, or with operand size 32 all of
it, the upper half undefined (R609; 49_system.md R995 to R997); SLDT and STR need Protected Mode. -/
def Obligations.Stores : Prop :=
  (∀ (s t : State) (w : Bool) (r : Reg) (imm : Word) (keys : List Nat), s.pfx.lock = false →
    (∀ q, exec (.movRmReg w (.reg q) r) s = .next (s.setReg (s.width w) q (s.reg (s.width w) r)).advance.complete ∧
      exec (.movRmImm w (.reg q) imm) s =
        .next (s.setReg (s.width w) q (imm.setWidth (s.width w).bits)).advance.complete) ∧
    (∀ x, memKeys (s.ea x).1 (s.ea x).2 (s.width w).bytes true s = .ok keys t →
      exec (.movRmReg w (.mem x) r) s =
        .next (t.writeKeys keys ((s.reg (s.width w) r).setWidth 32)).advance.complete ∧
      exec (.movRmImm w (.mem x) imm) s =
        .next (t.writeKeys keys ((imm.setWidth (s.width w).bits).setWidth 32)).advance.complete) ∧
    (∀ off, memKeys s.dataSeg off (s.width w).bytes true s = .ok keys t →
      exec (.movMemAcc w off) s =
        .next (t.writeKeys keys ((s.reg (s.width w) .eax).setWidth 32)).advance.complete) ∧
    (∀ v a, a ∉ keys → (t.writeKeys keys v).advance.complete.byte a = t.byte a)) ∧
  (∀ (s : State) (g : Seg), s.pfx.lock = false →
    let stores (i : RM → Instr) (v : Half) : Prop :=
      (∀ q, exec (i (.reg q)) s =
        .next (if s.osz32 then s.setReg .b32 q (undefHigh s.freeIdx v) else s.setReg .b16 q v).advance.complete) ∧
      (∀ x keys t, memKeys (s.ea x).1 (s.ea x).2 2 true s = .ok keys t →
        exec (i (.mem x)) s = .next (t.writeKeys keys (v.setWidth 32)).advance.complete)
    stores (fun m => .movRmSeg m g) (s.seg g).sel ∧ stores .smsw (s.cr0.setWidth 16) ∧
    (s.decodedProt = true → stores .sldt s.ldtr.sel ∧ stores .str s.tr.sel))

/-- Loads of segment registers: MOV (never CS), POP, and the far pointer loads, in the modes and with the checks of `loadSeg`; MOV and
POP of SS hold off interrupts for one instruction (R608, R622, R623, R632 to R637). A far pointer in memory, here and in the far JMP and CALL
through memory, is read in two parts: an offset of osz/8 bytes at the effective address, then a selector of 2 bytes at the effective address
plus osz/8 (30_encoding.md R542; 46_control_transfer.md R864). That the second offset is taken modulo 2^asz is R864's for CALL; for the five
loads and for JMP it is the model's choice (log entry 37). -/
def Obligations.SegmentLoads : Prop :=
  (∀ (s t u : State), s.pfx.lock = false →
    (∀ m g sel, g ≠ Seg.cs → readRM .b16 m s = .ok sel t → loadSeg g sel t = .ok () u →
      exec (.movSegRm m g) s = .next (u.inhibitIf (g == .ss)).advance.complete) ∧
    (∀ v g, stackRead 0 s.osz.bytes s = .ok v t → loadSeg g (v.setWidth 16) t = .ok () u →
      let popped := ((u.dropStack (BitVec.ofNat 32 s.osz.bytes)).inhibitIf (g == .ss)).advance.complete
      (g = .es → exec .popEs s = .next popped) ∧ (g = .ss → exec .popSs s = .next popped) ∧
      (g = .ds → exec .popDs s = .next popped) ∧ (g = .fs → exec .popFs s = .next popped) ∧
      (g = .gs → exec .popGs s = .next popped)) ∧
    (∀ x r p g, farPointer x s = .ok p t → loadSeg g p.2 t = .ok () u →
      let loaded := (u.setReg u.osz r (p.1.setWidth u.osz.bits)).advance.complete
      (g = .ds → exec (.lds (.mem x) r) s = .next loaded) ∧ (g = .es → exec (.les (.mem x) r) s = .next loaded) ∧
      (g = .fs → exec (.lfs (.mem x) r) s = .next loaded) ∧ (g = .gs → exec (.lgs (.mem x) r) s = .next loaded) ∧
      (g = .ss → exec (.lss (.mem x) r) s = .next loaded))) ∧
  (∀ (s u : State) (x : MemRef) (off : Word) (sel : Half),
    let n : Word := BitVec.ofNat 32 s.osz.bytes
    let a := (s.ea x).2
    farPointer x s = .ok (off, sel) u ↔
      ∃ t image, memRead (s.ea x).1 a s.osz.bytes s = .ok off t ∧
        memRead (s.ea x).1 (if s.asz32 then a + n else low16 (a + n)) 2 t = .ok image u ∧ sel = image.setWidth 16)

/-- What `loadSeg` does: REAL mode sets the selector and the base and keeps the rest; Virtual 8086 mode sets limit FFFFH too; in
Protected Mode a null selector in a data segment register makes it invalid and raises nothing, and in SS raises `#GP(0)`; another is
loaded from its descriptor, whose Accessed bit is set. A data segment register needs a descriptor in its table that is readable and,
unless it is conforming code, has a DPL of at least CPL and RPL, else `#GP(sel)`, and that is present, else `#NP(sel)`; SS needs a
writable data segment with DPL and RPL equal to CPL, else `#GP(sel)`, that is present, else `#SS(sel)` (10_state.md R72; 21_protection.md
R340 to R342). A selector names the eight bytes at Index * 8 of the GDT, or with TI set of the LDT, and none where LDTR is not valid or the
limit is below Index * 8 + 7, read here with paging off and no other bus master (R306). Accessed is written where it is clear. -/
def Obligations.SegmentLoadByMode : Prop :=
  (∀ (s : State) (g : Seg) (sel : Half),
    (s.decodedProt = false → s.v86 = false → loadSeg g sel s = .ok () (s.setSeg g (realLoad (s.seg g) sel))) ∧
    (s.decodedProt = false → s.v86 = true → loadSeg g sel s = .ok () (s.setSeg g (v86Load sel))) ∧
    (s.decodedProt = true → selNull sel = true →
      loadSeg g sel s =
        if g = .ss then .error (.exc ⟨13, some 0⟩ false) s else .ok () (s.setSeg g { s.seg g with sel := sel, valid := false })) ∧
    (s.queuedMode = none → s.decodedProt = s.prot)) ∧
  (∀ (s t u : State) (g : Seg) (sel : Half) (d : Descriptor), s.decodedProt = true → selNull sel = false →
    let fails (v : Byte) : Prop := loadSeg g sel s = .error (.exc ⟨v, some (sel &&& 0xFFFC)⟩ false) t
    let data := arS d.ar && (!arE d.ar || arW d.ar) &&
      (d.conforming || (decide (t.cpl.toNat ≤ (arDpl d.ar).toNat) && decide ((rpl sel).toNat ≤ (arDpl d.ar).toNat)))
    let stack := d.isWritable && rpl sel == s.cpl && arDpl d.ar == s.cpl
    let fits := if g = .ss then stack else data
    (readDescriptor sel s = .ok none t → fails 13) ∧
    (readDescriptor sel s = .ok (some d) t →
      (fits = false → fails 13) ∧ (fits = true → arP d.ar = false → fails (if g = .ss then 12 else 11)) ∧
      (fits = true → arP d.ar = true → markAccessed sel d t = .ok () u → loadSeg g sel s = .ok () (u.setSeg g (d.toSegReg sel))))) ∧
  (∀ (s : State) (sel : Half), s.pg = false → s.bus = [] →
    let ldt := sel.getLsbD 2
    let base := if ldt then s.ldtr.base else s.gdtr.base
    let limit := if ldt then s.ldtr.limit.toNat else s.gdtr.limit.toNat
    let offset := sel.toNat / 8 * 8
    let la := base + BitVec.ofNat 32 offset
    readDescriptor sel s = .ok (if (ldt = true ∧ s.ldtr.valid = false) ∨ limit < offset + 7 then none
      else some { lo := s.readKeys (s.physKeys la 4), hi := s.readKeys (s.physKeys (la + 4) 4) }) s) ∧
  (∀ (s : State) (sel : Half) (d : Descriptor),
    markAccessed sel d s = if d.hi.getLsbD 8 then .ok () s else writeAccessByte sel 1 0 s)

/-- A push with paging off moves the stack pointer down by the size of the item, of 16 or 32 bits, and stores the item there; but for what
other bus masters do before it no other byte changes, nor another register or the upper half of a 16-bit stack pointer (R612). What the
pushes push: an operand, a register, an immediate, a selector (its upper half undefined at 32 bits), FLAGS with VM and RF as 0 where IOPL
permits, and all eight registers with the stack pointer as it was (R614 to R619; 41_flag_control.md R676). The default size is 32 bits where
D of CS is set in Protected Mode, and 16 elsewhere; the prefixes 66H and 67H turn the operand and the address size into the other one. The stack
pointer is ESP where B of SS is set in Protected Mode, SP where B is clear (30_encoding.md R510 to R513); REAL mode with B left set is open (log
entry 38). -/
def Obligations.PushInstructions : Prop :=
  (∀ (s t : State) (v : Word) (nb : Nat), s.pg = false → s.rightsViolated .ss .write = false →
    s.limitViolated .ss (stackSub s.ssz32 s.sp nb) nb = false → busTurn s = .ok () t →
    push v nb s = .ok () (t.pushed nb v) ∧
    (∀ a, a ∉ s.pushKeys nb → (t.pushed nb v).byte a = t.byte a) ∧
    (t.pushed nb v).sp = stackSub s.ssz32 s.sp nb ∧
    (∀ r, r ≠ Reg.esp → (t.pushed nb v).regs.get r = s.regs.get r) ∧
    (s.ssz32 = false → (t.pushed nb v).regs.esp.extractLsb' 16 16 = s.regs.esp.extractLsb' 16 16) ∧
    (s.bus = [] → t = s)) ∧
  (∀ (s t u : State), s.pfx.lock = false →
    let w := s.osz.bytes
    (∀ m v, readRM s.osz m s = .ok v t → push (v.setWidth 32) t.osz.bytes t = .ok () u →
      exec (.pushRm m) s = .next u.advance.complete) ∧
    (∀ r, push ((s.reg s.osz r).setWidth 32) w s = .ok () u → exec (.pushReg r) s = .next u.advance.complete) ∧
    (∀ s8 imm, push ((immValue s.osz s8 imm).setWidth 32) w s = .ok () u →
      exec (.pushImm s8 imm) s = .next u.advance.complete) ∧
    (∀ g, push (undefHigh s.freeIdx (s.seg g).sel) w s = .ok () u →
      exec (.pushSeg g) s = .next u.advance.complete ∧ (g = .fs → exec .pushFs s = .next u.advance.complete) ∧
      (g = .gs → exec .pushGs s = .next u.advance.complete)) ∧
    ((s.v86 = true → s.flags.iopl = 3) → push (s.flags.image &&& 0x00FCFFFF) w s = .ok () u →
      exec .pushf s = .next u.advance.complete) ∧
    (pushAll w [s.regs.eax, s.regs.ecx, s.regs.edx, s.regs.ebx, s.regs.esp, s.regs.ebp, s.regs.esi, s.regs.edi] s = .ok () u →
      exec .pusha s = .next u.advance.complete)) ∧
  (∀ (s : State) (sp : Word) (n : Nat),
    let wide := s.prot && s.cs.ar.getLsbD 10
    s.osz32 = (wide != s.pfx.opSize) ∧ s.asz32 = (wide != s.pfx.addrSize) ∧
    (s.osz = if s.osz32 then .b32 else .b16) ∧ s.width true = s.osz ∧ s.width false = .b8 ∧
    (s.prot = true → s.ssz32 = s.ss.ar.getLsbD 10) ∧ (s.ss.ar.getLsbD 10 = false → s.ssz32 = false) ∧
    (s.sp = if s.ssz32 then s.regs.esp else s.regs.esp &&& 0xFFFF) ∧
    (stackSub s.ssz32 sp n = if s.ssz32 then sp - BitVec.ofNat 32 n else (sp - BitVec.ofNat 32 n) &&& 0xFFFF))

/-- The pops: the stack pointer moves up before the destination is written, and before its address is computed; POPA loads (E)DI, (E)SI,
(E)BP, (E)BX, (E)DX, (E)CX, (E)AX from the items 0, 1, 2, 4, 5, 6, 7 above the stack top, upper halves unchanged at operand size 16, skips
the item of the stack pointer, and moves that up by eight items; POPF loads the flags that the level permits: IF only with CPL within IOPL,
IOPL only at CPL 0, both in REAL mode, never VM or RF, the other flags always (R613, R620, R621, R624; 41_flag_control.md R678). -/
def Obligations.PopInstructions : Prop :=
  ∀ (s t : State) (v : Word), s.pfx.lock = false → stackRead 0 s.osz.bytes s = .ok v t →
    let w := BitVec.ofNat 32 s.osz.bytes
    (∀ r, exec (.popReg r) s = .next ((t.dropStack w).setReg s.osz r (v.setWidth s.osz.bits)).advance.complete ∧
      exec (.popRm (.reg r)) s = .next ((t.dropStack w).setReg s.osz r (v.setWidth s.osz.bits)).advance.complete) ∧
    (∀ x keys u, memKeys ((t.dropStack w).ea x).1 ((t.dropStack w).ea x).2 s.osz.bytes true (t.dropStack w) = .ok keys u →
      exec (.popRm (.mem x)) s =
        .next (u.writeKeys keys ((v.setWidth s.osz.bits).setWidth 32)).advance.complete) ∧
    (∀ items u, stackItems s.osz.bytes 0 8 s = .ok items u →
      ∃ x, exec .popa s = .next { u with regs := x }.advance.complete ∧
        let y : State := { u with regs := x }
        let item (i : Nat) : BitVec s.osz.bits := (items.getD i 0).setWidth s.osz.bits
        items.length = 8 ∧ y.reg s.osz .edi = item 0 ∧ y.reg s.osz .esi = item 1 ∧ y.reg s.osz .ebp = item 2 ∧
        y.reg s.osz .ebx = item 4 ∧ y.reg s.osz .edx = item 5 ∧ y.reg s.osz .ecx = item 6 ∧ y.reg s.osz .eax = item 7 ∧
        y.sp = stackAdd u.ssz32 u.sp (BitVec.ofNat 32 (8 * s.osz.bytes)) ∧
        (s.osz32 = false → ∀ r, r ≠ Reg.esp → (x.get r).extractLsb' 16 16 = (u.regs.get r).extractLsb' 16 16) ∧
        (u.ssz32 = false → x.esp.extractLsb' 16 16 = u.regs.esp.extractLsb' 16 16)) ∧
    (∀ (n i k : Nat) (a b c : State) (x : Word) (xs : List Word), stackItems n i 0 a = .ok [] a ∧
      (stackRead (i * n) n a = .ok x b → stackItems n (i + 1) k b = .ok xs c → stackItems n i (k + 1) a = .ok (x :: xs) c)) ∧
    ((s.v86 = true → s.flags.iopl = 3) →
      exec .popf s = .next { (t.dropStack w).toNext with flags := t.loadFlags v false }.complete) ∧
    (let f := t.loadFlags v false
     f = { Flags.ofImage v with ifl := f.ifl, iopl := f.iopl, rf := t.flags.rf, vm := t.flags.vm } ∧
     (t.pe = false ∨ t.cpl.toNat ≤ t.flags.iopl.toNat → f.ifl = v.getLsbD 9) ∧
     (t.pe = true → t.flags.iopl.toNat < t.cpl.toNat → f.ifl = t.flags.ifl) ∧
     (t.pe = false ∨ (t.prot = true ∧ t.cpl = 0) → f.iopl = v.extractLsb' 12 2) ∧
     (t.v86 = true ∨ (t.prot = true ∧ t.cpl ≠ 0) → f.iopl = t.flags.iopl))

/-- XCHG exchanges a register with a register, or with the bytes of memory, checked for writing before they are read; it takes a LOCK
prefix with memory (R625, R626). -/
def Obligations.Exchanges : Prop :=
  ∀ (s t : State) (w : Bool) (r q : Reg) (keys : List Nat),
    (s.pfx.lock = false →
      exec (.xchgRmReg w (.reg q) r) s =
        .next ((s.setReg (s.width w) q (s.reg (s.width w) r)).setReg (s.width w) r (s.reg (s.width w) q)).advance.complete ∧
      exec (.xchgAccReg r) s =
        .next ((s.setReg s.osz .eax (s.reg s.osz r)).setReg s.osz r (s.reg s.osz .eax)).advance.complete) ∧
    (∀ x, memKeys (s.ea x).1 (s.ea x).2 (s.width w).bytes true s = .ok keys t →
      exec (.xchgRmReg w (.mem x) r) s =
        .next ((t.writeKeys keys ((s.reg (s.width w) r).setWidth 32)).setReg (s.width w) r
          ((t.readKeys keys).setWidth (s.width w).bits)).advance.complete)

/-- IN and OUT: where IOPL or the permission map allows it, the accumulator is loaded from the ports or its bytes are written to them
(R627 to R630; 20_memory.md R251; 21_protection.md R400); else the exception met is taken. In Virtual 8086 mode, or with CPL above IOPL,
the map of a 386 TSS decides, here with paging off and no other bus master: a TSS of another kind, a limit short of the map, or a bit that
is 1 raises `#GP(0)` (R402). A write of more than the data bus moves at once takes two or three bus cycles, between which RESET may come: a
word at an odd port as bytes, a dword as words, at an odd port as byte, word, byte (R251; 20_memory.md R232). That a read changes nothing and
a write is recorded in `ioOut` is the model's choice (log entry 11). -/
def Obligations.PortInputOutput : Prop :=
  ∀ (s t : State) (w : Bool), s.pfx.lock = false →
    let nb := (s.width w).bytes
    let moved (port : Half) (inp out : Instr) : Prop := ioPermitted port nb s = .ok () t →
      let v : Word := (s.reg (s.width w) .eax).setWidth 32
      (∀ u, busTurn t = .ok () u →
        exec inp s = .next (u.setReg (s.width w) .eax ((u.ioRead port nb).setWidth (s.width w).bits)).advance.complete) ∧
      (∀ u, portWrite port nb v t = .ok () u → exec out s = .next u.advance.complete) ∧
      (t.bus = [] → busTurn t = .ok () t ∧ portWrite port nb v t = .ok () (t.ioWrite port nb v))
    (∀ imm : Byte, moved (imm.setWidth 16) (.inImm w imm) (.outImm w imm)) ∧
    moved (s.regs.edx.setWidth 16) (.inDx w) (.outDx w) ∧
    (∀ port, s.pe = false ∨ (s.prot = true ∧ s.cpl.toNat ≤ s.flags.iopl.toNat) → ioPermitted port nb s = .ok () s) ∧
    (∀ x keep, (∀ imm : Byte, ioPermitted (imm.setWidth 16) nb s = .error (.exc x keep) t →
        exec (.inImm w imm) s = takeException s t x keep ∧ exec (.outImm w imm) s = takeException s t x keep) ∧
      (ioPermitted (s.regs.edx.setWidth 16) nb s = .error (.exc x keep) t →
        exec (.inDx w) s = takeException s t x keep ∧ exec (.outDx w) s = takeException s t x keep)) ∧
    (∀ port : Half, s.v86 = true ∨ (s.prot = true ∧ s.flags.iopl.toNat < s.cpl.toNat) → s.pg = false → s.bus = [] →
      let base := (s.readKeys (s.physKeys (s.tr.base + 0x66) 2)).toNat + port.toNat / 8
      let bits := (s.readKeys (s.physKeys (s.tr.base + BitVec.ofNat 32 base) 2)).toNat >>> (port.toNat % 8)
      ioPermitted port nb s =
        if s.tr.valid = true ∧ (arType s.tr.ar = 9 ∨ arType s.tr.ar = 11) ∧ 0x67 ≤ s.tr.limit.toNat ∧ base + 1 ≤ s.tr.limit.toNat ∧
          bits % 2 ^ nb = 0 then .ok () s
        else .error (.exc ⟨13, some 0⟩ false) s) ∧
    (∀ (port : Half) (v : Word) (a b c : State), busTurn t = .ok () a →
      (nb = 1 ∨ (nb = 2 ∧ port.getLsbD 0 = false) → portWrite port nb v t = .ok () (a.ioWrite port nb v)) ∧
      (nb = 2 → port.getLsbD 0 = true → cycleTurn (a.ioWrite port 1 v) = .ok () b →
        portWrite port nb v t = .ok () (b.ioWrite (port + 1) 1 (v >>> 8))) ∧
      (nb = 4 → port.getLsbD 0 = false → cycleTurn (a.ioWrite port 2 v) = .ok () b →
        portWrite port nb v t = .ok () (b.ioWrite (port + 2) 2 (v >>> 16))) ∧
      (nb = 4 → port.getLsbD 0 = true → cycleTurn (a.ioWrite port 1 v) = .ok () b →
        cycleTurn (b.ioWrite (port + 1) 2 (v >>> 8)) = .ok () c →
        portWrite port nb v t = .ok () (c.ioWrite (port + 1 + 2) 1 (v >>> 8 >>> 16))))

/-! Flag control (41_flag_control.md). -/

/-- CLC, STC, CMC, CLD, STD change one flag and nothing else but EIP (R670, R671, R674, R679, R680); LAHF puts SF, ZF, 0, AF, 0, PF, 1,
CF into AH; SAHF takes SF, ZF, AF, PF, CF from AH (R675, R677). -/
def Obligations.FlagInstructions : Prop :=
  (∀ (s : State), s.pfx.lock = false →
    exec .clc s = .next { s with flags := { s.flags with cf := false } }.advance.complete ∧
    exec .stc s = .next { s with flags := { s.flags with cf := true } }.advance.complete ∧
    exec .cmc s = .next { s with flags := { s.flags with cf := !s.flags.cf } }.advance.complete ∧
    exec .cld s = .next { s with flags := { s.flags with df := false } }.advance.complete ∧
    exec .std s = .next { s with flags := { s.flags with df := true } }.advance.complete) ∧
  (∀ (s : State), s.pfx.lock = false →
    exec .lahf s = .next (s.setReg .b8 .esp (BitVec.ofBool s.flags.sf ++ BitVec.ofBool s.flags.zf ++ (0 : BitVec 1) ++
      BitVec.ofBool s.flags.af ++ (0 : BitVec 1) ++ BitVec.ofBool s.flags.pf ++ (1 : BitVec 1) ++
      BitVec.ofBool s.flags.cf)).advance.complete ∧
    exec .sahf s = .next { s with flags := { s.flags with
      sf := s.regs.eax.getLsbD 15, zf := s.regs.eax.getLsbD 14, af := s.regs.eax.getLsbD 12, pf := s.regs.eax.getLsbD 10
      cf := s.regs.eax.getLsbD 8 } }.advance.complete)

/-- CLI and STI where CPL is within IOPL, STI holding off interrupts for one instruction where IF was 0; CLTS at CPL 0 (R672, R673,
R681). -/
def Obligations.InterruptFlagControl : Prop :=
  ∀ (s : State), s.pfx.lock = false →
    (s.pe = false ∨ s.cpl.toNat ≤ s.flags.iopl.toNat →
      exec .cli s = .next { s with flags := { s.flags with ifl := false } }.advance.complete ∧
      exec .sti s = .next { s with
        inhibit := s.inhibit || !s.flags.ifl, flags := { s.flags with ifl := true } }.advance.complete) ∧
    (s.pe = false ∨ (s.prot = true ∧ s.cpl = 0) →
      exec .clts s = .next { s with cr0 := s.cr0 &&& ~~~ 8 }.advance.complete)

/-! Arithmetic and logic (42_arithmetic.md, 43_logic.md). -/

/-- ADD, ADC, SUB, SBB, AND, OR, XOR: the destination takes the result and the flags are those of the operation, in every form: to a
register or memory operand from a register, an immediate (sign-extended with s = 1) or the accumulator form, and to a register from an
operand; but for what other bus masters write between the read and the write no other byte of memory changes (20_memory.md R237). An immediate
with s = 1 is the number that its low 8 bits are, else the immediate at the operand's width (30_encoding.md R524). The
operations are the sum and the difference, with CF taken in by ADC and SBB, with their flags (`FlagsOfAdditionAndSubtraction`), and the
bitwise AND, OR and XOR, which clear CF and OF, leave AF undefined and set SF, ZF and PF by the result (R701 to R707; 43_logic.md R771, R773,
R774). -/
def Obligations.ArithmeticAndLogicForms : Prop :=
  ∀ (s t : State) (w : Bool) (m : RM) (r q : Reg) (x : MemRef) (s8 : Bool) (imm : Word) (keys : List Nat),
    let W := s.width w
    let forms (op : AluOp) (rr : Bool → Bool → RM → Reg → Instr) (ri : Bool → Bool → RM → Word → Instr)
        (ai : Bool → Word → Instr) : Prop :=
      let by_ (b : BitVec W.bits) := fun a f => alu op f s.freeIdx a b
      (s.pfx.lock = false →
        exec (rr false w (.reg q) r) s = .next (s.updateReg W q (by_ (s.reg W r))).advance.complete ∧
        exec (ri s8 w (.reg q) imm) s = .next (s.updateReg W q (by_ (immValue W (s8 && w) imm))).advance.complete ∧
        exec (ai w imm) s = .next (s.updateReg W .eax (by_ (immValue W false imm))).advance.complete ∧
        (∀ b, readRM W m s = .ok b t → exec (rr true w m r) s = .next (t.updateReg W r (by_ b)).advance.complete)) ∧
      (memKeys (s.ea x).1 (s.ea x).2 W.bytes true s = .ok keys t →
        exec (rr false w (.mem x) r) s = .next (t.updateKeys W keys (by_ (s.reg W r))).advance.complete ∧
        exec (ri s8 w (.mem x) imm) s =
          .next (t.updateKeys W keys (by_ (immValue W (s8 && w) imm))).advance.complete)
    forms .add .addRmReg .addRmImm .addAccImm ∧ forms .adc .adcRmReg .adcRmImm .adcAccImm ∧
    forms .sub .subRmReg .subRmImm .subAccImm ∧ forms .sbb .sbbRmReg .sbbRmImm .sbbAccImm ∧
    forms .and .andRmReg .andRmImm .andAccImm ∧ forms .or .orRmReg .orRmImm .orAccImm ∧
    forms .xor .xorRmReg .xorRmImm .xorAccImm ∧
    (immValue W true imm).toInt = (imm.extractLsb' 0 8).toInt ∧ immValue W false imm = imm.setWidth W.bits ∧
    (∀ k a, a ∉ keys → (t.updateKeys W keys k).advance.complete.byte a = t.between.byte a) ∧ (t.bus = [] → t.between = t) ∧
    (∀ k, s.updateReg W q k = (let y := k (s.reg W q) s.flags
      { s.setReg W q y.1 with flags := y.2 }) ∧
      t.updateKeys W keys k = (let y := k ((t.readKeys keys).setWidth W.bits) t.flags
      { t.between.writeKeys keys (y.1.setWidth 32) with flags := y.2 })) ∧
    (∀ (f : Flags) (idx : Nat) (a b : BitVec W.bits),
      alu .add f idx a b = addFlags f a b false ∧ alu .adc f idx a b = addFlags f a b f.cf ∧
      alu .sub f idx a b = subFlags f a b false ∧ alu .sbb f idx a b = subFlags f a b f.cf ∧
      (alu .and f idx a b).1 = a &&& b ∧ (alu .or f idx a b).1 = a ||| b ∧ (alu .xor f idx a b).1 = a ^^^ b ∧
      ∀ op ∈ [AluOp.and, .or, .xor], (alu op f idx a b).2.bitwise f idx (alu op f idx a b).1)

/-- CMP and TEST write the flags of SUB and AND, and nothing else: those of the difference (`FlagsOfAdditionAndSubtraction`); and CF and OF
clear, AF undefined, SF, ZF and PF of the bitwise AND (R710; 43_logic.md R771, R772). -/
def Obligations.CompareAndTest : Prop :=
  ∀ (s t : State) (w : Bool) (m : RM) (r : Reg) (s8 : Bool) (imm : Word) (a : BitVec (s.width w).bits), s.pfx.lock = false →
    let W := s.width w
    let flagged (u : State) (f : Flags) : Host.Outcome State Fault Refusal := .next { u with flags := f }.advance.complete
    let minus (u : State) (x y : BitVec W.bits) := (alu .sub u.flags s.freeIdx x y).2
    let both (u : State) (x y : BitVec W.bits) := (alu .and u.flags s.freeIdx x y).2
    (readRM W m s = .ok a t →
      exec (.cmpRmReg false w m r) s = flagged t (minus t a (s.reg W r)) ∧
      exec (.cmpRmReg true w m r) s = flagged t (minus t (s.reg W r) a) ∧
      exec (.cmpRmImm s8 w m imm) s = flagged t (minus t a (immValue W (s8 && w) imm)) ∧
      exec (.testRmReg w m r) s = flagged t (both t a (s.reg W r)) ∧
      exec (.testRmImm w m imm) s = flagged t (both t a (immValue W false imm))) ∧
    exec (.cmpAccImm w imm) s = flagged s (minus s (s.reg W .eax) (immValue W false imm)) ∧
    exec (.testAccImm w imm) s = flagged s (both s (s.reg W .eax) (immValue W false imm)) ∧
    (∀ (u : State) (x y : BitVec W.bits), minus u x y = (subFlags u.flags x y false).2 ∧ (both u x y).bitwise u.flags s.freeIdx (x &&& y))

/-- INC, DEC, NEG, NOT on a register or on memory: INC and DEC add and subtract 1, with the flags of that but CF, which they keep, NEG
answers 0 - a with its flags, CF telling that a is not 0, NOT the complement with no flag; no other byte of memory
changes but for what other bus masters write between the read and the write (R704, R705, R708, R709, R711; 43_logic.md R775). -/
def Obligations.IncrementDecrementNegateNot : Prop :=
  ∀ (s t : State) (w : Bool) (q : Reg) (x : MemRef) (keys : List Nat),
    let W := s.width w
    let forms (i : RM → Instr) (k : BitVec W.bits → Flags → BitVec W.bits × Flags) : Prop :=
      (s.pfx.lock = false → exec (i (.reg q)) s = .next (s.updateReg W q k).advance.complete) ∧
      (memKeys (s.ea x).1 (s.ea x).2 W.bytes true s = .ok keys t →
        exec (i (.mem x)) s = .next (t.updateKeys W keys k).advance.complete)
    let keepCf {n : Nat} (f : Flags) (y : BitVec n × Flags) : BitVec n × Flags := (y.1, { y.2 with cf := f.cf })
    forms (.incRm w) (fun a f => keepCf f (alu .add f 0 a (BitVec.ofNat W.bits 1))) ∧
    forms (.decRm w) (fun a f => keepCf f (alu .sub f 0 a (BitVec.ofNat W.bits 1))) ∧
    forms (.negRm w) (fun a f => alu .sub f 0 0 a) ∧
    forms (.notRm w) (fun a f => (~~~ a, f)) ∧
    (s.pfx.lock = false →
      exec (.incReg q) s = .next (s.updateReg s.osz q fun a f => incFlags f a).advance.complete ∧
      exec (.decReg q) s = .next (s.updateReg s.osz q fun a f => decFlags f a).advance.complete) ∧
    (∀ k a, a ∉ keys → (t.updateKeys W keys k).advance.complete.byte a = t.between.byte a) ∧ (t.bus = [] → t.between = t) ∧
    (∀ (V : Width) (f : Flags) (a : BitVec V.bits),
      let one := BitVec.ofNat V.bits 1
      incFlags f a = keepCf f (addFlags f a one false) ∧ decFlags f a = keepCf f (subFlags f a one false) ∧
      alu .add f 0 a one = addFlags f a one false ∧ alu .sub f 0 a one = subFlags f a one false ∧
      alu .sub f 0 0 a = subFlags f 0 a false ∧ (subFlags f 0 a false).1 = -a ∧ ((subFlags f 0 a false).2.cf = true ↔ a ≠ 0))

/-- The flags of addition and subtraction say what the numbers do, at every width: CF that the unsigned result does not fit, OF that the
signed one does not, ZF, SF and PF what the result is, AF a carry or borrow at bit 3 (R700; 10_state.md R62). -/
def Obligations.FlagsOfAdditionAndSubtraction : Prop :=
  ∀ (w : Width) (f : Flags) (a b : BitVec w.bits) (c : Bool),
    let x := addFlags f a b c
    let y := subFlags f a b c
    x.1.toNat = (a.toNat + b.toNat + c.toNat) % 2 ^ w.bits ∧
    (x.2.cf = true ↔ 2 ^ w.bits ≤ a.toNat + b.toNat + c.toNat) ∧
    (x.2.off = true ↔ x.1.toInt ≠ a.toInt + b.toInt + c.toNat) ∧
    (x.2.af = true ↔ 16 ≤ a.toNat % 16 + b.toNat % 16 + c.toNat) ∧
    y.1.toInt = (a.toInt - b.toInt - c.toNat).bmod (2 ^ w.bits) ∧
    (y.2.cf = true ↔ (a.toNat : Int) - b.toNat - c.toNat < 0) ∧
    (y.2.off = true ↔ y.1.toInt ≠ a.toInt - b.toInt - c.toNat) ∧
    (y.2.af = true ↔ (a.toNat % 16 : Int) - (b.toNat % 16 : Nat) - c.toNat < 0) ∧
    (∀ r g, r = x.1 ∧ g = x.2 ∨ r = y.1 ∧ g = y.2 →
      g = { f with cf := g.cf, pf := g.pf, af := g.af, zf := g.zf, sf := g.sf, off := g.off } ∧
      (g.zf = true ↔ r.toNat = 0) ∧ (g.sf = true ↔ r.toInt < 0) ∧
      (g.pf = true ↔ ((List.range 8).countP fun i => r.getLsbD i) % 2 = 0))

/-- MUL and IMUL: the product goes to the accumulator pair or the register, CF and OF say that its upper half is significant; SF, ZF, AF,
PF are undefined (R716 to R719). The two halves are those of the exact product. -/
def Obligations.Multiplication : Prop :=
  (∀ (s t : State) (w : Bool) (m : RM) (b : BitVec (s.width w).bits), s.pfx.lock = false → readRM (s.width w) m s = .ok b t →
    let W := s.width w
    let a := t.reg W .eax
    exec (.mulRm w m) s =
      .next { t.setPair W (mulHi a b) (mulLo a b) with flags := mulFlags t.flags t.freeIdx (mulHi a b != 0) }.advance.complete ∧
    exec (.imulAcc w m) s =
      .next { t.setPair W (imulHi a b) (mulLo a b) with flags := mulFlags t.flags t.freeIdx (imulBig a b) }.advance.complete) ∧
  (∀ (s t : State) (m : RM) (r : Reg) (s8 : Bool) (imm : Word) (b : BitVec s.osz.bits), s.pfx.lock = false →
    readRM s.osz m s = .ok b t →
    let a := t.reg s.osz r
    let i := immValue s.osz s8 imm
    exec (.imulReg m r) s =
      .next { t.setReg s.osz r (mulLo a b) with flags := mulFlags t.flags t.freeIdx (imulBig a b) }.advance.complete ∧
    exec (.imulImm s8 m r imm) s =
      .next { t.setReg s.osz r (mulLo i b) with flags := mulFlags t.flags t.freeIdx (imulBig i b) }.advance.complete) ∧
  (∀ (w : Width) (a b : BitVec w.bits),
    (mulHi a b).toNat * 2 ^ w.bits + (mulLo a b).toNat = a.toNat * b.toNat ∧
    (imulHi a b).toInt * 2 ^ w.bits + (mulLo a b).toNat = a.toInt * b.toInt ∧
    (imulBig a b = true ↔ a.toInt * b.toInt < -(2 ^ (w.bits - 1)) ∨ 2 ^ (w.bits - 1) ≤ a.toInt * b.toInt))

/-- DIV and IDIV: the quotient goes to the accumulator and the remainder beside it, all six flags undefined; a divisor of 0 or a quotient
that does not fit raises exception 0 (R720, R721). The quotient is rounded toward zero and the remainder has the dividend's sign. -/
def Obligations.Division : Prop :=
  (∀ (s t : State) (w : Bool) (m : RM) (d : BitVec (s.width w).bits), s.pfx.lock = false → readRM (s.width w) m s = .ok d t →
    let W := s.width w
    let outcome (x : Option (BitVec W.bits × BitVec W.bits)) : Host.Outcome State Fault Refusal :=
      match x with
      | some (q, r) => .next { t.setPair W r q with flags := t.flags.undefAll t.freeIdx }.advance.complete
      | none => takeException s t ⟨0, none⟩ false
    exec (.divRm w m) s = outcome (divide (t.pair W) d) ∧ exec (.idivRm w m) s = outcome (idivide (t.pairInt W) d)) ∧
  (∀ (w : Width) (num : Nat) (d q r : BitVec w.bits),
    (divide num d = some (q, r) ↔ d.toNat ≠ 0 ∧ q.toNat = num / d.toNat ∧ r.toNat = num % d.toNat)) ∧
  (∀ (w : Width) (num : Int) (d q r : BitVec w.bits),
    (idivide num d = some (q, r) ↔ d.toInt ≠ 0 ∧ q.toInt = num.tdiv d.toInt ∧ r.toInt = num.tmod d.toInt))

/-- The decimal and ASCII adjustments, AAD, AAM, which raises exception 0 for a base of 0, and the sign conversions (R712 to R715, R722
to R725). DAA adds 6 to AL where its low digit is above 9 or AF is set, and 60H where AL was above 99H or CF was set, which is the new CF;
DAS subtracts them, and CF is also the borrow of the first subtraction. -/
def Obligations.DecimalAdjustAndConvert : Prop :=
  ∀ (s : State), s.pfx.lock = false →
    let al := s.reg .b8 .eax
    let ax := s.reg .b16 .eax
    let adjust := decide ((al &&& 0xF).toNat > 9) || s.flags.af
    let ascii (v : Half) : Host.Outcome State Fault Refusal :=
      .next { s.setReg .b16 .eax (v &&& 0xFF0F) with
        flags := { s.flags.undefOSZP s.freeIdx with af := adjust, cf := adjust } }.advance.complete
    let decimal (v : Byte) (c : Bool) : Host.Outcome State Fault Refusal :=
      .next { s.setReg .b8 .eax v with
        flags := { s.flags.ofResult v with af := adjust, cf := c, off := undefBit s.freeIdx 5 } }.advance.complete
    let pair (ah al : Byte) : Host.Outcome State Fault Refusal :=
      .next { s.setPair .b8 ah al with flags := (s.flags.ofResult al).undefOAC s.freeIdx }.advance.complete
    exec .aaa s = ascii (if adjust then ax + 0x0106 else ax) ∧ exec .aas s = ascii (if adjust then ax - 0x0106 else ax) ∧
    let high := decide (0x99 < al.toNat) || s.flags.cf
    exec .daa s = decimal (al + (if adjust then 6 else 0) + (if high then 0x60 else 0)) high ∧
    exec .das s = decimal (al - (if adjust then 6 else 0) - (if high then 0x60 else 0))
      (high || (adjust && (s.flags.cf || decide (al.toNat < 6)))) ∧
    (∀ base, exec (.aad base) s = pair 0 (al + s.reg .b8 .esp * base)) ∧
    (∀ base, base ≠ 0 → exec (.aam base) s = pair (al / base) (al % base)) ∧
    exec (.aam 0) s = deliver { vector := 0, kind := .fault, code := none } s.eip s ∧
    exec .cbw s = .next (if s.osz32 then s.setReg .b32 .eax (ax.signExtend 32)
      else s.setReg .b16 .eax (al.signExtend 16)).advance.complete ∧
    exec .cwd s = .next (s.setReg s.osz .edx
      (if (s.reg s.osz .eax).msb then BitVec.allOnes s.osz.bits else 0)).advance.complete

/-- The shifts and rotates, by 1, CL or an immediate, masked to five bits: with a count of 0 neither the operand nor a flag changes, else
the operand and the flags are those of the operation of that name (43_logic.md R760 to R767; what it computes: `ShiftResults`); SHLD and SHRD
the same (R769, R770). That a memory operand
is with a count of 0 checked for writing, with Dirty set, and to the breakpoints a read, is the model's reading (log entry 15; item
43-count0 of 93_implementation_defined.md). -/
def Obligations.ShiftInstructions : Prop :=
  ∀ (s : State) (w : Bool) (r : Reg), s.pfx.lock = false →
    let shifts (W : Width) (i : RM → Instr) (raw : Byte) (k : Nat → BitVec W.bits → Flags → BitVec W.bits × Flags) : Prop :=
      let c := maskedCount raw
      (∀ q, exec (i (.reg q)) s = .next (if c = 0 then s else s.updateReg W q (k c)).advance.complete) ∧
      (∀ x keys t, memKeys (s.ea x).1 (s.ea x).2 W.bytes true s = .ok keys t →
        c ≠ 0 → exec (i (.mem x)) s = .next (t.updateKeys W keys (k c)).advance.complete) ∧
      (∀ x keys t, s.rightsViolated (s.ea x).1 .write = false → s.limitViolated (s.ea x).1 (s.ea x).2 W.bytes = false →
        linKeys (s.linear (s.ea x).1 (s.ea x).2) W.bytes true s.user s = .ok keys t → c = 0 →
        exec (i (.mem x)) s = .next (t.noteData (s.linear (s.ea x).1 (s.ea x).2) W.bytes false).advance.complete)
    let group (op : ShiftOp) (one cl : Bool → RM → Instr) (imm : Bool → RM → Byte → Instr) : Prop :=
      let k (c : Nat) := fun (a : BitVec (s.width w).bits) (f : Flags) => shift op f s.freeIdx a c
      shifts (s.width w) (one w) 1 k ∧ shifts (s.width w) (cl w) (s.reg .b8 .ecx) k ∧
      ∀ n, shifts (s.width w) (fun m => imm w m n) n k
    let double (right : Bool) (cl : RM → Reg → Instr) (imm : RM → Reg → Byte → Instr) : Prop :=
      let k (c : Nat) := fun (a : BitVec s.osz.bits) (f : Flags) => doubleShift right f s.freeIdx a (s.reg s.osz r) c
      shifts s.osz (fun m => cl m r) (s.reg .b8 .ecx) k ∧ ∀ n, shifts s.osz (fun m => imm m r n) n k
    group .rol .rolOne .rolCl .rolImm ∧ group .ror .rorOne .rorCl .rorImm ∧ group .rcl .rclOne .rclCl .rclImm ∧
    group .rcr .rcrOne .rcrCl .rcrImm ∧ group .shl .shlOne .shlCl .shlImm ∧ group .shr .shrOne .shrCl .shrImm ∧
    group .sar .sarOne .sarCl .sarImm ∧ double false .shldCl .shldImm ∧ double true .shrdCl .shrdImm ∧
    (∀ (W : Width) (f : Flags) (idx c : Nat) (a : BitVec W.bits),
      shift .rol f idx a c = rol f idx a c ∧ shift .ror f idx a c = ror f idx a c ∧ shift .rcl f idx a c = rcl f idx a c ∧
      shift .rcr f idx a c = rcr f idx a c ∧ shift .shl f idx a c = shl f idx a c ∧ shift .shr f idx a c = shr f idx a c ∧
      shift .sar f idx a c = sar f idx a c) ∧
    (∀ raw : Byte, maskedCount raw = raw.toNat % 32)

/-- What the shift operations compute: SHL multiplies and SHR, SAR divide by the power of two, the last bit shifted out is in CF. ROL moves
bit i to bit i + c and ROR back, modulo the width, with the last bit moved around in CF; RCL and RCR do so modulo the width plus one with
CF above the operand. A rotate back by the same count restores the operand and, through the carry, CF too. OF of a count of 1 says whether
the sign changed; of SAR it is 0. SHLD and SHRD by at most the width shift the two operands as one, with the last bit shifted out of the
destination in CF, and OF of a count of 1 says whether its sign changed. The rotates change no other flag; the shifts set SF, ZF and PF by
the result and leave AF undefined (43_logic.md R761 to R767, R769, R770). -/
def Obligations.ShiftResults : Prop :=
  ∀ (w : Width) (f : Flags) (idx c : Nat) (a : BitVec w.bits), 0 < c → c ≤ 31 →
    (shl f idx a c).1.toNat = a.toNat * 2 ^ c % 2 ^ w.bits ∧
    (shr f idx a c).1.toNat = a.toNat / 2 ^ c ∧
    (sar f idx a c).1.toInt = a.toInt / 2 ^ c ∧
    (c ≤ w.bits → (shl f idx a c).2.cf = a.getLsbD (w.bits - c) ∧ (shr f idx a c).2.cf = a.getLsbD (c - 1) ∧
      (sar f idx a c).2.cf = a.getLsbD (c - 1)) ∧
    (∀ g, (ror g idx (rol f idx a c).1 c).1 = a) ∧
    (rcr (rcl f idx a c).2 idx (rcl f idx a c).1 c).1 = a ∧
    (rcr (rcl f idx a c).2 idx (rcl f idx a c).1 c).2.cf = f.cf ∧
    (let around (x : BitVec w.bits × Flags) (i : Nat) : Bool := if i = w.bits then x.2.cf else x.1.getLsbD i
     (∀ i, i < w.bits → (rol f idx a c).1.getLsbD ((i + c) % w.bits) = a.getLsbD i ∧
       (ror f idx a c).1.getLsbD i = a.getLsbD ((i + c) % w.bits)) ∧
     (rol f idx a c).2.cf = (rol f idx a c).1.getLsbD 0 ∧ (ror f idx a c).2.cf = (ror f idx a c).1.msb ∧
     (∀ i, i ≤ w.bits → around (rcl f idx a c) ((i + c) % (w.bits + 1)) = around (a, f) i ∧
       around (rcr f idx a c) i = around (a, f) ((i + c) % (w.bits + 1)))) ∧
    (c = 1 → (shl f idx a c).2.off = ((shl f idx a c).1.msb ^^ a.msb) ∧ (shr f idx a c).2.off = a.msb ∧
      (sar f idx a c).2.off = false ∧ (rol f idx a c).2.off = ((rol f idx a c).1.msb ^^ a.msb) ∧
      (ror f idx a c).2.off = ((ror f idx a c).1.msb ^^ a.msb) ∧ (rcl f idx a c).2.off = ((rcl f idx a c).1.msb ^^ a.msb) ∧
      (rcr f idx a c).2.off = ((rcr f idx a c).1.msb ^^ a.msb)) ∧
    (∀ x ∈ [rol f idx a c, ror f idx a c, rcl f idx a c, rcr f idx a c], x.2 = { f with cf := x.2.cf, off := x.2.off }) ∧
    (∀ x ∈ [shl f idx a c, shr f idx a c, sar f idx a c], x.2.shifted f idx x.1) ∧
    (w.bits < c → (sar f idx a c).2.cf = a.msb) ∧
    (∀ b : BitVec w.bits, c ≤ w.bits →
      let left := doubleShift false f idx a b c
      let right := doubleShift true f idx a b c
      left.1 = ((a ++ b) <<< c).extractLsb' w.bits w.bits ∧ right.1 = ((b ++ a) >>> c).extractLsb' 0 w.bits ∧
      left.2.cf = a.getLsbD (w.bits - c) ∧ right.2.cf = a.getLsbD (c - 1) ∧
      ∀ x ∈ [left, right], x.2.shifted f idx x.1 ∧ (c = 1 → x.2.off = (x.1.msb ^^ a.msb)))

/-! Bit instructions (45_bit.md). -/

/-- BSF and BSR: the register takes the index of the least or greatest bit that is 1, or, of an operand 0, an undefined value with
ZF = 1 (R841, R842). BT, BTC, BTR, BTS: the selected bit goes to CF, ZF stays, the other four flags are undefined, and the bit is kept,
complemented, reset or set, the other bits stay; an
immediate offset is taken within the operand, a register offset moves the address of a memory operand by whole operands, rounded down
(R843 to R847); other bus masters may write between the read and the write (20_memory.md R237). -/
def Obligations.BitInstructions : Prop :=
  ((∀ (s t : State) (m : RM) (r : Reg) (v : BitVec s.osz.bits), s.pfx.lock = false → readRM s.osz m s = .ok v t →
    let result (x : Option Nat) : Host.Outcome State Fault Refusal :=
      .next { t.setReg s.osz r (match x with
          | some i => BitVec.ofNat s.osz.bits i
          | none => (Config.undef t.freeIdx 6).setWidth s.osz.bits) with
        flags := { t.flags.undefCOSAP t.freeIdx with zf := v == 0 } }.advance.complete
    exec (.bsf m r) s = result (lowestBit v) ∧ exec (.bsr m r) s = result (highestBit v)) ∧
  (∀ (w : Width) (v : BitVec w.bits) (i : Nat),
    (lowestBit v = some i ↔ v.getLsbD i = true ∧ ∀ j, j < i → v.getLsbD j = false) ∧
    (highestBit v = some i ↔ v.getLsbD i = true ∧ ∀ j, i < j → v.getLsbD j = false) ∧
    (lowestBit v = none ↔ v = 0) ∧ (highestBit v = none ↔ v = 0))) ∧
  ((∀ (s t : State) (q r : Reg) (x : MemRef) (imm : Byte) (keys : List Nat),
    let W := s.osz
    let after (op : BitOp) (i : Nat) : State :=
      let v : BitVec W.bits := (t.readKeys keys).setWidth W.bits
      { (if op = .test then t else t.between.writeKeys keys ((op.apply v i).setWidth 32)) with flags := bitFlags t.flags t.freeIdx v i }
    let forms (op : BitOp) (ri : RM → Byte → Instr) (rr : RM → Reg → Instr) : Prop :=
      (s.pfx.lock = false →
        exec (ri (.reg q) imm) s = .next (s.bitReg op W q (imm.toNat % W.bits)).advance.complete ∧
        exec (rr (.reg q) r) s = .next (s.bitReg op W q ((s.reg W r).toNat % W.bits)).advance.complete) ∧
      ((op = .test → s.pfx.lock = false) →
        (memKeys (s.ea x).1 (s.ea x).2 W.bytes (op != .test) s = .ok keys t →
          exec (ri (.mem x) imm) s = .next (after op (imm.toNat % W.bits)).advance.complete) ∧
        (memKeys (s.bitAddress W x (s.reg W r)).1 (s.bitAddress W x (s.reg W r)).2 W.bytes (op != .test) s = .ok keys t →
          exec (rr (.mem x) r) s = .next (after op ((s.reg W r).toNat % W.bits)).advance.complete))
    forms .test .btRmImm .btRmReg ∧ forms .complement .btcRmImm .btcRmReg ∧ forms .reset .btrRmImm .btrRmReg ∧
    forms .set .btsRmImm .btsRmReg ∧
    (∀ (op : BitOp) (i : Nat), s.bitReg op W q i =
      { s.setReg W q (op.apply (s.reg W q) i) with flags := bitFlags s.flags s.freeIdx (s.reg W q) i })) ∧
  (∀ (f : Flags) (idx n i : Nat) (v : BitVec n),
    let g := bitFlags f idx v i
    g.cf = v.getLsbD i ∧ g.zf = f.zf ∧ g.pf = undefBit idx 1 ∧ g.af = undefBit idx 2 ∧ g.sf = undefBit idx 4 ∧ g.off = undefBit idx 5 ∧
    g = { f with cf := g.cf, pf := g.pf, af := g.af, sf := g.sf, off := g.off }) ∧
  (∀ (w : Width) (v : BitVec w.bits) (i j : Nat), i < w.bits → j < w.bits →
    BitOp.test.apply v i = v ∧
    (BitOp.complement.apply v i).getLsbD j = (if j = i then !v.getLsbD i else v.getLsbD j) ∧
    (BitOp.reset.apply v i).getLsbD j = (if j = i then false else v.getLsbD j) ∧
    (BitOp.set.apply v i).getLsbD j = (if j = i then true else v.getLsbD j)) ∧
  (∀ (w : Width) (off : BitVec w.bits), 0 ≤ off.toInt - 8 * (bitDistance w off).toInt ∧
    off.toInt - 8 * (bitDistance w off).toInt < w.bits ∧
    off.toInt - 8 * (bitDistance w off).toInt = (off.toNat % w.bits : Nat)))

/-! String instructions (44_string.md). -/

/-- What one element of each string instruction does: the source at (E)SI in DS or the override segment, the destination at (E)DI in ES,
the index registers moved by the element size, down where DF is set (R800, R804 to R812). That a port read changes nothing and a write is
recorded in `ioOut` is the model's choice (log entry 11), and so is the order of the two accesses of an element (log entry 21). -/
def Obligations.StringElements : Prop :=
  ∀ (s t u : State) (w : Width) (a b : Word) (keys : List Nat),
    let moved (x : State) (r : Reg) : State :=
      x.setAddrReg r (if x.flags.df then x.addrReg r - BitVec.ofNat 32 w.bytes else x.addrReg r + BitVec.ofNat 32 w.bytes)
    let port : Half := s.regs.edx.setWidth 16
    (memRead s.dataSeg (s.addrReg .esi) w.bytes s = .ok a t →
      lodsElement w s = .ok () (moved (t.setReg w .eax (a.setWidth w.bits)) .esi) ∧
      (memKeys .es (t.addrReg .edi) w.bytes true t = .ok keys u →
        movsElement w s = .ok () (moved (moved (u.writeKeys keys ((a.setWidth w.bits).setWidth 32)) .esi) .edi)) ∧
      (memRead .es (t.addrReg .edi) w.bytes t = .ok b u →
        cmpsElement w s = .ok () (moved (moved { u with
          flags := (alu .sub u.flags 0 (a.setWidth w.bits) (b.setWidth w.bits)).2 } .esi) .edi))) ∧
    (memRead .es (s.addrReg .edi) w.bytes s = .ok b t →
      scasElement w s = .ok () (moved { t with
        flags := (alu .sub t.flags 0 (t.reg w .eax) (b.setWidth w.bits)).2 } .edi)) ∧
    (memKeys .es (s.addrReg .edi) w.bytes true s = .ok keys t →
      stosElement w s = .ok () (moved (t.writeKeys keys ((s.reg w .eax).setWidth 32)) .edi)) ∧
    (ioPermitted port w.bytes s = .ok () t → ∀ x,
      (memKeys .es (s.addrReg .edi) w.bytes true t = .ok keys u → busTurn u = .ok () x →
        insElement w s = .ok () (moved (x.writeKeys keys (x.ioRead port w.bytes)) .edi)) ∧
      (let v : Word := (a.setWidth w.bits).setWidth 32
       memRead t.dataSeg (t.addrReg .esi) w.bytes t = .ok a u →
        (portWrite port w.bytes v u = .ok () x → outsElement w s = .ok () (moved x .esi)) ∧
        (u.bus = [] → portWrite port w.bytes v u = .ok () (u.ioWrite port w.bytes v))))

/-- Without a repeat prefix a string instruction is one element. With one, a count of 0 ends it with no effect; else one element is
done and the count in (E)CX goes down, and EIP moves on where the count reaches 0 or, for CMPS and SCAS, ZF says so; else EIP stays for
the next iteration (R801 to R803). That the inhibit in force at the beginning of the instruction stays in force over its iterations is the
model's reading of 10_state.md R144 and of 60_exceptions.md R1080 and R1086 (log entry 32), not a rule's own words. -/
def Obligations.StringInstructions : Prop :=
  ∀ (s t : State) (w : Bool), s.pfx.lock = false →
    let cx := s.addrReg .ecx
    let ends (stop : Bool) (i : Instr) (element : M Unit) : Prop :=
      (cx = 0 → exec i s = .next s.advance.complete) ∧
      (cx ≠ 0 → element s = .ok () t →
        let u := t.setAddrReg .ecx (cx - 1)
        exec i s = .next (if cx = 1 ∨ stop = true then u.advance.complete
          else { u with inhibit := u.inhibit || u.held }.complete))
    let single (i : Instr) (element : M Unit) : Prop := element s = .ok () t → exec i s = .next t.advance.complete
    let W := s.width w
    single (.movs w) (movsElement W) ∧ single (.lods w) (lodsElement W) ∧ single (.stos w) (stosElement W) ∧
    single (.cmps w) (cmpsElement W) ∧ single (.scas w) (scasElement W) ∧ single (.ins w) (insElement W) ∧
    single (.outs w) (outsElement W) ∧
    ends false (.repMovs w) (movsElement W) ∧ ends false (.repLods w) (lodsElement W) ∧ ends false (.repStos w) (stosElement W) ∧
    ends false (.repIns w) (insElement W) ∧ ends false (.repOuts w) (outsElement W) ∧
    ends (!t.flags.zf) (.repeCmps w) (cmpsElement W) ∧ ends t.flags.zf (.repneCmps w) (cmpsElement W) ∧
    ends (!t.flags.zf) (.repeScas w) (scasElement W) ∧ ends t.flags.zf (.repneScas w) (scasElement W)

/-! Control transfer (46_control_transfer.md). -/

/-- Near jumps, calls and returns to a target within the limit of CS: EIP takes the target, which for a displacement, of 8 bits or full, is
`EIP_next` and the displacement, sign-extended, and 16 bits of the sum at operand size 16 (R860; 30_encoding.md R541); CALL
pushes the address of the next instruction first; RET pops its target, and more bytes where it says so. A target beyond the limit raises
`#GP(0)` with nothing done: JMP, CALL, also through an operand, RET, each Jcc, JCXZ and loop that is taken (R860 to R862, R866 to R868, R872,
R873, R877 to R883). -/
def Obligations.NearTransfers : Prop :=
  (∀ (s t u : State), s.pfx.lock = false →
    let cut (a : Word) : Word := if s.osz32 then a else a &&& 0xFFFF
    let target8 (d : Byte) : Word := cut (s.eipNext + d.signExtend 32)
    let target (d : Word) : Word := cut (s.eipNext + if s.osz32 then d else (d.setWidth 16).signExtend 32)
    let within (x : State) (a : Word) : Prop := a.toNat ≤ x.cs.limit.toNat
    let room (x : State) : Prop := x.ss.hasRoom x.sp 1 x.osz.bytes x.prot = true
    let called (x : State) (a : Word) : Prop := room x ∧ within x a ∧ push x.eipNext x.osz.bytes x = .ok () u
    let gp (x : State) : Host.Outcome State Fault Refusal :=
      deliver { vector := 13, kind := .fault, code := some 0 } s.eip (s.rollback x)
    (∀ rel, within s (target8 rel) → exec (.jmpShort rel) s = .next (s.jump (target8 rel)).complete) ∧
    (∀ rel, (within s (target rel) → exec (.jmpRel rel) s = .next (s.jump (target rel)).complete) ∧
      (called s (target rel) → exec (.callRel rel) s = .next (u.jump (target rel)).complete)) ∧
    (∀ m v, readRM s.osz m s = .ok v t →
      (within t (v.setWidth 32) → exec (.jmpRm m) s = .next (t.jump (v.setWidth 32)).complete) ∧
      (called t (v.setWidth 32) → exec (.callRm m) s = .next (u.jump (v.setWidth 32)).complete) ∧
      (¬ within t (v.setWidth 32) → exec (.jmpRm m) s = gp t ∧ (room t → exec (.callRm m) s = gp t))) ∧
    (∀ v, s.limitViolated .ss s.sp s.osz.bytes = false → stackRead 0 s.osz.bytes s = .ok v t →
      (within t v → exec .ret s = .next ((t.dropStack (BitVec.ofNat 32 s.osz.bytes)).jump v).complete ∧
        ∀ imm : Half, exec (.retImm imm) s =
          .next ((t.dropStack (BitVec.ofNat 32 s.osz.bytes + imm.setWidth 32)).jump v).complete) ∧
      (¬ within t v → exec .ret s = gp t ∧ ∀ imm : Half, exec (.retImm imm) s = gp t))) ∧
  (∀ (s : State) (r8 : Byte) (rel : Word), s.pfx.lock = false →
    let cut (a : Word) : Word := if s.osz32 then a else a &&& 0xFFFF
    let target8 (d : Byte) : Word := cut (s.eipNext + d.signExtend 32)
    let target (d : Word) : Word := cut (s.eipNext + if s.osz32 then d else (d.setWidth 16).signExtend 32)
    let gp := deliver { vector := 13, kind := .fault, code := some 0 } s.eip s
    let cx := s.addrReg .ecx
    (s.cs.limit.toNat < (target8 r8).toNat → exec (.jmpShort r8) s = gp ∧
      (∀ tttn, tttn < 16 → s.flags.cond tttn = true → exec (Sys2Proof.shortJump tttn r8) s = gp) ∧
      (cx = 0 → exec (.jcxz r8) s = gp) ∧
      (cx ≠ 1 → exec (.loop r8) s = gp ∧ (s.flags.zf = true → exec (.loopz r8) s = gp) ∧
        (s.flags.zf = false → exec (.loopnz r8) s = gp))) ∧
    (s.cs.limit.toNat < (target rel).toNat → exec (.jmpRel rel) s = gp ∧
      (∀ tttn, tttn < 16 → s.flags.cond tttn = true → exec (Sys2Proof.nearJump tttn rel) s = gp) ∧
      (s.ss.hasRoom s.sp 1 s.osz.bytes s.prot = true → exec (.callRel rel) s = gp)))

/-- The conditional jumps: taken where the condition on the flags holds, with a target within the limit of CS, the sum of `EIP_next`
and the displacement as in `NearTransfers` (R860; 30_encoding.md R541); not taken otherwise (R877 to R879; 30_encoding.md R525). JCXZ, LOOP, LOOPZ, LOOPNZ, with a target within the limit where they jump: the count is (E)CX by the address
size; LOOP decrements it and changes no flag (R880 to R883). -/
def Obligations.ConditionalAndCountedJumps : Prop :=
  (∀ (s : State) (r8 : Byte) (rel : Word), s.pfx.lock = false →
    let cut (a : Word) : Word := if s.osz32 then a else a &&& 0xFFFF
    let target8 (d : Byte) : Word := cut (s.eipNext + d.signExtend 32)
    let target (d : Word) : Word := cut (s.eipNext + if s.osz32 then d else (d.setWidth 16).signExtend 32)
    let f := s.flags
    let jumps (c : Bool) (short near : Instr) : Prop :=
      ((c = true → (target8 r8).toNat ≤ s.cs.limit.toNat) →
        exec short s = .next (if c then s.jump (target8 r8) else s.advance).complete) ∧
      ((c = true → (target rel).toNat ≤ s.cs.limit.toNat) →
        exec near s = .next (if c then s.jump (target rel) else s.advance).complete)
    jumps f.off (.joShort r8) (.joNear rel) ∧ jumps (!f.off) (.jnoShort r8) (.jnoNear rel) ∧
    jumps f.cf (.jbShort r8) (.jbNear rel) ∧ jumps (!f.cf) (.jnbShort r8) (.jnbNear rel) ∧
    jumps f.zf (.jeShort r8) (.jeNear rel) ∧ jumps (!f.zf) (.jneShort r8) (.jneNear rel) ∧
    jumps (f.cf || f.zf) (.jbeShort r8) (.jbeNear rel) ∧ jumps (!f.cf && !f.zf) (.jnbeShort r8) (.jnbeNear rel) ∧
    jumps f.sf (.jsShort r8) (.jsNear rel) ∧ jumps (!f.sf) (.jnsShort r8) (.jnsNear rel) ∧
    jumps f.pf (.jpShort r8) (.jpNear rel) ∧ jumps (!f.pf) (.jnpShort r8) (.jnpNear rel) ∧
    jumps (f.sf != f.off) (.jlShort r8) (.jlNear rel) ∧ jumps (f.sf == f.off) (.jnlShort r8) (.jnlNear rel) ∧
    jumps (f.zf || f.sf != f.off) (.jleShort r8) (.jleNear rel) ∧
    jumps (!f.zf && f.sf == f.off) (.jnleShort r8) (.jnleNear rel)) ∧
  (∀ (s : State) (rel : Byte), s.pfx.lock = false →
    let cx := s.addrReg .ecx
    let sum := s.eipNext + rel.signExtend 32
    let target := if s.osz32 then sum else sum &&& 0xFFFF
    let within : Prop := target.toNat ≤ s.cs.limit.toNat
    let loops (c : Bool) (i : Instr) : Prop :=
      let u := s.setAddrReg .ecx (cx - 1)
      (c = true → cx ≠ 1 → within) → exec i s = .next (if c = true ∧ cx ≠ 1 then u.jump target else u.advance).complete
    ((cx = 0 → within) → exec (.jcxz rel) s = .next (if cx = 0 then s.jump target else s.advance).complete) ∧
    loops true (.loop rel) ∧ loops s.flags.zf (.loopz rel) ∧ loops (!s.flags.zf) (.loopnz rel))

/-- Far jumps, calls and returns in REAL and Virtual 8086 mode, and calls and returns in Protected Mode that were decoded before it was set, by
the draw of log entry 23 (70_reset_and_hazards.md R1221): CS takes the selector with its base, EIP the offset; CALL pushes CS and
the address of the next instruction; RET pops them (R863 to R865, R869 to R871, R874 to R876). In Protected Mode, to present code that the
current level may enter, within its limit: CS takes the descriptor, its Accessed bit set, and the selector with CPL as its RPL, EIP the
offset, 16 bits of it at operand size 16, and the level stays; direct and through memory, and by a RET whose selector has RPL = CPL (21_protection.md R351, R352, R370, R371).
The upper half of a 32-bit CS item is zero there: the model's choice (log entry 30). Where the pushes of a CALL stand between the read of the
descriptor and the write of its Accessed bit, which is one locked sequence (R343), the statement has no other bus master. A far RET to an
outer level is the return `returnOuter`, and a transfer to a call gate is `throughGate`; what they do, `LevelChangesByGateAndReturn` says. A
JMP or CALL to an available TSS in the GDT, or to a task gate, that is present and whose DPL is at least CPL and the selector's RPL, is the
task switch, of the kind of the transfer, to that TSS, or to the present, available TSS that the gate names, whose own DPL is not looked at
(R385, R386). It saves the address of the next instruction and EFLAGS; what it does, `TaskSwitchState` says. The two reads of a pointer in
memory, `farPointer`, are in `SegmentLoads`. -/
def Obligations.FarTransfers : Prop :=
  (∀ (s : State) (old : Bool), s.transferProt = (s.prot && s.decodedProt) ∧ (s.queuedMode = none → s.decodedProt = s.prot) ∧
    (s.queuedMode = some old → s.decodedProt = old ∨ s.decodedProt = s.prot)) ∧
  (∀ (s t u : State), s.pfx.lock = false →
    let into (x : State) (sel : Half) (off : Word) : Host.Outcome State Fault Refusal :=
      .next ((x.setSeg .cs (if x.v86 then v86Load sel else realLoad x.cs sel)).jump off).complete
    let called (x : State) (off : Word) : Prop :=
      x.ss.hasRoom x.sp 2 x.osz.bytes x.prot = true ∧ off.toNat ≤ x.cs.limit.toNat ∧
        pushReturn (undefHigh x.freeIdx x.cs.sel) x.osz.bytes x = .ok () u
    (∀ sel off, (s.prot = false → off.toNat ≤ s.cs.limit.toNat → exec (.jmpFar off sel) s = into s sel off) ∧
      (s.transferProt = false → called s off → exec (.callFar off sel) s = into u sel off)) ∧
    (∀ x off sel, farPointer x s = .ok (off, sel) t →
      (s.prot = false → off.toNat ≤ t.cs.limit.toNat → exec (.jmpFarMem (.mem x)) s = into t sel off) ∧
      (s.transferProt = false → called t off → exec (.callFarMem (.mem x)) s = into u sel off)) ∧
    (∀ off csImage, s.transferProt = false → s.limitViolated .ss s.sp (2 * s.osz.bytes) = false → stackRead 0 s.osz.bytes s = .ok off t →
      stackRead s.osz.bytes s.osz.bytes t = .ok csImage u → off.toNat ≤ u.cs.limit.toNat →
      exec .retf s = into (u.dropStack (BitVec.ofNat 32 (2 * s.osz.bytes))) (csImage.setWidth 16) off ∧
      ∀ imm : Half, exec (.retfImm imm) s =
        into (u.dropStack (BitVec.ofNat 32 (2 * s.osz.bytes) + imm.setWidth 32)) (csImage.setWidth 16) off)) ∧
  (∀ (s r t : State) (sel : Half) (off : Word) (d : Descriptor), s.pfx.lock = false → r.prot = true → selNull sel = false →
    readDescriptor sel r = .ok (some d) t → r.entersCode sel d →
    let target := if r.osz32 then off else off &&& 0xFFFF
    target.toNat ≤ d.limit.toNat →
    let jumps (i : Instr) : Prop := ∀ u, markAccessed sel d t = .ok () u →
      exec i s = .next ((u.withCode sel d r.cpl).jump target).complete
    let calls (i : Instr) : Prop := ∀ p u, r.transferProt = true → arA d.ar = true ∨ t.bus = [] → r.ss.hasRoom r.sp 2 r.osz.bytes true = true →
      pushReturn (r.cs.sel.setWidth 32) r.osz.bytes t = .ok () p → markAccessed sel d p = .ok () u →
      exec i s = .next ((u.withCode sel d r.cpl).jump target).complete
    (r = s → jumps (.jmpFar off sel) ∧ calls (.callFar off sel)) ∧
    (∀ x, farPointer x s = .ok (off, sel) r → jumps (.jmpFarMem (.mem x)) ∧ calls (.callFarMem (.mem x)))) ∧
  (∀ (s t u v y : State) (off csImage : Word) (d : Descriptor), s.pfx.lock = false → s.transferProt = true →
    let w := s.osz.bytes
    let sel : Half := csImage.setWidth 16
    s.limitViolated .ss s.sp (2 * w) = false → stackRead 0 w s = .ok off t → stackRead w w t = .ok csImage u →
    selNull sel = false → rpl sel = s.cpl → readDescriptor sel u = .ok (some d) v → d.returnable sel →
    off.toNat ≤ d.limit.toNat → markAccessed sel d v = .ok () y →
    ∀ imm : Half,
      let done (n : Word) : Host.Outcome State Fault Refusal :=
        .next (((y.withCode sel d s.cpl).dropStack n).jump off).complete
      exec .retf s = done (BitVec.ofNat 32 (2 * w)) ∧ exec (.retfImm imm) s = done (BitVec.ofNat 32 (2 * w) + imm.setWidth 32)) ∧
  (∀ (s t u v y : State) (off csImage : Word) (d : Descriptor), s.pfx.lock = false → s.transferProt = true →
    let w := s.osz.bytes
    let sel : Half := csImage.setWidth 16
    s.limitViolated .ss s.sp (2 * w) = false → stackRead 0 w s = .ok off t → stackRead w w t = .ok csImage u →
    selNull sel = false → s.cpl.toNat < (rpl sel).toNat → readDescriptor sel u = .ok (some d) v → d.returnable sel →
    let outer (frame : Nat) (imm : Word) := untilMarked d (returnOuter sel d off w frame imm) v
    let done : Host.Outcome State Fault Refusal := .next y.clearRf.complete
    (outer (2 * w) 0 = .ok () y → exec .retf s = done) ∧
    (∀ imm : Half, outer (2 * w + imm.toNat) (imm.setWidth 32) = .ok () y → exec (.retfImm imm) s = done) ∧
    (arA d.ar = true ∨ v.bus = [] → ∀ frame imm, outer frame imm = returnOuter sel d off w frame imm v)) ∧
  (∀ (s r t u : State) (sel : Half) (off : Word) (g : Descriptor), s.pfx.lock = false → r.prot = true → selNull sel = false →
    readDescriptor sel r = .ok (some g) t → g.system = some 4 ∨ g.system = some 12 →
    let through (call : Bool) (i : Instr) : Prop := (call = true → r.transferProt = true) → throughGate call sel g t = .ok () u → exec i s = .next u.complete
    (r = s → through false (.jmpFar off sel) ∧ through true (.callFar off sel)) ∧
    (∀ x, farPointer x s = .ok (off, sel) r → through false (.jmpFarMem (.mem x)) ∧ through true (.callFarMem (.mem x)))) ∧
  (∀ (s r t v u : State) (sel : Half) (off : Word) (d td : Descriptor), s.pfx.lock = false → r.prot = true → selNull sel = false →
    readDescriptor sel r = .ok (some d) t → r.cpl.toNat ≤ (arDpl d.ar).toNat → (rpl sel).toNat ≤ (arDpl d.ar).toNat → arP d.ar = true →
    let switches (kind : SwitchKind) (i : Instr) : Prop := (kind = .call → r.transferProt = true) →
      (d.isFreeTss = true → selTI sel = false → taskSwitch sel d kind s.eipNext s.flags.image t = .ok () u →
        exec i s = .next u.complete) ∧
      (d.system = some 5 → selTI d.gateSel = false → selNull d.gateSel = false → readDescriptor d.gateSel t = .ok (some td) v →
        td.isFreeTss = true → arP td.ar = true → taskSwitch d.gateSel td kind s.eipNext s.flags.image v = .ok () u →
        exec i s = .next u.complete)
    (r = s → switches .jmp (.jmpFar off sel) ∧ switches .call (.callFar off sel)) ∧
    (∀ x, farPointer x s = .ok (off, sel) r → switches .jmp (.jmpFarMem (.mem x)) ∧ switches .call (.callFarMem (.mem x))))

/-- Gates never lead to a less privileged level and returns never to a more privileged one: a CALL or JMP through a call gate and an
entry through a trap or interrupt gate leave CPL as it is or lower it, a far RET or IRET within the task leaves it or raises it
(21_protection.md R330, R355, R356, R370; 60_exceptions.md R1066, R1067). A return to an outer level takes ESP and SS from the `w` byte items
above the frame, adds the immediate to the new stack pointer, of which 16-bit returns load SP, and nulls DS, ES, FS, GS where the new level
may not use them (R372, R376; 48_interrupt_instructions.md R934). A CALL through a gate to an inner level switches to the stack that the TSS
gives for it and pushes there the old SS and ESP, the gate's count of parameters from the old stack, the old CS and the return address
(R356, R363). A JMP through a gate, to conforming code or code of the same level, and a CALL through a gate to such code, go to the gate's
offset, with the gate's code selector, its RPL replaced by CPL, in CS; the level stays, and a CALL pushes CS and the return address, as items
of 4 bytes for a 386 gate and 2 for a 286 gate (R355, R352). Where pushes stand between the read of the code descriptor and the write of its
Accessed bit this is one locked sequence, stated with no other bus master (R343). The model's choices are that the upper half of the 32-bit CS
item is zero (log entry 30), and that the RPL of the gate's code selector is not held against CPL: the same-level case has no premise about
it (log entry 29). -/
def Obligations.LevelChangesByGateAndReturn : Prop :=
  (∀ (s t : State), s.prot = true →
    (∀ call sel g, throughGate call sel g s = .ok () t → t.cpl.toNat ≤ s.cpl.toNat) ∧
    (∀ e eip g, gateEntry e eip g s = .ok () t → t.cpl.toNat ≤ s.cpl.toNat) ∧
    (∀ imm, farReturn imm s = .ok () t → s.cpl.toNat ≤ t.cpl.toNat) ∧
    (∀ eip cs image w, iretCode eip cs image w s = .ok () t → s.cpl.toNat ≤ t.cpl.toNat)) ∧
  (∀ (s t u v x y : State) (sel : Half) (c d : Descriptor) (newEip newEsp ssImage imm : Word) (w frame : Nat),
    let ssel : Half := ssImage.setWidth 16
    let n := rpl sel
    let kept (r : SegReg) : SegReg :=
      if r.valid = true ∧ ((arE r.ar = true ∧ arC r.ar = true) ∨ n.toNat ≤ (arDpl r.ar).toNat) then r else { r with sel := 0, valid := false }
    s.limitViolated .ss s.sp (frame + 2 * w) = false → stackRead frame w s = .ok newEsp t → stackRead (frame + w) w t = .ok ssImage u →
    selNull ssel = false → readDescriptor ssel u = .ok (some d) v → rpl ssel = n → d.isWritable = true → arDpl d.ar = n → arP d.ar = true →
    newEip.toNat ≤ c.limit.toNat → markAccessed sel c v = .ok () x → markAccessed ssel d (x.withCode sel c n) = .ok () y →
    returnOuter sel c newEip w frame imm s = .ok () { y with
      ss := d.toSegReg ssel, ds := kept y.ds, es := kept y.es, fs := kept y.fs, gs := kept y.gs, eip := newEip
      stale := [], queued := [], queuedMode := none
      regs := { y.regs with esp :=
        if w = 4 then newEsp + imm else y.regs.esp.extractLsb' 16 16 ++ (newEsp + imm).extractLsb' 0 16 } }) ∧
  (∀ (s t a b p q x y : State) (gsel ssel : Half) (g c sd : Descriptor) (newEsp : Word),
    let is386 := g.system == some 12
    let w := if is386 then 4 else 2
    let k := g.gateCount
    let n := arDpl c.ar
    let off := g.gateOffset is386
    let newSs := sd.toSegReg ssel
    s.cpl.toNat ≤ (arDpl g.ar).toNat → (rpl gsel).toNat ≤ (arDpl g.ar).toNat → arP g.ar = true → selNull g.gateSel = false →
    readDescriptor g.gateSel s = .ok (some c) t → c.isCode = true → arP c.ar = true → arC c.ar = false → n.toNat < s.cpl.toNat →
    arA c.ar = true ∨ t.bus = [] → innerStack n t = .ok (ssel, sd, newEsp) a →
    newSs.hasRoom (if arD newSs.ar then newEsp else low16 newEsp) (4 + k) w true = true → off.toNat ≤ c.limit.toNat →
    loadStack ssel sd a = .ok () b →
    pushAll w [s.ss.sel.setWidth 32, s.regs.esp] { b.setReg .b32 .esp newEsp with cpl := n } = .ok () p →
    copyParams s.ss s.user s.sp w k p = .ok () q → pushAll w [s.cs.sel.setWidth 32, s.eipNext] q = .ok () x →
    markAccessed g.gateSel c x = .ok () y →
    throughGate true gsel g s = .ok () ((y.withCode g.gateSel c n).jump off)) ∧
  (∀ (s t p u : State) (gsel : Half) (g c : Descriptor),
    let is386 := g.system == some 12
    let w := if is386 then 4 else 2
    let off := g.gateOffset is386
    let entered := (u.withCode g.gateSel c s.cpl).jump off
    s.cpl.toNat ≤ (arDpl g.ar).toNat → (rpl gsel).toNat ≤ (arDpl g.ar).toNat → arP g.ar = true → selNull g.gateSel = false →
    readDescriptor g.gateSel s = .ok (some c) t → c.isCode = true → arP c.ar = true →
    (arC c.ar = true → (arDpl c.ar).toNat ≤ s.cpl.toNat) → (arC c.ar = false → arDpl c.ar = s.cpl) → off.toNat ≤ c.limit.toNat →
    (markAccessed g.gateSel c t = .ok () u → throughGate false gsel g s = .ok () entered) ∧
    (arA c.ar = true ∨ t.bus = [] → s.ss.hasRoom s.sp 2 w s.prot = true → pushAll w [s.cs.sel.setWidth 32, s.eipNext] t = .ok () p →
      markAccessed g.gateSel c p = .ok () u → throughGate true gsel g s = .ok () entered)) ∧
  (∀ (r : SegReg) (user : Bool) (sp v : Word) (w k : Nat) (rest : List Word) (keys : List Nat) (a b e : State),
    pushAll w [] a = .ok () a ∧ (push v w a = .ok () b → pushAll w (v :: rest) a = pushAll w rest b) ∧
    copyParams r user sp w 0 a = .ok () a ∧
    (regKeys r true user (stackAdd (arD r.ar) sp (BitVec.ofNat 32 (k * w))) w false a = .ok keys b →
      push (b.readKeys keys) w b = .ok () e → copyParams r user sp w (k + 1) a = copyParams r user sp w k e)) ∧
  (∀ (s u : State) (n : BitVec 2) (d : Descriptor), s.pg = false → s.bus = [] →
    let w := if s.tr.isTss386 then 4 else 2
    let at_ := if s.tr.isTss386 then 4 + 8 * n.toNat else 2 + 4 * n.toNat
    let item (off nb : Nat) : Word := s.readKeys (s.physKeys (s.tr.base + BitVec.ofNat 32 off) nb)
    let ssel : Half := (item (at_ + w) 2).setWidth 16
    s.tr.isTss386 = true ∨ s.tr.isTss286 = true → at_ + w + 1 ≤ s.tr.limit.toNat → selNull ssel = false →
    readDescriptor ssel s = .ok (some d) u → rpl ssel = n → d.isWritable = true → arDpl d.ar = n → arP d.ar = true →
    innerStack n s = .ok (ssel, d, item at_ w) u)

/-- A task switch that completes: TR holds the new task's selector and descriptor, marked busy, TS is set, the local breakpoint enables
are cleared, NT is set where the task was called, and EIP lies within the limit of CS. It saves the outgoing state, frees the old TSS for a
JMP or IRET, writes the back link for a CALL or INT, marks the new TSS busy unless it returns, which is one locked sequence then, and then
enters the new task. A page fault at the start of the new TSS comes before all of this, so the switch can be restarted: the model's reading of
60_exceptions.md R1058 (log entry 22). With paging
off and no other bus master: a 386 TSS takes EIP, EFLAGS, the general registers and the six selectors at their offsets, and no other byte
of memory changes; a 286 TSS takes the low 16 bits of EIP, EFLAGS and the general registers, and ES, CS, SS and DS (R382); that a TR without
a TSS is written as a 386 TSS is the model's choice (log entry 8). The new task's registers, EFLAGS, EIP,
LDTR and segment selectors are the items of its TSS, as 8086 segments with VM
set, else with CPL = the RPL of CS; its T bit makes a debug trap pending. Those of a 286 TSS are 16 bits wide: the upper halves are 0, VM too, FS
and GS are null, there is no T bit, and CR3 stays (R382). With paging on CR3 is loaded and the TLB flushed. A busy bit is
bit 1 of the access rights byte (21_protection.md R343, R381, R387, R389, R391). -/
def Obligations.TaskSwitchState : Prop :=
  (∀ (s t : State) (sel : Half) (d : Descriptor) (kind : SwitchKind) (eip image : Word),
    taskSwitch sel d kind eip image s = .ok () t →
    (t.tr = { d.toSegReg sel with ar := d.ar ||| 2 } ∧ t.ts = true ∧ t.dr7 = s.dr7 &&& ~~~ 0x155 ∧
      (kind = .call ∨ kind = .int → t.flags.nt = true) ∧ t.eip.toNat ≤ t.cs.limit.toNat ∧
      (t.flags.vm = true → t.cpl = 3) ∧ t.gdtr = s.gdtr ∧ t.idtr = s.idtr) ∧
    ∃ e, lockedIf (kind != .iret) (leaveTask sel d kind eip image) s = .ok () e ∧ enterTask sel d kind e = .ok () t) ∧
  (∀ (s e : State) (sel : Half) (d : Descriptor) (kind : SwitchKind) (eip image : Word),
    (s.bus = [] → ∀ c, lockedIf c (leaveTask sel d kind eip image) s = leaveTask sel d kind eip image s) ∧
    (leaveTask sel d kind eip image s = .ok () e →
      ∃ v z a b c, linRead d.base 2 false s = .ok v z ∧
        saveTask eip (if kind = .iret then image &&& ~~~ 0x4000 else image) z = .ok () a ∧
        (if kind = .jmp ∨ kind = .iret then writeAccessByte s.tr.sel 0 2 a = .ok () b else b = a) ∧
        (if kind = .call ∨ kind = .int then linWrite d.base 2 (s.tr.sel.setWidth 32) false b = .ok () c else c = b) ∧
        (if kind = .iret then e = c else writeAccessByte sel 2 0 c = .ok () e)) ∧
    (∀ x, s.bus = [] → tssTooSmall d.isTss386 d.limit.toNat = false → linRead d.base 2 false s = .error (.exc x false) e →
      taskSwitch sel d kind eip image s = .error (.exc x false) e)) ∧
  (∀ (s t : State) (eip image : Word), s.pg = false → s.bus = [] → memWf s.mem → s.tr.isTss286 = false →
    saveTask eip image s = .ok () t →
    let item (off nb : Nat) : Word := t.readKeys (t.physKeys (s.tr.base + BitVec.ofNat 32 off) nb)
    let x := s.regs
    item 0x20 4 = eip ∧ item 0x24 4 = image ∧ item 0x28 4 = x.eax ∧ item 0x2C 4 = x.ecx ∧ item 0x30 4 = x.edx ∧
    item 0x34 4 = x.ebx ∧ item 0x38 4 = x.esp ∧ item 0x3C 4 = x.ebp ∧ item 0x40 4 = x.esi ∧ item 0x44 4 = x.edi ∧
    item 0x48 2 = s.es.sel.setWidth 32 ∧ item 0x4C 2 = s.cs.sel.setWidth 32 ∧ item 0x50 2 = s.ss.sel.setWidth 32 ∧
    item 0x54 2 = s.ds.sel.setWidth 32 ∧ item 0x58 2 = s.fs.sel.setWidth 32 ∧ item 0x5C 2 = s.gs.sel.setWidth 32 ∧
    (∀ a, a ∉ s.physKeys (s.tr.base + 0x20) 0x40 → t.byte a = s.byte a)) ∧
  (∀ (s t : State) (sel : Half) (d : Descriptor) (kind : SwitchKind), s.pg = false → s.bus = [] → d.isTss386 = true →
    enterTask sel d kind s = .ok () t →
    let item (off nb : Nat) : Word := s.readKeys (s.physKeys (d.base + BitVec.ofNat 32 off) nb)
    let half (off : Nat) : Half := (item off 2).setWidth 16
    t.regs = { eax := item 0x28 4, ecx := item 0x2C 4, edx := item 0x30 4, ebx := item 0x34 4, esp := item 0x38 4
               ebp := item 0x3C 4, esi := item 0x40 4, edi := item 0x44 4 } ∧
    t.eip = item 0x20 4 ∧ t.ldtr.sel = half 0x60 ∧ t.es.sel = half 0x48 ∧ t.cs.sel = half 0x4C ∧ t.ss.sel = half 0x50 ∧
    t.ds.sel = half 0x54 ∧ t.fs.sel = half 0x58 ∧ t.gs.sel = half 0x5C ∧
    (let f := Flags.ofImage (item 0x24 4)
     t.flags = { f with nt := f.nt || decide (kind = .call ∨ kind = .int) }) ∧
    (t.flags.vm = true → ∀ g, t.seg g = v86Load (t.seg g).sel) ∧ (t.flags.vm = false → t.cpl = rpl t.cs.sel) ∧
    t.pend.bt = (s.pend.bt || (item 0x64 2).getLsbD 0) ∧ t.cr3 = s.cr3) ∧
  (∀ (s t : State) (eip image : Word), s.pg = false → s.bus = [] → memWf s.mem → s.tr.isTss286 = true →
    saveTask eip image s = .ok () t →
    let item (off : Nat) : Word := t.readKeys (t.physKeys (s.tr.base + BitVec.ofNat 32 off) 2)
    let x := s.regs
    [item 0x0E, item 0x10, item 0x12, item 0x14, item 0x16, item 0x18, item 0x1A, item 0x1C, item 0x1E, item 0x20] =
      [eip, image, x.eax, x.ecx, x.edx, x.ebx, x.esp, x.ebp, x.esi, x.edi].map (· &&& 0xFFFF) ∧
    item 0x22 = s.es.sel.setWidth 32 ∧ item 0x24 = s.cs.sel.setWidth 32 ∧ item 0x26 = s.ss.sel.setWidth 32 ∧
    item 0x28 = s.ds.sel.setWidth 32 ∧ (∀ a, a ∉ s.physKeys (s.tr.base + 0x0E) 0x1C → t.byte a = s.byte a)) ∧
  (∀ (s t : State) (sel : Half) (d : Descriptor) (kind : SwitchKind), d.isTss386 = false → enterTask sel d kind s = .ok () t →
    t.cr3 = s.cr3 ∧ t.pend.bt = s.pend.bt ∧ (s.pg = false → s.bus = [] →
      let item (off : Nat) : Word := s.readKeys (s.physKeys (d.base + BitVec.ofNat 32 off) 2)
      let half (off : Nat) : Half := (item off).setWidth 16
      t.regs = { eax := item 0x12, ecx := item 0x14, edx := item 0x16, ebx := item 0x18, esp := item 0x1A, ebp := item 0x1C
                 esi := item 0x1E, edi := item 0x20 } ∧
      t.eip = item 0x0E ∧ t.ldtr.sel = half 0x2A ∧ t.es.sel = half 0x22 ∧ t.cs.sel = half 0x24 ∧ t.ss.sel = half 0x26 ∧
      t.ds.sel = half 0x28 ∧ t.fs.sel = 0 ∧ t.fs.valid = false ∧ t.gs.sel = 0 ∧ t.gs.valid = false ∧
      (let f := Flags.ofImage (item 0x10)
       t.flags = { f with nt := f.nt || decide (kind = .call ∨ kind = .int) }) ∧
      t.flags.vm = false ∧ t.cpl = rpl t.cs.sel)) ∧
  (∀ (s t : State) (base v : Word), s.pg = true → linRead (base + 0x1C) 4 false s = .ok v t →
    switchCr3 base s = .ok () { t with cr3 := v &&& 0xFFFFF000, tlb := [] }) ∧
  (∀ (s t : State) (sel : Half) (la set clear : Word), s.pg = false → s.bus = [] → memWf s.mem →
    s.descriptorAt sel = some la → writeAccessByte sel set clear s = .ok () t →
    let k := s.physKey (la + 5)
    t.byte k = (s.byte k ||| set.setWidth 8) &&& ~~~ clear.setWidth 8 ∧ ∀ a, a ≠ k → t.byte a = s.byte a)

/-! SETcc, ENTER, LEAVE (47_setcc_enter_leave.md). -/

/-- SETcc stores 1 where its condition holds and 0 otherwise, in a byte register or a byte of memory (R900). -/
def Obligations.ByteSetOnCondition : Prop :=
  ∀ (s t : State) (q : Reg) (x : MemRef) (keys : List Nat), s.pfx.lock = false →
    let f := s.flags
    let sets (c : Bool) (i : RM → Instr) : Prop :=
      exec (i (.reg q)) s = .next (s.setReg .b8 q (if c then 1 else 0)).advance.complete ∧
      (memKeys (s.ea x).1 (s.ea x).2 1 true s = .ok keys t →
        exec (i (.mem x)) s = .next (t.writeKeys keys (if c then 1 else 0)).advance.complete)
    sets f.off .seto ∧ sets (!f.off) .setno ∧ sets f.cf .setb ∧ sets (!f.cf) .setnb ∧ sets f.zf .sete ∧ sets (!f.zf) .setne ∧
    sets (f.cf || f.zf) .setbe ∧ sets (!f.cf && !f.zf) .setnbe ∧ sets f.sf .sets ∧ sets (!f.sf) .setns ∧
    sets f.pf .setp ∧ sets (!f.pf) .setnp ∧ sets (f.sf != f.off) .setl ∧ sets (f.sf == f.off) .setnl ∧
    sets (f.zf || f.sf != f.off) .setle ∧ sets (!f.zf && f.sf == f.off) .setnle

/-- ENTER at level 0 pushes (E)BP, makes it the frame pointer and reserves the space; at level L it copies the L - 1 frame pointers below the
old frame, each a read below (E)BP and a push, and pushes its own; LEAVE takes the stack pointer back to the frame and pops (E)BP (R901,
R902). That with operand size 32 and a 16-bit stack the upper half of the frame pointer is 0 is the model's choice (log entry 34). -/
def Obligations.EnterAndLeave : Prop :=
  ∀ (s t : State), s.pfx.lock = false →
    let framed (u : State) (size : Half) : Host.Outcome State Fault Refusal :=
      .next ((u.setReg s.osz .ebp (t.sp.setWidth s.osz.bits)).setSp
        (stackAdd u.ssz32 u.sp (0 - size.setWidth 32))).advance.complete
    (∀ (size : Half) (level : Byte), push s.regs.ebp s.osz.bytes s = .ok () t →
      (level.toNat % 32 = 0 → exec (.enter size level) s = framed t size) ∧
      (∀ u v, level.toNat % 32 ≠ 0 → copyDisplay s.osz.bytes (level.toNat % 32 - 1) s.bp t = .ok () u →
        push t.sp s.osz.bytes u = .ok () v → exec (.enter size level) s = framed v size)) ∧
    (∀ (w k : Nat) (bp x : Word) (a b c : State), copyDisplay w 0 bp a = .ok () a ∧
      (let below := if a.ssz32 then bp - BitVec.ofNat 32 w else (bp - BitVec.ofNat 32 w) &&& 0xFFFF
       memRead .ss below w a = .ok x b → push x w b = .ok () c → copyDisplay w (k + 1) bp a = copyDisplay w k below c)) ∧
    (∀ v, memRead .ss s.bp s.osz.bytes s = .ok v t →
      exec .leave s = .next ((t.setSp (stackAdd s.ssz32 s.bp (BitVec.ofNat 32 s.osz.bytes))).setReg s.osz .ebp
        (v.setWidth s.osz.bits)).advance.complete)

/-! Interrupts and exceptions (48_interrupt_instructions.md, 60_exceptions.md). -/

/-- INT n (with IOPL 3 in Virtual 8086 mode), INT 3 in any mode, and INTO with OF = 1 enter the handler of their vector with the address
of the next instruction saved; INTO with OF = 0 does nothing; BOUND with an index within the bounds does nothing, and with one outside
them raises exception 5 (R920 to R923). What an entry does, and by which mode, `RealModeEntry` and `GateEntry` say. -/
def Obligations.SoftwareInterrupts : Prop :=
  ∀ (s t u : State), s.pfx.lock = false →
    let enters (i : Instr) (vector : Byte) : Prop :=
      let e : Event := { vector := vector, kind := .software, code := none }
      entry e s.eipNext s = .ok () t → exec i s = .next (t.entered e)
    (∀ n, (s.v86 = true → s.flags.iopl = 3) → enters (.intN n) n) ∧ enters .int3 3 ∧
    (s.flags.off = true → enters .into 4) ∧ (s.flags.off = false → exec .into s = .next s.advance.complete) ∧
    (∀ x r lo hi, memRead (s.ea x).1 (s.ea x).2 s.osz.bytes s = .ok lo t →
      memRead (s.ea x).1 (s.offsetAdd (s.ea x).2 (BitVec.ofNat 32 s.osz.bytes)) s.osz.bytes t = .ok hi u →
      let i := (s.reg s.osz r).toInt
      let within := (lo.setWidth s.osz.bits).toInt ≤ i ∧ i ≤ (hi.setWidth s.osz.bits).toInt
      (within → exec (.bound (.mem x) r) s = .next u.advance.complete) ∧
      (¬ within → exec (.bound (.mem x) r) s = takeException s u ⟨5, none⟩ false))

/-- IRET in REAL mode, and in Virtual 8086 mode with IOPL 3, pops EIP, CS and FLAGS, and ends the service of an NMI (R931;
60_exceptions.md R1084). In Protected Mode with NT = 0: from level 0 to an image with VM = 1 it reloads the nine items of the frame, EIP, CS,
EFLAGS, ESP, SS, ES, DS, FS, GS: Virtual 8086 mode at CPL 3 (R935); to code of the same level it loads CS, EIP and EFLAGS and drops the three
items, to an outer level the stack too, by `returnOuter`, whose effect on SS:ESP, DS, ES, FS and GS `LevelChangesByGateAndReturn` says (R933,
R934). With NT = 1 it is the task return to the back link of the TSS (R932); the EIP that it
saves in the outgoing TSS, the address after the IRET, is the model's reading of R387, which does not list it (log entry 22). An IRET decoded
before Protected Mode was set goes by the one mode or the other, as `FarTransfers` says (log entry 23). VM is loaded by
the first of these only; IF is loaded with CPL within IOPL, IOPL at CPL 0, both in REAL mode, RF by a 32-bit return. -/
def Obligations.InterruptReturns : Prop :=
  (∀ (s t u v : State) (off csImage image : Word), s.pfx.lock = false → s.transferProt = false → (s.v86 = true → s.flags.iopl = 3) →
    let w := s.osz.bytes
    s.limitViolated .ss s.sp (3 * w) = false → stackRead 0 w s = .ok off t → stackRead w w t = .ok csImage u →
    stackRead (2 * w) w u = .ok image v → off.toNat ≤ v.cs.limit.toNat →
    exec .iret s = .next { ((v.dropStack (BitVec.ofNat 32 (3 * w))).setSeg .cs
        (if v.v86 then v86Load (csImage.setWidth 16) else realLoad v.cs (csImage.setWidth 16))).transfer off with
      flags := v.loadFlags image s.osz32, nmiInService := false }.complete) ∧
  (∀ (s t : State) (off cs image esp ss es ds fs gs : Word), s.pfx.lock = false → s.transferProt = true → s.flags.nt = false → s.cpl = 0 →
    s.osz32 = true → s.limitViolated .ss s.sp 12 = false → s.limitViolated .ss s.sp 36 = false →
    stackItems 4 0 9 s = .ok [off, cs, image, esp, ss, es, ds, fs, gs] t → image.getLsbD 17 = true →
    (Flags.ofImage image).vm = true ∧
    exec .iret s = .next { t with
      regs := { t.regs with esp := esp }, eip := low16 off, flags := Flags.ofImage image, cpl := 3
      cs := v86Load (cs.setWidth 16), ss := v86Load (ss.setWidth 16), es := v86Load (es.setWidth 16)
      ds := v86Load (ds.setWidth 16), fs := v86Load (fs.setWidth 16), gs := v86Load (gs.setWidth 16)
      stale := [], queued := [], queuedMode := none, nmiInService := false }.complete) ∧
  (∀ (s t u v : State) (off csImage image : Word) (d : Descriptor), s.pfx.lock = false → s.transferProt = true → s.flags.nt = false →
    let w := s.osz.bytes
    let sel : Half := csImage.setWidth 16
    let done (y : State) : Host.Outcome State Fault Refusal :=
      .next { y with flags := s.loadFlags image s.osz32, nmiInService := false }.complete
    s.limitViolated .ss s.sp (3 * w) = false → stackItems w 0 3 s = .ok [off, csImage, image] t →
    ¬ (s.osz32 = true ∧ image.getLsbD 17 = true ∧ s.cpl = 0) → selNull sel = false → s.cpl.toNat ≤ (rpl sel).toNat →
    readDescriptor sel t = .ok (some d) u → d.returnable sel →
    (rpl sel = s.cpl → off.toNat ≤ d.limit.toNat → markAccessed sel d u = .ok () v →
      exec .iret s = done (((v.withCode sel d s.cpl).dropStack (BitVec.ofNat 32 (3 * w))).transfer off)) ∧
    (rpl sel ≠ s.cpl → untilMarked d (returnOuter sel d off w (3 * w) 0) u = .ok () v → exec .iret s = done v) ∧
    (arA d.ar = true ∨ u.bus = [] → untilMarked d (returnOuter sel d off w (3 * w) 0) u = returnOuter sel d off w (3 * w) 0 u)) ∧
  (∀ (s t u v : State) (link : Word) (d : Descriptor), s.pfx.lock = false → s.transferProt = true → s.flags.nt = true →
    let sel : Half := link.setWidth 16
    linRead s.tr.base 2 false s = .ok link t → selTI sel = false → selNull sel = false →
    readDescriptor sel t = .ok (some d) u → d.isBusyTss = true → arP d.ar = true →
    taskSwitch sel d .iret s.eipNext s.flags.image u = .ok () v → exec .iret s = .next { v with nmiInService := false }.complete) ∧
  (∀ (s : State) (image : Word) (rfOk : Bool),
    let f := s.loadFlags image rfOk
    f = { Flags.ofImage image with
      ifl := f.ifl, iopl := f.iopl, rf := if rfOk then image.getLsbD 16 else s.flags.rf, vm := s.flags.vm } ∧
    (s.pe = false ∨ s.cpl.toNat ≤ s.flags.iopl.toNat → f.ifl = image.getLsbD 9) ∧
    (s.pe = true → s.flags.iopl.toNat < s.cpl.toNat → f.ifl = s.flags.ifl) ∧
    (s.pe = false ∨ (s.prot = true ∧ s.cpl = 0) → f.iopl = image.extractLsb' 12 2) ∧
    (s.v86 = true ∨ (s.prot = true ∧ s.cpl ≠ 0) → f.iopl = s.flags.iopl))

/-- An entry in REAL mode with paging off and no other bus master, with the vector within the limit of IDTR and room for three words: FLAGS,
CS and the saved IP are pushed, IF and TF cleared, RF by a software interrupt, and CS:IP comes from the vector table; no other byte of memory
changes (R1060 to R1062, R1122). That the pushes meet data breakpoints, and the reads of the vector none, is the model's reading of R1121 (log
entry 33). A software interrupt that was decoded before PE was set enters so too, by the draw of log entry 23, on a stack that can be
written (70_reset_and_hazards.md R1221). -/
def Obligations.RealModeEntry : Prop :=
  ∀ (s : State) (e : Event) (savedEip : Word),
    (s.entryProt e = false ↔ s.pe = false ∨ (e.kind = .software ∧ s.v86 = false ∧ s.decodedProt = false)) ∧
    (s.entryProt e = false → s.pg = false → s.bus = [] →
      e.vector.toNat * 4 + 3 ≤ s.idtr.limit.toNat → s.ss.hasRoom s.sp 3 2 s.prot = true → s.rightsViolated .ss .write = false →
      let t := s.realEntered e savedEip
      deliver e savedEip s = .next (t.entered e) ∧
      t.flags = { s.flags with ifl := false, tf := false, rf := s.flags.rf && e.kind != .software } ∧
      t.sp = stackSub s.ssz32 s.sp 6 ∧
      (∀ a, a ∉ s.pushKeys 2 → a ∉ (s.pushed 2 s.flags.image).pushKeys 2 →
        a ∉ ((s.pushed 2 s.flags.image).pushed 2 (s.cs.sel.setWidth 32)).pushKeys 2 →
        t.byte a = s.byte a))

/-- An entry through a trap or interrupt gate in Protected or Virtual 8086 mode: TF, NT, RF and VM are cleared, IF by an interrupt gate
only, CS:EIP is the gate's, in a code segment that is present, and from Virtual 8086 mode CPL is 0 (R1066, R1067, R1070). A vector beyond
the limit of IDTR raises `#GP` with its number, a software interrupt through a gate whose DPL is below CPL too, and a gate not present
raises `#NP` (R1066; 21_protection.md R337). What is pushed, as items of 4 bytes by a 386 gate and 2 by a 286 gate: at the same level EFLAGS,
with RF = 1 for a fault, CS, EIP and the error code where there is one; to an inner level SS and ESP before them, on the new stack of the
TSS; from Virtual 8086 mode GS, FS, DS and ES before those, which are null afterwards. Where the Accessed bit of the code descriptor is to be
written all of this is one locked sequence with its read (21_protection.md R343), which is stated here with no other bus master. Through a
present gate the entry is `gateEntry`, but `taskEntry` through a task gate: the task switch of kind `int` to the present, available TSS that
the gate names in the GDT, then the error code, where there is one, as one item on the stack of the new task, of 4 bytes for a 386 TSS and 2
for a 286 TSS (R1069; 21_protection.md R386, R387 step 11). That the switch saves the EFLAGS image as it is, with RF not set for a fault, is
the model's reading (log entry 22). With PE set every event enters so, but for a software interrupt that the queues may have decoded before it
was set (70_reset_and_hazards.md R1221; log entry 23). -/
def Obligations.GateEntry : Prop :=
  (∀ (s : State) (e : Event), (s.entryProt e = true ↔ s.pe = true ∧ (e.kind ≠ .software ∨ s.v86 = true ∨ s.decodedProt = true)) ∧
    (s.pe = true → s.queuedMode = none → s.entryProt e = true)) ∧
  (∀ (s t : State) (e : Event) (savedEip : Word) (g : Descriptor), s.pe = true → gateEntry e savedEip g s = .ok () t →
    t.flags.tf = false ∧ t.flags.nt = false ∧ t.flags.rf = false ∧ t.flags.vm = false ∧
    t.flags.ifl = (s.flags.ifl && !g.isInterruptGate) ∧ t.flags.iopl = s.flags.iopl ∧
    t.eip = g.gateOffset g.isGate386 ∧ t.cs.sel = withRpl g.gateSel t.cpl ∧ arE t.cs.ar = true ∧ arS t.cs.ar = true ∧
    arP t.cs.ar = true ∧ t.eip.toNat ≤ t.cs.limit.toNat ∧ (s.v86 = true → t.cpl = 0) ∧
    t.cr0 = s.cr0 ∧ t.gdtr = s.gdtr ∧ t.idtr = s.idtr ∧ t.ldtr = s.ldtr ∧ t.tr = s.tr) ∧
  (∀ (s t : State) (e : Event) (savedEip : Word) (g : Descriptor), s.entryProt e = true →
    (s.idtr.limit.toNat < e.vector.toNat * 8 + 7 →
      entry e savedEip s = .error (.exc ⟨13, vectorCode e.vector⟩ false) s) ∧
    (e.vector.toNat * 8 + 7 ≤ s.idtr.limit.toNat →
      linDescriptor (s.idtr.base + BitVec.ofNat 32 (e.vector.toNat * 8)) s = .ok g t →
      (g.isIdtGate = false → entry e savedEip s = .error (.exc ⟨13, vectorCode e.vector⟩ false) t) ∧
      (g.isIdtGate = true → e.kind = .software → (arDpl g.ar).toNat < s.cpl.toNat →
        entry e savedEip s = .error (.exc ⟨13, vectorCode e.vector⟩ false) t) ∧
      (g.isIdtGate = true → (e.kind ≠ .software ∨ s.cpl.toNat ≤ (arDpl g.ar).toNat) → arP g.ar = false →
        entry e savedEip s = .error (.exc ⟨11, vectorCode e.vector⟩ false) t) ∧
      (g.isIdtGate = true → (e.kind ≠ .software ∨ s.cpl.toNat ≤ (arDpl g.ar).toNat) → arP g.ar = true →
        entry e savedEip s = if g.system = some 5 then taskEntry e savedEip g t else gateEntry e savedEip g t))) ∧
  (∀ (s t u v : State) (e : Event) (savedEip : Word) (g d : Descriptor), selTI g.gateSel = false → selNull g.gateSel = false →
    readDescriptor g.gateSel s = .ok (some d) t → d.isFreeTss = true → arP d.ar = true →
    taskSwitch g.gateSel d .int savedEip s.flags.image t = .ok () u →
    let w := if d.isTss386 then 4 else 2
    (e.code = none → taskEntry e savedEip g s = .ok () u) ∧
    (∀ c, e.code = some c → u.ss.hasRoom u.sp 1 w u.prot = true → push (c.setWidth 32) w u = .ok () v →
      taskEntry e savedEip g s = .ok () v)) ∧
  (∀ (s t p u : State) (e : Event) (savedEip : Word) (g c : Descriptor), s.pe = true → selNull g.gateSel = false →
    readDescriptor g.gateSel s = .ok (some c) t → c.isCode = true → arP c.ar = true → (arDpl c.ar).toNat ≤ s.cpl.toNat →
    arA c.ar = true ∨ t.bus = [] →
    let w := if g.isGate386 then 4 else 2
    let off := g.gateOffset g.isGate386
    let code := match e.code with | none => [] | some x => [x.setWidth 32]
    let frame := [{ s.flags with rf := s.flags.rf || e.kind == EventKind.fault }.image, s.cs.sel.setWidth 32, savedEip] ++ code
    let outer := [s.ss.sel.setWidth 32, s.regs.esp]
    let segments := [s.gs.sel.setWidth 32, s.fs.sel.setWidth 32, s.ds.sel.setWidth 32, s.es.sel.setWidth 32]
    let enters (n : BitVec 2) : Prop := off.toNat ≤ c.limit.toNat → markAccessed g.gateSel c p = .ok () u →
      gateEntry e savedEip g s = .ok () { u.withCode g.gateSel c n with eip := off, flags := u.flags.entered g.isInterruptGate }
    let room (sd : Descriptor) (ssel : Half) (newEsp : Word) (n : Nat) : Prop :=
      (sd.toSegReg ssel).hasRoom (if arD sd.ar then newEsp else low16 newEsp) n w true = true
    (s.v86 = false → arC c.ar = true ∨ arDpl c.ar = s.cpl → t.ss.hasRoom t.sp frame.length w true = true →
      pushAll w frame t = .ok () p → enters s.cpl) ∧
    (∀ a b ssel sd newEsp, s.v86 = false → arC c.ar = false → (arDpl c.ar).toNat < s.cpl.toNat →
      innerStack (arDpl c.ar) t = .ok (ssel, sd, newEsp) a → room sd ssel newEsp (outer ++ frame).length →
      loadStack ssel sd a = .ok () b →
      pushAll w (outer ++ frame) { b.setReg .b32 .esp newEsp with cpl := arDpl c.ar } = .ok () p → enters (arDpl c.ar)) ∧
    (∀ a b x ssel sd newEsp, s.v86 = true → g.isGate386 = true → arC c.ar = false → arDpl c.ar = 0 →
      innerStack 0 t = .ok (ssel, sd, newEsp) a → room sd ssel newEsp (segments ++ outer ++ frame).length →
      loadStack ssel sd { a with flags := a.flags.entered g.isInterruptGate, cpl := 0 } = .ok () b →
      pushAll w segments (b.setReg .b32 .esp newEsp) = .ok () x →
      pushAll w (outer ++ frame)
        { x with gs := x.gs.nulled, fs := x.fs.nulled, ds := x.ds.nulled, es := x.es.nulled } = .ok () p → enters 0))

/-- An exception while another event is delivered: after a double fault it is shutdown, with one shutdown cycle; after a page fault, or
after exceptions 0 and 10 to 13 where it is no page fault, a double fault with error code 0; a page fault after exceptions 0 and 10 to 13,
and any exception after the other events, is delivered itself, with EXT in the error code of exceptions 10 to 13 unless the first event
was a software interrupt (R1100, R1141; 21_protection.md R337). That a page fault after exception 0 is delivered as itself is the model's
reading (log entry 20). -/
def Obligations.DoubleFaults : Prop :=
  ∀ (s t : State) (first : Event) (second : Exc) (savedEip : Word), entry first savedEip s = .error (.exc second false) t →
    (first.isDoubleFault = true → deliver first savedEip s = .next (s.rollback t).shut) ∧
    (first.kind = .fault → first.vector = 14 → combine first second = some doubleFault) ∧
    (first.kind = .fault → first.vector ∈ [0, 10, 11, 12, 13] → second.vector ≠ 14 → combine first second = some doubleFault) ∧
    (first.kind = .fault → first.vector ∈ [0, 10, 11, 12, 13] → second.vector = 14 →
      combine first second = some (second.withExt first).event) ∧
    (first.isDoubleFault = false → (first.kind = .fault → first.vector ∉ [0, 10, 11, 12, 13, 14]) →
      combine first second = some (second.withExt first).event) ∧
    second.withExt first = { second with
      code := if first.kind ≠ .software ∧ second.vector ∈ [10, 11, 12, 13] then second.code.map (· ||| 1) else second.code } ∧
    (∀ e, combine first second = some e → deliver first savedEip s = deliverWith 4 e (s.rollback t).eip (s.rollback t)) ∧
    doubleFault = { vector := 8, kind := .abort, code := some 0 } ∧
    (first.isDoubleFault = true ↔ first.kind = .abort ∧ first.vector = 8) ∧
    (s.rollback t).shut.run = .shutdown ∧ (s.rollback t).shut.cycles = .shutdown :: s.cycles ∧ BusCycle.shutdown.address = 0

/-- At a boundary without an event of the environment: a debug trap comes first, then an NMI, whose delivery leaves IF clear, then INTR,
with two acknowledge cycles; where SS or IF was just set none of them; a halted machine waits; an instruction on which an enabled execution
breakpoint is set, with RF = 0, raises exception 1 as a fault with the bits of those set there, enabled or not, in DR6 (10_state.md R113), and
else the next instruction runs; that LENi of an execution breakpoint is not looked at is the model's choice (log entry 9). Exception 1 as a
trap reports BS, BT and the data breakpoints met, enabled or not, in DR6; that it reports no execution breakpoint, and the fault no data
breakpoint, is the model's choice (log entry 40) (R1054, R1080, R1081, R1084, R1086, R1120, R1122, R1140). Before all of these comes the exception
of a coprocessor operand that ran into a limit or a page fault (R1132), with the ESC instruction's CS:EIP saved for its first item (R1051)
and the next instruction's for exception 9: its place, and where the machine stands then, are the model's choice (log entry 16). A data access meets
breakpoint i, with the defined codes of R/Wi and LENi, where it is a write, or R/Wi is 11, and overlaps the LENi bytes at the aligned
address in DRi; the trap is due where an enabled one is met (R112, R1121). -/
def Obligations.BoundaryOrder : Prop :=
  (∀ (s : State), s.pfx.count = 0 → s.stimuli = [] → s.run ≠ .shutdown → s.run ≠ .stalled →
    (∀ x, s.escDue = some x →
      let event : Event := { vector := x.vector, kind := if x.vector = 8 ∨ x.vector = 9 then .abort else .fault, code := x.code }
      (s.escCommand = none → step s = freshen (deliver event s.eip { s with escDue := none })) ∧
      (∀ c, s.escCommand = some c → step s = freshen (deliver event c.eip
        { s with escDue := none, escCommand := none, cs := c.cs, eip := c.eip, pend := Pend.none }))) ∧
    (s.escDue = none →
      let trap := s.trapPending && !s.inhibit
      let enabled (i : Nat) : Bool := s.dr7.getLsbD (2 * i) || s.dr7.getLsbD (2 * i + 1)
      let here (i : Nat) : Prop := (s.dr7 >>> (16 + 4 * i)).toNat % 4 = 0 ∧ [s.dr0, s.dr1, s.dr2, s.dr3].getD i 0 = s.cs.base + s.eip
      (trap = true → step s = freshen (deliver { vector := 1, kind := .trap, code := none } s.eip
        { s with dr6 := s.dr6 ||| s.pend.hits.setWidth 32 ||| (if s.pend.bs then 0x4000 else 0) ||| (if s.pend.bt then 0x8000 else 0)
                 pend := Pend.none })) ∧
      (trap = false → s.nmiReady = true → step s = freshen (maskIntr (deliver { vector := 2, kind := .nmi, code := none } s.eip
        { s with nmiPending := false, nmiInService := true }))) ∧
      (trap = false → s.nmiReady = false → s.intrReady = true →
        (∀ t, acknowledge s = .ok () t →
          step s = freshen (deliver { vector := t.pins.intaVector, kind := .intr, code := none } t.eip t)) ∧
        (s.bus = [] → acknowledge s = .ok () { s with cycles := .intAckSecond :: .intAckFirst :: s.cycles })) ∧
      (trap = false → s.nmiReady = false → s.intrReady = false → s.run = .halted → step s = .next s.freshen) ∧
      (trap = false → s.nmiReady = false → s.intrReady = false → s.run = .running →
        (s.flags.rf = false → (∃ i, i < 4 ∧ enabled i = true ∧ here i) →
          ∃ b : BitVec 4, (∀ i, i < 4 → (b.getLsbD i = true ↔ here i)) ∧
            step s = freshen (deliver { vector := 1, kind := .fault, code := none } s.eip { s with dr6 := s.dr6 ||| b.setWidth 32 })) ∧
        (s.flags.rf = true ∨ (∀ i, i < 4 → enabled i = true → ¬ here i) → step s = freshen s.settle.runNext)) ∧
      (s.inhibit = true → trap = false ∧ s.nmiReady = false ∧ s.intrReady = false)) ∧
    (∀ t, maskIntr (.next t) = .next { t with flags := { t.flags with ifl := false } })) ∧
  (∀ (s : State) (la : Word) (nb : Nat) (write : Bool), 0 < nb → nb ≤ 4 →
    let enabled (i : Nat) : Bool := s.dr7.getLsbD (2 * i) || s.dr7.getLsbD (2 * i + 1)
    let rw (i : Nat) : Nat := (s.dr7 >>> (16 + 4 * i)).toNat % 4
    let len (i : Nat) : Nat := (s.dr7 >>> (18 + 4 * i)).toNat % 4
    let size (i : Nat) : Nat := if len i = 0 then 1 else if len i = 1 then 2 else 4
    let from_ (i : Nat) : Word := [s.dr0, s.dr1, s.dr2, s.dr3].getD i 0 &&& ~~~ BitVec.ofNat 32 (size i - 1)
    let met (i : Nat) : Prop := ((rw i = 1 ∧ write = true) ∨ rw i = 3) ∧
      ∃ j k, j < size i ∧ k < nb ∧ from_ i + BitVec.ofNat 32 j = la + BitVec.ofNat 32 k
    let t := s.noteData la nb write
    t = { s with pend := t.pend, accessIdx := s.accessIdx + 1 } ∧
    (∀ i, i < 4 → rw i ≠ 2 → len i ≠ 2 → (t.pend.hits.getLsbD i = true ↔ s.pend.hits.getLsbD i = true ∨ met i)) ∧
    ((∀ i, i < 4 → rw i ≠ 2 ∧ len i ≠ 2) →
      (t.pend.fire = true ↔ s.pend.fire = true ∨ ∃ i, i < 4 ∧ enabled i = true ∧ met i)))

/-- The encodings that the rules call undefined raise `#UD`: the handler of vector 6 is entered with the address of the instruction
saved (30_encoding.md R570; 60_exceptions.md R1051). The undocumented ones are refused by name where no LOCK prefix stands before them
(92_eei_decisions.md D23, the spec's own choice). A step whose bytes no row of Table 9-1 has raises `#UD`. MOV to and from CRn, DRn and TRn
raises `#GP(0)` where the level does not permit it, and then with a code not to be used `#UD`, or is refused for CR1, DR4, DR5 and for top bits
other than 11; SETcc with another middle field is refused; after a LOCK prefix each of these raises `#UD` (30_encoding.md R508, R526, R570;
49_system.md R955 to R960). The order of these checks where the rules differ is the model's choice (log entry 17). -/
def Obligations.UndefinedEncodings : Prop :=
  (∀ (s t : State) (w : Bool) (md : BitVec 2) (rm : BitVec 3) (i : Instr),
    entry { vector := 6, kind := .fault, code := none } s.eip s = .ok () t →
    i ∈ [Instr.und8F1 md rm, .und8F2 md rm, .und8F3 md rm, .und8F4 md rm, .und8F5 md rm, .und8F6 md rm, .und8F7 md rm,
      .undC61 w md rm, .undC62 w md rm, .undC63 w md rm, .undC64 w md rm, .undC65 w md rm, .undC66 w md rm, .undC67 w md rm,
      .undFE2 md rm, .undFE3 md rm, .undFE4 md rm, .undFE5 md rm, .undFE6 md rm, .undFE7 md rm, .undFF7 md rm,
      .und0F006 md rm, .und0F007 md rm, .und0F015 md rm, .und0F017 md rm, .und0FBA0 md rm, .und0FBA1 md rm, .und0FBA2 md rm,
      .und0FBA3 md rm] →
    exec i s = .next (t.entered { vector := 6, kind := .fault, code := none })) ∧
  (∀ (s : State) (d w : Bool) (md : BitVec 2) (rm : BitVec 3) (i : Instr),
    s.pfx.lock = false →
    i ∈ [Instr.undShift6 d w md rm, .undShiftImm6 w md rm, .undF61 w md rm, .undD6, .undF1, .und0F05, .und0F07, .und0FA6, .und0FA7] →
    exec i s = .refused .undocumentedOpcode) ∧
  (∀ (s t : State) (r : Reject), (s.pfx.count = 0 → s.quiet) → s.run ≠ .stalled → fetch s.fetchState = .ok (.reject r) t →
    let ud := step s = freshen (takeException s.fetchState t ⟨6, none⟩ false)
    let special := r = .specialCode ∨ r = .specialMod ∨ r = .cr1 ∨ r = .dr45
    (t.pfx.lock = true → ud) ∧
    (t.pfx.lock = false →
      (r = .undefinedOpcode → ud) ∧ (r = .setccField → step s = .refused .setccField) ∧
      (special → t.unprivileged → step s = freshen (takeException s.fetchState t ⟨13, some 0⟩ false)) ∧
      (¬ t.unprivileged → (r = .specialCode → ud) ∧ (r = .specialMod → step s = .refused .specialMod) ∧
        (r = .cr1 → step s = .refused .cr1) ∧ (r = .dr45 → step s = .refused .dr45)))) ∧
  (∀ (c : Ctx) (eee x : BitVec 3),
    let word (second : Byte) : Decoded := decode c [0x0F, second, (3 : BitVec 2) ++ eee ++ x]
    (∀ second, second = 0x20 ∨ second = 0x22 →
      (eee = 1 → word second = .reject .cr1) ∧ (4 ≤ eee.toNat → word second = .reject .specialCode)) ∧
    (∀ second, second = 0x21 ∨ second = 0x23 → eee = 4 ∨ eee = 5 → word second = .reject .dr45) ∧
    (∀ second, second = 0x24 ∨ second = 0x26 → eee.toNat < 6 → word second = .reject .specialCode) ∧
    (∀ top : BitVec 2, top ≠ 3 → ∀ second ∈ [(0x20 : Byte), 0x21, 0x22, 0x23, 0x24, 0x26],
      decode c [0x0F, second, top ++ eee ++ x] = .reject .specialMod))

/-- A LOCK prefix before anything but the listed forms with a memory destination raises `#UD`, with the address of the instruction saved,
at any privilege level; before one of the listed forms whose operand can be written it is legal, and the instruction completes with its own
effect: the operand's bytes take the result computed from them, with no write of another bus master between (20_memory.md R236), the flags are
those of the operation on them, XCHG loads its register with them, no other byte of memory changes, and EIP is `EIP_next`. The operations are
those of `ArithmeticAndLogicForms`, `IncrementDecrementNegateNot`, `Exchanges` and `BitInstructions` (30_encoding.md R508). -/
def Obligations.LockOnlyBeforeListedForms : Prop :=
  (∀ (s : State) (i : Instr), s.pfx.lock = true → LockForm i = false → IsPrefix i = false →
    exec i s = deliver { vector := 6, kind := .fault, code := none } s.eip s) ∧
  (∀ (s t : State) (w s8 : Bool) (r : Reg) (imm : Word) (x : MemRef) (keys : List Nat), s.pfx.lock = true →
    memKeys (s.ea x).1 (s.ea x).2 (s.width w).bytes true s = .ok keys t →
    let W := s.width w
    let a : BitVec W.bits := (t.readKeys keys).setWidth W.bits
    let stored (y : BitVec W.bits) : State := t.writeKeys keys (y.setWidth 32)
    let done (y : BitVec W.bits × Flags) : Host.Outcome State Fault Refusal :=
      .next { stored y.1 with flags := y.2 }.advance.complete
    let forms (op : AluOp) (rr : Bool → Bool → RM → Reg → Instr) (ri : Bool → Bool → RM → Word → Instr) : Prop :=
      exec (rr false w (.mem x) r) s = done (alu op t.flags s.freeIdx a (s.reg W r)) ∧
      exec (ri s8 w (.mem x) imm) s = done (alu op t.flags s.freeIdx a (immValue W (s8 && w) imm))
    forms .add .addRmReg .addRmImm ∧ forms .adc .adcRmReg .adcRmImm ∧ forms .sub .subRmReg .subRmImm ∧
    forms .sbb .sbbRmReg .sbbRmImm ∧ forms .and .andRmReg .andRmImm ∧ forms .or .orRmReg .orRmImm ∧ forms .xor .xorRmReg .xorRmImm ∧
    exec (.notRm w (.mem x)) s = done (~~~ a, t.flags) ∧ exec (.negRm w (.mem x)) s = done (subFlags t.flags 0 a false) ∧
    exec (.incRm w (.mem x)) s = done (incFlags t.flags a) ∧ exec (.decRm w (.mem x)) s = done (decFlags t.flags a) ∧
    exec (.xchgRmReg w (.mem x) r) s = .next ((stored (s.reg W r)).setReg W r a).advance.complete ∧
    (∀ y f, ∀ u ∈ [{ stored y with flags := f }, (stored y).setReg W r a],
      u.advance.complete.eip = s.eipNext ∧ ∀ k, k ∉ keys → u.advance.complete.byte k = t.byte k)) ∧
  (∀ (s t : State) (r : Reg) (n : Byte) (x : MemRef) (keys : List Nat), s.pfx.lock = true →
    let W := s.osz
    let at_ := s.bitAddress W x (s.reg W r)
    let after (op : BitOp) (i : Nat) : State :=
      let v : BitVec W.bits := (t.readKeys keys).setWidth W.bits
      { t.writeKeys keys ((op.apply v i).setWidth 32) with flags := bitFlags t.flags t.freeIdx v i }.advance.complete
    let forms (op : BitOp) (ri : RM → Byte → Instr) (rr : RM → Reg → Instr) : Prop :=
      (memKeys (s.ea x).1 (s.ea x).2 W.bytes true s = .ok keys t →
        exec (ri (.mem x) n) s = .next (after op (n.toNat % W.bits)) ∧ (after op (n.toNat % W.bits)).eip = s.eipNext) ∧
      (memKeys at_.1 at_.2 W.bytes true s = .ok keys t →
        exec (rr (.mem x) r) s = .next (after op ((s.reg W r).toNat % W.bits)) ∧ (after op ((s.reg W r).toNat % W.bits)).eip = s.eipNext)
    forms .complement .btcRmImm .btcRmReg ∧ forms .reset .btrRmImm .btrRmReg ∧ forms .set .btsRmImm .btsRmReg ∧
    ∀ op i k, k ∉ keys → (after op i).byte k = t.byte k)

/-- A privileged instruction in Virtual 8086 mode or with CPL above 0 raises `#GP(0)` and does nothing else; LGDT and LIDT with a register
operand raise that or `#UD`, for 49_system.md R987 and 60_exceptions.md R1055 differ in the order of the two checks (log entry 21); CLI and
STI with CPL above IOPL too, and INT n, PUSHF, POPF, IRET in Virtual 8086 mode with IOPL below 3 (21_protection.md R404, R405, R410). -/
def Obligations.PrivilegedInstructionsTrap : Prop :=
  ∀ (s : State) (m : RM) (x : MemRef) (r : Reg) (c : CReg) (d : DReg) (k : TReg) (n : Byte) (i : Instr), s.pfx.lock = false →
    let gp := deliver { vector := 13, kind := .fault, code := some 0 } s.eip s
    let ud := deliver { vector := 6, kind := .fault, code := none } s.eip s
    (s.unprivileged → i ∈ [Instr.lgdt (.reg r), .lidt (.reg r)] → exec i s = if Config.formBeforePrivilege then ud else gp) ∧
    (s.unprivileged → i ∈ [Instr.hlt, .clts, .lmsw m, .lgdt (.mem x), .lidt (.mem x), .movCrReg c r, .movRegCr c r, .movDrReg d r,
      .movRegDr d r, .movTrReg k r, .movRegTr k r] → exec i s = gp) ∧
    (s.decodedProt = true → s.unprivileged → i ∈ [Instr.lldt m, .ltr m] → exec i s = gp) ∧
    (s.pe = true → s.flags.iopl.toNat < s.cpl.toNat → i ∈ [Instr.cli, .sti] → exec i s = gp) ∧
    (s.v86 = true → s.flags.iopl ≠ 3 → i ∈ [Instr.intN n, .pushf, .popf, .iret] → exec i s = gp)

/-- The instructions of Protected Mode only raise `#UD` in REAL and Virtual 8086 mode, and so does a register where an operand in memory
is required, and MOV to CS (21_protection.md R411; 30_encoding.md R571, R572), of LGDT and LIDT where the level permits them; what comes first
where it does not is open (`PrivilegedInstructionsTrap`; log entry 21). The mode is the one by which the instruction was decoded, which differs from the mode in force
only where the queues may hold instructions decoded before a change of PE (70_reset_and_hazards.md R1220; log entry 23). -/
def Obligations.InvalidFormsTrap : Prop :=
  ∀ (s : State) (m : RM) (q r : Reg) (i : Instr), s.pfx.lock = false →
    let ud := deliver { vector := 6, kind := .fault, code := none } s.eip s
    (s.queuedMode = none → s.decodedProt = s.prot) ∧
    (∀ old, s.queuedMode = some old → s.decodedProt = old ∨ s.decodedProt = s.prot) ∧
    (s.decodedProt = false → i ∈ [Instr.arpl m r, .lar m r, .lsl m r, .lldt m, .ltr m, .sldt m, .str m, .verr m, .verw m] →
      exec i s = ud) ∧
    (i ∈ [Instr.lea (.reg q) r, .lds (.reg q) r, .les (.reg q) r, .lfs (.reg q) r, .lgs (.reg q) r, .lss (.reg q) r,
      .bound (.reg q) r, .callFarMem (.reg q), .jmpFarMem (.reg q), .sgdt (.reg q), .sidt (.reg q), .movSegRm m .cs] → exec i s = ud) ∧
    (s.pe = false ∨ (s.prot = true ∧ s.cpl = 0) → i ∈ [Instr.lgdt (.reg q), .lidt (.reg q)] → exec i s = ud)

/-! System instructions (49_system.md). -/

/-- NOP does nothing; HLT at CPL 0 halts after EIP has moved on, with one halt cycle at address 2; WAIT goes on with BUSY# and ERROR#
inactive, waits at its own address while BUSY# is active, and raises exception 16 on ERROR#, exception 7 with TS and MP set (R950, R965,
R966). ESC with EM or TS set raises exception 7; else, with a coprocessor that is ready, its opcode bytes go to the coprocessor's opcode
register and EIP moves on; FNSTSW AX leaves the coprocessor's answer, which is not the processor's, in AX (R975 to R978). PEREQ moves one
item of a memory operand between memory and the operand register at 8000FCH, with the checks of the current task, a dword to the coprocessor
in two cycles; an item after the first that meets a limit or a page fault makes exception 9 due and ends the transfers (R976, R977, R979;
60_exceptions.md R1052, R1132). That what goes to the coprocessor is recorded among the port writes, that AX takes a free value, which
instructions write their operand, that an item comes at an instruction boundary, and that the first item makes the exception due that it meets,
are the model's choices (log entry 16). -/
def Obligations.WaitAndEscape : Prop :=
  (∀ (s : State), s.pfx.lock = false →
    exec .nop s = .next s.advance.complete ∧
    (s.pe = false ∨ (s.prot = true ∧ s.cpl = 0) →
      exec .hlt s = .next { s with run := .halted, cycles := .halt :: s.cycles }.advance.complete) ∧ BusCycle.halt.address = 2 ∧
    (s.ts = false ∨ s.mp = false →
      (s.pins.busy = false → s.pins.error = false → exec .wait s = .next s.advance.complete) ∧
      (s.pins.busy = true → ∃ t, exec .wait s = .next t ∧ t.eip = s.eip ∧ t.regs = s.regs ∧ t.flags = s.flags ∧ t.mem = s.mem) ∧
      (s.pins.busy = false → s.pins.error = true →
        exec .wait s = deliver { vector := 16, kind := .fault, code := none } s.eip s)) ∧
    (s.ts = true → s.mp = true → exec .wait s = deliver { vector := 7, kind := .fault, code := none } s.eip s)) ∧
  (∀ (s t : State) (ttt lll : BitVec 3) (m : RM), s.pfx.lock = false →
    (s.em = true ∨ s.ts = true → exec (.esc ttt lll m) s = deliver { vector := 7, kind := .fault, code := none } s.eip s) ∧
    (s.em = false → s.ts = false → s.platform.has387 = true →
      escNoWait ttt lll m = true ∨ (s.pins.busy = false ∧ s.pins.error = false) → escOperand ttt lll m s = .ok () t →
      (∀ u, busTurn t = .ok () u →
        let x := t.handOver ttt lll m
        (escStoresAx ttt lll m = false → exec (.esc ttt lll m) s = .next (u.handOver ttt lll m).advance.complete) ∧
        (∀ v, escStoresAx ttt lll m = true → busTurn (u.handOver ttt lll m) = .ok () v → exec (.esc ttt lll m) s =
          .next (v.setReg .b16 .eax ((Config.undef v.freeIdx 10).setWidth 16)).advance.complete) ∧
        (t.bus = [] → u = t ∧ busTurn x = .ok () x)) ∧
      t.escCommand = match m with
        | .reg _ => none
        | .mem x => some { ttt := ttt, lll := lll, seg := s.seg (s.ea x).1, stack := (s.ea x).1 == .ss, off := (s.ea x).2, asz32 := s.asz32
                           stores := escToMemory ttt lll, started := false, cs := s.cs, eip := s.eip })) ∧
  (∀ (s t u : State) (c : EscCommand) (dword : Bool) (value : Word), s.escCommand = some c → s.escDue = none →
    let nb := if dword then 4 else 2
    let moved : EscCommand :=
      { c with off := if c.asz32 then c.off + BitVec.ofNat 32 nb else low16 (c.off + BitVec.ofNat 32 nb), started := true }
    (∀ keys, regKeys c.seg c.stack s.user c.off nb c.stores s = .ok keys t → busTurn t = .ok () u →
      let v := t.readKeys keys
      let first := { u with ioOut := (0x8000FD, v.extractLsb' 8 8) :: (0x8000FC, v.extractLsb' 0 8) :: u.ioOut }
      (c.stores = true → s.pereq dword value = { u.writeKeys keys value with escCommand := some moved }) ∧
      (c.stores = false → dword = false → s.pereq dword value = { first with escCommand := some moved }) ∧
      (∀ y, c.stores = false → dword = true → cycleTurn first = .ok () y → s.pereq dword value = { y with
        ioOut := (0x8000FF, v.extractLsb' 24 8) :: (0x8000FE, v.extractLsb' 16 8) :: y.ioOut, escCommand := some moved }) ∧
      (t.bus = [] → u = t ∧ cycleTurn first = .ok () first)) ∧
    (∀ x keep, regKeys c.seg c.stack s.user c.off nb c.stores s = .error (.exc x keep) t →
      (c.started = true → s.pereq dword value = { s.rollback t with escCommand := none, escDue := some ⟨9, none⟩ }) ∧
      (c.started = false → s.pereq dword value = { s.rollback t with escDue := some x }))) ∧
  (∀ (s : State) (dword : Bool) (value : Word), s.escCommand = none ∨ s.escDue ≠ none → s.pereq dword value = s)

/-- MOV to and from the control, debug and test registers at CPL 0: CR0 keeps bit 4 and a change of PG flushes the TLB, PG without PE
raises `#GP(0)`; CR3 takes bits 31 to 12 and flushes the TLB; the six status flags are undefined (R955 to R960). With GD set an access to
a debug register, to or from it, raises exception 1, with DR6.BD set and GD cleared (R957, R958), and Bi set of the execution breakpoints at
the instruction, enabled or not (10_state.md R113): that it is those, whatever RF is, and no others is the model's choice (log entry 40). A
change of PG or CR3 leaves in the queues what they have read, through any entry that the TLB then holds (22_paging.md R484), and a change of PE
how they have decoded it, which the following instructions may still use: this is how the model meets decisions D37 and D40 (log entry 23).
PE is not cleared with segment caches that REAL mode cannot use: the spec refuses that (92_eei_decisions.md D38, 70_reset_and_hazards.md
R1226). -/
def Obligations.SpecialRegisterMoves : Prop :=
  ∀ (s : State) (r : Reg), s.pfx.lock = false → s.pe = false ∨ (s.prot = true ∧ s.cpl = 0) →
    let v := s.regs.get r
    let done (t : State) : Host.Outcome State Fault Refusal :=
      .next { t with flags := t.flags.undefAll t.freeIdx }.advance.complete
    (¬ (v.getLsbD 31 = true ∧ v.getLsbD 0 = false) → (s.pe = true → v.getLsbD 0 = false → s.realReady = true) →
      exec (.movCrReg .cr0 r) s = done { s with
        cr0 := if s.platform.cr0Bit4Writable then v else v ||| 0x10
        tlb := if s.cr0.getLsbD 31 = v.getLsbD 31 then s.tlb else []
        queued := if s.cr0.getLsbD 31 = v.getLsbD 31 then s.queued else s.readAhead ++ s.queued
        queuedMode := if s.cr0.getLsbD 0 = v.getLsbD 0 then s.queuedMode else some s.prot }) ∧
    (v.getLsbD 31 = false → v.getLsbD 0 = false → s.pe = true → s.realReady = false →
      exec (.movCrReg .cr0 r) s = .refused .realCaches) ∧
    (v.getLsbD 31 = true → v.getLsbD 0 = false →
      exec (.movCrReg .cr0 r) s = deliver { vector := 13, kind := .fault, code := some 0 } s.eip s) ∧
    exec (.movCrReg .cr2 r) s = done { s with cr2 := v } ∧
    exec (.movCrReg .cr3 r) s = done { s with
      cr3 := v &&& 0xFFFFF000, tlb := [], queued := if s.pg then s.readAhead ++ s.queued else s.queued } ∧
    (s.pg = true → ∀ e ∈ s.tlb, permits e.us e.rw false s.user = true → ∀ a ∈ s.queueWindow, pageOf a = e.vpn →
      (a.toNat, s.byte (s.physKey (e.frame ++ a.extractLsb' 0 12))) ∈ s.readAhead) ∧
    (∀ c, exec (.movRegCr c r) s = done (s.setReg .b32 r (match c with | .cr0 => s.cr0 | .cr2 => s.cr2 | .cr3 => s.cr3))) ∧
    (s.gd = false → ∀ d, exec (.movDrReg d r) s = done (s.setDreg d v) ∧
      exec (.movRegDr d r) s = done (s.setReg .b32 r (s.dreg d)) ∧ (s.setDreg d v).dreg d = v) ∧
    (s.gd = true → ∃ b : BitVec 4,
      (∀ i, i < 4 → (b.getLsbD i = true ↔
        (s.dr7 >>> (16 + 4 * i)).toNat % 4 = 0 ∧ [s.dr0, s.dr1, s.dr2, s.dr3].getD i 0 = s.cs.base + s.eip)) ∧
      ∀ d, ∀ i ∈ [Instr.movRegDr d r, .movDrReg d r],
        exec i s = deliver { vector := 1, kind := .fault, code := none } s.eip
          { s with dr6 := s.dr6 ||| 0x2000 ||| b.setWidth 32, dr7 := s.dr7 &&& ~~~ 0x2000 }) ∧
    (∀ x, exec (.movRegTr x r) s = done (s.setReg .b32 r (match x with | .tr6 => s.tr6 | .tr7 => s.tr7)) ∧
      (s.pg = false → exec (.movTrReg x r) s = done (match x with | .tr6 => { s with tr6 := v } | .tr7 => { s with tr7 := v })))

/-- ARPL raises the RPL of its operand to that of the register, with ZF = 1, or leaves it, with ZF = 0 and nothing written (R985). LAR,
LSL, VERR, VERW set ZF and load their register where the selector names a descriptor that passes the test, and clear ZF where it does
not; no descriptor is tested for a null selector or one beyond its table (R986, R991, R998, R999). That a memory operand of ARPL is
checked for writing, Dirty bit included, whether or not it is written, and meets a write breakpoint only where it is, is the model's
reading (log entry 15). -/
def Obligations.SelectorTests : Prop :=
  (∀ (s t : State) (q r : Reg) (x : MemRef) (keys : List Nat), s.pfx.lock = false → s.decodedProt = true →
    let low (v : Half) : Nat := v.toNat % 4
    let raised (d : Half) : Bool := decide (low d < low (s.reg .b16 r))
    let value (d : Half) : Half := if raised d then (d &&& 0xFFFC) ||| (s.reg .b16 r &&& 3) else d
    let zf (u : State) (z : Bool) : State := { u with flags := { u.flags with zf := z } }
    exec (.arpl (.reg q) r) s =
      .next (zf (s.setReg .b16 q (value (s.reg .b16 q))) (raised (s.reg .b16 q))).advance.complete ∧
    (probeKeys (s.ea x).1 (s.ea x).2 2 s = .ok keys t →
      let d : Half := (t.readKeys keys).setWidth 16
      exec (.arpl (.mem x) r) s =
        .next (zf (if raised d then (t.between.noteData (s.linear (s.ea x).1 (s.ea x).2) 2 true).writeKeys keys ((value d).setWidth 32)
          else t) (raised d)).advance.complete)) ∧
  (∀ (s t u : State) (m : RM) (r : Reg) (sel : Half), s.pfx.lock = false → s.decodedProt = true → readRM .b16 m s = .ok sel t →
    let zf (x : State) (z : Bool) : Host.Outcome State Fault Refusal := .next { x with flags := { x.flags with zf := z } }.advance.complete
    (selNull sel = true → testDescriptor sel t = .ok none t) ∧
    ((if sel.getLsbD 2 then t.ldtr.valid = false ∨ t.ldtr.limit.toNat < sel.toNat / 8 * 8 + 7
      else t.gdtr.limit.toNat < sel.toNat / 8 * 8 + 7) → testDescriptor sel t = .ok none t) ∧
    (selNull sel = false → testDescriptor sel t = readDescriptor sel t) ∧
    (testDescriptor sel t = .ok none u →
      exec (.lar m r) s = zf u false ∧ exec (.lsl m r) s = zf u false ∧ exec (.verr m) s = zf u false ∧ exec (.verw m) s = zf u false) ∧
    (∀ d, testDescriptor sel t = .ok (some d) u →
      let seen := d.conforming || (decide (u.cpl.toNat ≤ (arDpl d.ar).toNat) && decide ((rpl sel).toNat ≤ (arDpl d.ar).toNat))
      let loads (types : List Nat) (v : Word) : Host.Outcome State Fault Refusal :=
        if d.accepted types && seen then zf (u.setReg u.osz r (v.setWidth u.osz.bits)) true else zf u false
      exec (.lar m r) s = loads [1, 2, 3, 4, 5, 9, 11, 12] (d.hi &&& 0x00F0FF00) ∧
      exec (.lsl m r) s = loads [1, 2, 3, 9, 11] d.limit ∧
      exec (.verr m) s = zf u (arS d.ar && (!arE d.ar || arW d.ar) && seen) ∧
      exec (.verw m) s = zf u (arS d.ar && !arE d.ar && arW d.ar && seen)))

/-- LGDT and LIDT load limit and base from six bytes, 24 bits of base at operand size 16; SGDT and SIDT store them, the last byte
undefined at operand size 16 (R987, R988, R993, R994). LMSW writes PE, MP, EM, TS and cannot clear PE; LLDT and LTR at CPL 0 load a
present LDT and a present free TSS of the GDT, which LTR marks busy, and LLDT a null selector (R989, R990, R992). That both parts of SGDT and
SIDT are checked before either is stored (log entry 21), and that after LMSW has set PE the queues may hold instructions decoded in the old
mode (`queuedMode`, log entry 23), are the model's choices. -/
def Obligations.SystemTableLoads : Prop :=
  (∀ (s t u : State) (x : MemRef), s.pfx.lock = false →
    let g := (s.ea x).1
    let a := (s.ea x).2
    (∀ lim base, s.pe = false ∨ (s.prot = true ∧ s.cpl = 0) → memRead g a 2 s = .ok lim t →
      memRead g (s.offsetAdd a 2) 4 t = .ok base u →
      let r : TableReg := { limit := lim.setWidth 16, base := if u.osz32 then base else base &&& 0x00FFFFFF }
      exec (.lgdt (.mem x)) s = .next { u with gdtr := r }.advance.complete ∧
      exec (.lidt (.mem x)) s = .next { u with idtr := r }.advance.complete) ∧
    (∀ k k', memKeys g a 2 true s = .ok k t → memKeys g (s.offsetAdd a 2) 4 true t = .ok k' u →
      let stores (r : TableReg) : Host.Outcome State Fault Refusal :=
        .next ((u.writeKeys k (r.limit.setWidth 32)).writeKeys k' (if s.osz32 then r.base
          else (Config.undef s.freeIdx 7).extractLsb' 0 8 ++ r.base.extractLsb' 0 24)).advance.complete
      exec (.sgdt (.mem x)) s = stores s.gdtr ∧ exec (.sidt (.mem x)) s = stores s.idtr)) ∧
  (∀ (s t u : State) (m : RM) (sel : Half), s.pfx.lock = false → readRM .b16 m s = .ok sel t →
    (s.pe = false ∨ (s.prot = true ∧ s.cpl = 0) →
      ∃ c, exec (.lmsw m) s = .next { t with
          cr0 := c, queuedMode := if t.cr0.getLsbD 0 = c.getLsbD 0 then t.queuedMode else some t.prot }.advance.complete ∧
        c.extractLsb' 4 28 = t.cr0.extractLsb' 4 28 ∧
        c.getLsbD 0 = (t.cr0.getLsbD 0 || sel.getLsbD 0) ∧ c.extractLsb' 1 3 = sel.extractLsb' 1 3) ∧
    (s.decodedProt = true → ¬ s.unprivileged →
      (selNull sel = true → exec (.lldt m) s = .next { t with ldtr := { t.ldtr with sel := sel, valid := false } }.advance.complete) ∧
      (∀ d, selNull sel = false → selTI sel = false → readDescriptor sel t = .ok (some d) u → arP d.ar = true →
        (d.system = some 2 → exec (.lldt m) s = .next { u with ldtr := d.toSegReg sel }.advance.complete) ∧
        (∀ v, d.system = some 1 ∨ d.system = some 9 → writeAccessByte sel 2 0 u = .ok () v →
          exec (.ltr m) s = .next { v with tr := { d.toSegReg sel with ar := d.ar ||| 2 } }.advance.complete))))

/-- A prefix byte is remembered for the instruction it begins, and nothing else changes; of the segment overrides and of the repeat
prefixes the last one counts (30_encoding.md R504 to R509). That a prefix is a step of its own is the model's choice (log entry 10). -/
def Obligations.PrefixesRemembered : Prop :=
  ∀ (s : State),
    let noted (i : Instr) (p : Pfx) : Prop := exec i s = .next { s with pfx := { p with count := s.pfx.count + 1 } }
    noted .pfxOpSize { s.pfx with opSize := true } ∧ noted .pfxAddrSize { s.pfx with addrSize := true } ∧
    noted .pfxLock { s.pfx with lock := true } ∧ noted .pfxRep { s.pfx with rep := some .rep } ∧
    noted .pfxRepne { s.pfx with rep := some .repne } ∧ noted .pfxEs { s.pfx with seg := some .es } ∧
    noted .pfxCs { s.pfx with seg := some .cs } ∧ noted .pfxSs { s.pfx with seg := some .ss } ∧
    noted .pfxDs { s.pfx with seg := some .ds } ∧ noted .pfxFs { s.pfx with seg := some .fs } ∧
    noted .pfxGs { s.pfx with seg := some .gs }
end

