-- ==== Sys2Proof/Laws/State.lean ====
section
/-!
SUPPORT. What each update of the state does to each field: one clause a field, true by definition, so that no later proof unfolds a
record update.
-/
namespace Sys2Proof.Machine

open Sys2Proof

/-! Registers. -/

@[simp] theorem State.setReg_fields (s : State) (w : Width) (r : Reg) (v : BitVec w.bits) :
    (s.setReg w r v).eip = s.eip ∧ (s.setReg w r v).eipNext = s.eipNext ∧ (s.setReg w r v).flags = s.flags ∧
    (s.setReg w r v).es = s.es ∧ (s.setReg w r v).cs = s.cs ∧ (s.setReg w r v).ss = s.ss ∧ (s.setReg w r v).ds = s.ds ∧
    (s.setReg w r v).fs = s.fs ∧ (s.setReg w r v).gs = s.gs ∧ (s.setReg w r v).ldtr = s.ldtr ∧ (s.setReg w r v).tr = s.tr ∧
    (s.setReg w r v).gdtr = s.gdtr ∧ (s.setReg w r v).idtr = s.idtr ∧ (s.setReg w r v).cpl = s.cpl ∧ (s.setReg w r v).cr0 = s.cr0 ∧
    (s.setReg w r v).cr2 = s.cr2 ∧ (s.setReg w r v).cr3 = s.cr3 ∧ (s.setReg w r v).dr0 = s.dr0 ∧ (s.setReg w r v).dr1 = s.dr1 ∧
    (s.setReg w r v).dr2 = s.dr2 ∧ (s.setReg w r v).dr3 = s.dr3 ∧ (s.setReg w r v).dr6 = s.dr6 ∧ (s.setReg w r v).dr7 = s.dr7 ∧
    (s.setReg w r v).tr6 = s.tr6 ∧ (s.setReg w r v).tr7 = s.tr7 ∧ (s.setReg w r v).tlb = s.tlb ∧ (s.setReg w r v).stale = s.stale ∧
    (s.setReg w r v).queued = s.queued ∧ (s.setReg w r v).queuedMode = s.queuedMode ∧
    (s.setReg w r v).nmiInService = s.nmiInService ∧ (s.setReg w r v).nmiPending = s.nmiPending ∧
    (s.setReg w r v).inhibit = s.inhibit ∧ (s.setReg w r v).held = s.held ∧ (s.setReg w r v).run = s.run ∧
    (s.setReg w r v).pend = s.pend ∧ (s.setReg w r v).pfx = s.pfx ∧ (s.setReg w r v).pins = s.pins ∧
    (s.setReg w r v).stimuli = s.stimuli ∧ (s.setReg w r v).bus = s.bus ∧ (s.setReg w r v).mem = s.mem ∧
    (s.setReg w r v).ioIn = s.ioIn ∧ (s.setReg w r v).ioOut = s.ioOut ∧ (s.setReg w r v).cycles = s.cycles ∧
    (s.setReg w r v).escCommand = s.escCommand ∧ (s.setReg w r v).escDue = s.escDue ∧ (s.setReg w r v).platform = s.platform ∧
    (s.setReg w r v).freeIdx = s.freeIdx ∧ (s.setReg w r v).accessIdx = s.accessIdx ∧ (s.setReg w r v).regs = s.regs.write w r v :=
  ⟨rfl, rfl, rfl, rfl, rfl, rfl, rfl, rfl, rfl, rfl, rfl, rfl, rfl, rfl, rfl, rfl, rfl, rfl, rfl, rfl, rfl, rfl, rfl, rfl, rfl, rfl, rfl, rfl, rfl, rfl, rfl, rfl, rfl, rfl, rfl, rfl, rfl, rfl, rfl, rfl, rfl, rfl, rfl, rfl, rfl, rfl, rfl, rfl, rfl⟩

@[simp] theorem State.setSp_fields (s : State) (v : Word) :
    (s.setSp v).eip = s.eip ∧ (s.setSp v).eipNext = s.eipNext ∧ (s.setSp v).flags = s.flags ∧ (s.setSp v).es = s.es ∧
    (s.setSp v).cs = s.cs ∧ (s.setSp v).ss = s.ss ∧ (s.setSp v).ds = s.ds ∧ (s.setSp v).fs = s.fs ∧ (s.setSp v).gs = s.gs ∧
    (s.setSp v).ldtr = s.ldtr ∧ (s.setSp v).tr = s.tr ∧ (s.setSp v).gdtr = s.gdtr ∧ (s.setSp v).idtr = s.idtr ∧
    (s.setSp v).cpl = s.cpl ∧ (s.setSp v).cr0 = s.cr0 ∧ (s.setSp v).cr2 = s.cr2 ∧ (s.setSp v).cr3 = s.cr3 ∧
    (s.setSp v).dr0 = s.dr0 ∧ (s.setSp v).dr1 = s.dr1 ∧ (s.setSp v).dr2 = s.dr2 ∧ (s.setSp v).dr3 = s.dr3 ∧
    (s.setSp v).dr6 = s.dr6 ∧ (s.setSp v).dr7 = s.dr7 ∧ (s.setSp v).tr6 = s.tr6 ∧ (s.setSp v).tr7 = s.tr7 ∧
    (s.setSp v).tlb = s.tlb ∧ (s.setSp v).stale = s.stale ∧ (s.setSp v).queued = s.queued ∧ (s.setSp v).queuedMode = s.queuedMode ∧
    (s.setSp v).nmiInService = s.nmiInService ∧ (s.setSp v).nmiPending = s.nmiPending ∧ (s.setSp v).inhibit = s.inhibit ∧
    (s.setSp v).held = s.held ∧ (s.setSp v).run = s.run ∧ (s.setSp v).pend = s.pend ∧ (s.setSp v).pfx = s.pfx ∧
    (s.setSp v).pins = s.pins ∧ (s.setSp v).stimuli = s.stimuli ∧ (s.setSp v).bus = s.bus ∧ (s.setSp v).mem = s.mem ∧
    (s.setSp v).ioIn = s.ioIn ∧ (s.setSp v).ioOut = s.ioOut ∧ (s.setSp v).cycles = s.cycles ∧
    (s.setSp v).escCommand = s.escCommand ∧ (s.setSp v).escDue = s.escDue ∧ (s.setSp v).platform = s.platform ∧
    (s.setSp v).freeIdx = s.freeIdx ∧ (s.setSp v).accessIdx = s.accessIdx :=
  by
  unfold State.setSp
  split <;> exact ⟨rfl, rfl, rfl, rfl, rfl, rfl, rfl, rfl, rfl, rfl, rfl, rfl, rfl, rfl, rfl, rfl, rfl, rfl, rfl, rfl, rfl, rfl, rfl, rfl, rfl, rfl, rfl, rfl, rfl, rfl, rfl, rfl, rfl, rfl, rfl, rfl, rfl, rfl, rfl, rfl, rfl, rfl, rfl, rfl, rfl, rfl, rfl, rfl⟩

@[simp] theorem State.setAddrReg_fields (s : State) (r : Reg) (v : Word) :
    (s.setAddrReg r v).eip = s.eip ∧ (s.setAddrReg r v).eipNext = s.eipNext ∧ (s.setAddrReg r v).flags = s.flags ∧
    (s.setAddrReg r v).es = s.es ∧ (s.setAddrReg r v).cs = s.cs ∧ (s.setAddrReg r v).ss = s.ss ∧ (s.setAddrReg r v).ds = s.ds ∧
    (s.setAddrReg r v).fs = s.fs ∧ (s.setAddrReg r v).gs = s.gs ∧ (s.setAddrReg r v).ldtr = s.ldtr ∧ (s.setAddrReg r v).tr = s.tr ∧
    (s.setAddrReg r v).gdtr = s.gdtr ∧ (s.setAddrReg r v).idtr = s.idtr ∧ (s.setAddrReg r v).cpl = s.cpl ∧
    (s.setAddrReg r v).cr0 = s.cr0 ∧ (s.setAddrReg r v).cr2 = s.cr2 ∧ (s.setAddrReg r v).cr3 = s.cr3 ∧
    (s.setAddrReg r v).dr0 = s.dr0 ∧ (s.setAddrReg r v).dr1 = s.dr1 ∧ (s.setAddrReg r v).dr2 = s.dr2 ∧
    (s.setAddrReg r v).dr3 = s.dr3 ∧ (s.setAddrReg r v).dr6 = s.dr6 ∧ (s.setAddrReg r v).dr7 = s.dr7 ∧
    (s.setAddrReg r v).tr6 = s.tr6 ∧ (s.setAddrReg r v).tr7 = s.tr7 ∧ (s.setAddrReg r v).tlb = s.tlb ∧
    (s.setAddrReg r v).stale = s.stale ∧ (s.setAddrReg r v).queued = s.queued ∧ (s.setAddrReg r v).queuedMode = s.queuedMode ∧
    (s.setAddrReg r v).nmiInService = s.nmiInService ∧ (s.setAddrReg r v).nmiPending = s.nmiPending ∧
    (s.setAddrReg r v).inhibit = s.inhibit ∧ (s.setAddrReg r v).held = s.held ∧ (s.setAddrReg r v).run = s.run ∧
    (s.setAddrReg r v).pend = s.pend ∧ (s.setAddrReg r v).pfx = s.pfx ∧ (s.setAddrReg r v).pins = s.pins ∧
    (s.setAddrReg r v).stimuli = s.stimuli ∧ (s.setAddrReg r v).bus = s.bus ∧ (s.setAddrReg r v).mem = s.mem ∧
    (s.setAddrReg r v).ioIn = s.ioIn ∧ (s.setAddrReg r v).ioOut = s.ioOut ∧ (s.setAddrReg r v).cycles = s.cycles ∧
    (s.setAddrReg r v).escCommand = s.escCommand ∧ (s.setAddrReg r v).escDue = s.escDue ∧
    (s.setAddrReg r v).platform = s.platform ∧ (s.setAddrReg r v).freeIdx = s.freeIdx ∧ (s.setAddrReg r v).accessIdx = s.accessIdx :=
  by
  unfold State.setAddrReg
  split <;> exact ⟨rfl, rfl, rfl, rfl, rfl, rfl, rfl, rfl, rfl, rfl, rfl, rfl, rfl, rfl, rfl, rfl, rfl, rfl, rfl, rfl, rfl, rfl, rfl, rfl, rfl, rfl, rfl, rfl, rfl, rfl, rfl, rfl, rfl, rfl, rfl, rfl, rfl, rfl, rfl, rfl, rfl, rfl, rfl, rfl, rfl, rfl, rfl, rfl⟩

@[simp] theorem State.dropStack_fields (s : State) (d : Word) :
    (s.dropStack d).eip = s.eip ∧ (s.dropStack d).eipNext = s.eipNext ∧ (s.dropStack d).flags = s.flags ∧
    (s.dropStack d).es = s.es ∧ (s.dropStack d).cs = s.cs ∧ (s.dropStack d).ss = s.ss ∧ (s.dropStack d).ds = s.ds ∧
    (s.dropStack d).fs = s.fs ∧ (s.dropStack d).gs = s.gs ∧ (s.dropStack d).ldtr = s.ldtr ∧ (s.dropStack d).tr = s.tr ∧
    (s.dropStack d).gdtr = s.gdtr ∧ (s.dropStack d).idtr = s.idtr ∧ (s.dropStack d).cpl = s.cpl ∧ (s.dropStack d).cr0 = s.cr0 ∧
    (s.dropStack d).cr2 = s.cr2 ∧ (s.dropStack d).cr3 = s.cr3 ∧ (s.dropStack d).dr0 = s.dr0 ∧ (s.dropStack d).dr1 = s.dr1 ∧
    (s.dropStack d).dr2 = s.dr2 ∧ (s.dropStack d).dr3 = s.dr3 ∧ (s.dropStack d).dr6 = s.dr6 ∧ (s.dropStack d).dr7 = s.dr7 ∧
    (s.dropStack d).tr6 = s.tr6 ∧ (s.dropStack d).tr7 = s.tr7 ∧ (s.dropStack d).tlb = s.tlb ∧ (s.dropStack d).stale = s.stale ∧
    (s.dropStack d).queued = s.queued ∧ (s.dropStack d).queuedMode = s.queuedMode ∧ (s.dropStack d).nmiInService = s.nmiInService ∧
    (s.dropStack d).nmiPending = s.nmiPending ∧ (s.dropStack d).inhibit = s.inhibit ∧ (s.dropStack d).held = s.held ∧
    (s.dropStack d).run = s.run ∧ (s.dropStack d).pend = s.pend ∧ (s.dropStack d).pfx = s.pfx ∧ (s.dropStack d).pins = s.pins ∧
    (s.dropStack d).stimuli = s.stimuli ∧ (s.dropStack d).bus = s.bus ∧ (s.dropStack d).mem = s.mem ∧
    (s.dropStack d).ioIn = s.ioIn ∧ (s.dropStack d).ioOut = s.ioOut ∧ (s.dropStack d).cycles = s.cycles ∧
    (s.dropStack d).escCommand = s.escCommand ∧ (s.dropStack d).escDue = s.escDue ∧ (s.dropStack d).platform = s.platform ∧
    (s.dropStack d).freeIdx = s.freeIdx ∧ (s.dropStack d).accessIdx = s.accessIdx :=
  s.setSp_fields _

@[simp] theorem State.setSeg_fields (s : State) (g : Seg) (r : SegReg) :
    (s.setSeg g r).regs = s.regs ∧ (s.setSeg g r).eip = s.eip ∧ (s.setSeg g r).eipNext = s.eipNext ∧
    (s.setSeg g r).flags = s.flags ∧ (s.setSeg g r).ldtr = s.ldtr ∧ (s.setSeg g r).tr = s.tr ∧ (s.setSeg g r).gdtr = s.gdtr ∧
    (s.setSeg g r).idtr = s.idtr ∧ (s.setSeg g r).cpl = s.cpl ∧ (s.setSeg g r).cr0 = s.cr0 ∧ (s.setSeg g r).cr2 = s.cr2 ∧
    (s.setSeg g r).cr3 = s.cr3 ∧ (s.setSeg g r).dr0 = s.dr0 ∧ (s.setSeg g r).dr1 = s.dr1 ∧ (s.setSeg g r).dr2 = s.dr2 ∧
    (s.setSeg g r).dr3 = s.dr3 ∧ (s.setSeg g r).dr6 = s.dr6 ∧ (s.setSeg g r).dr7 = s.dr7 ∧ (s.setSeg g r).tr6 = s.tr6 ∧
    (s.setSeg g r).tr7 = s.tr7 ∧ (s.setSeg g r).tlb = s.tlb ∧ (s.setSeg g r).stale = s.stale ∧ (s.setSeg g r).queued = s.queued ∧
    (s.setSeg g r).queuedMode = s.queuedMode ∧ (s.setSeg g r).nmiInService = s.nmiInService ∧
    (s.setSeg g r).nmiPending = s.nmiPending ∧ (s.setSeg g r).inhibit = s.inhibit ∧ (s.setSeg g r).held = s.held ∧
    (s.setSeg g r).run = s.run ∧ (s.setSeg g r).pend = s.pend ∧ (s.setSeg g r).pfx = s.pfx ∧ (s.setSeg g r).pins = s.pins ∧
    (s.setSeg g r).stimuli = s.stimuli ∧ (s.setSeg g r).bus = s.bus ∧ (s.setSeg g r).mem = s.mem ∧ (s.setSeg g r).ioIn = s.ioIn ∧
    (s.setSeg g r).ioOut = s.ioOut ∧ (s.setSeg g r).cycles = s.cycles ∧ (s.setSeg g r).escCommand = s.escCommand ∧
    (s.setSeg g r).escDue = s.escDue ∧ (s.setSeg g r).platform = s.platform ∧ (s.setSeg g r).freeIdx = s.freeIdx ∧
    (s.setSeg g r).accessIdx = s.accessIdx :=
  by
  cases g <;> exact ⟨rfl, rfl, rfl, rfl, rfl, rfl, rfl, rfl, rfl, rfl, rfl, rfl, rfl, rfl, rfl, rfl, rfl, rfl, rfl, rfl, rfl, rfl, rfl, rfl, rfl, rfl, rfl, rfl, rfl, rfl, rfl, rfl, rfl, rfl, rfl, rfl, rfl, rfl, rfl, rfl, rfl, rfl, rfl⟩

/-- A segment register loaded is the one read; the others stay. -/
@[simp] theorem State.seg_setSeg (s : State) (g h : Seg) (r : SegReg) : (s.setSeg g r).seg h = if h = g then r else s.seg h := by
  cases g <;> cases h <;> rfl

/-! Memory. -/

@[simp] theorem State.putByte_fields (s : State) (a : Nat) (v : Byte) :
    (s.putByte a v).regs = s.regs ∧ (s.putByte a v).eip = s.eip ∧ (s.putByte a v).eipNext = s.eipNext ∧
    (s.putByte a v).flags = s.flags ∧ (s.putByte a v).es = s.es ∧ (s.putByte a v).cs = s.cs ∧ (s.putByte a v).ss = s.ss ∧
    (s.putByte a v).ds = s.ds ∧ (s.putByte a v).fs = s.fs ∧ (s.putByte a v).gs = s.gs ∧ (s.putByte a v).ldtr = s.ldtr ∧
    (s.putByte a v).tr = s.tr ∧ (s.putByte a v).gdtr = s.gdtr ∧ (s.putByte a v).idtr = s.idtr ∧ (s.putByte a v).cpl = s.cpl ∧
    (s.putByte a v).cr0 = s.cr0 ∧ (s.putByte a v).cr2 = s.cr2 ∧ (s.putByte a v).cr3 = s.cr3 ∧ (s.putByte a v).dr0 = s.dr0 ∧
    (s.putByte a v).dr1 = s.dr1 ∧ (s.putByte a v).dr2 = s.dr2 ∧ (s.putByte a v).dr3 = s.dr3 ∧ (s.putByte a v).dr6 = s.dr6 ∧
    (s.putByte a v).dr7 = s.dr7 ∧ (s.putByte a v).tr6 = s.tr6 ∧ (s.putByte a v).tr7 = s.tr7 ∧ (s.putByte a v).tlb = s.tlb ∧
    (s.putByte a v).queued = s.queued ∧ (s.putByte a v).queuedMode = s.queuedMode ∧ (s.putByte a v).nmiInService = s.nmiInService ∧
    (s.putByte a v).nmiPending = s.nmiPending ∧ (s.putByte a v).inhibit = s.inhibit ∧ (s.putByte a v).held = s.held ∧
    (s.putByte a v).run = s.run ∧ (s.putByte a v).pend = s.pend ∧ (s.putByte a v).pfx = s.pfx ∧ (s.putByte a v).pins = s.pins ∧
    (s.putByte a v).stimuli = s.stimuli ∧ (s.putByte a v).bus = s.bus ∧ (s.putByte a v).ioIn = s.ioIn ∧
    (s.putByte a v).ioOut = s.ioOut ∧ (s.putByte a v).cycles = s.cycles ∧ (s.putByte a v).escCommand = s.escCommand ∧
    (s.putByte a v).escDue = s.escDue ∧ (s.putByte a v).platform = s.platform ∧ (s.putByte a v).freeIdx = s.freeIdx ∧
    (s.putByte a v).accessIdx = s.accessIdx ∧ (s.putByte a v).mem = cellPut s.mem a v ∧
    (s.putByte a v).stale = (a, s.byte a) :: s.stale :=
  ⟨rfl, rfl, rfl, rfl, rfl, rfl, rfl, rfl, rfl, rfl, rfl, rfl, rfl, rfl, rfl, rfl, rfl, rfl, rfl, rfl, rfl, rfl, rfl, rfl, rfl, rfl, rfl, rfl, rfl, rfl, rfl, rfl, rfl, rfl, rfl, rfl, rfl, rfl, rfl, rfl, rfl, rfl, rfl, rfl, rfl, rfl, rfl, rfl, rfl⟩

@[simp] theorem State.mastered_fields (s : State) (w : List (BitVec 24 × Byte)) :
    (s.mastered w).regs = s.regs ∧ (s.mastered w).eip = s.eip ∧ (s.mastered w).eipNext = s.eipNext ∧
    (s.mastered w).flags = s.flags ∧ (s.mastered w).es = s.es ∧ (s.mastered w).cs = s.cs ∧ (s.mastered w).ss = s.ss ∧
    (s.mastered w).ds = s.ds ∧ (s.mastered w).fs = s.fs ∧ (s.mastered w).gs = s.gs ∧ (s.mastered w).ldtr = s.ldtr ∧
    (s.mastered w).tr = s.tr ∧ (s.mastered w).gdtr = s.gdtr ∧ (s.mastered w).idtr = s.idtr ∧ (s.mastered w).cpl = s.cpl ∧
    (s.mastered w).cr0 = s.cr0 ∧ (s.mastered w).cr2 = s.cr2 ∧ (s.mastered w).cr3 = s.cr3 ∧ (s.mastered w).dr0 = s.dr0 ∧
    (s.mastered w).dr1 = s.dr1 ∧ (s.mastered w).dr2 = s.dr2 ∧ (s.mastered w).dr3 = s.dr3 ∧ (s.mastered w).dr6 = s.dr6 ∧
    (s.mastered w).dr7 = s.dr7 ∧ (s.mastered w).tr6 = s.tr6 ∧ (s.mastered w).tr7 = s.tr7 ∧ (s.mastered w).tlb = s.tlb ∧
    (s.mastered w).queued = s.queued ∧ (s.mastered w).queuedMode = s.queuedMode ∧ (s.mastered w).nmiInService = s.nmiInService ∧
    (s.mastered w).nmiPending = s.nmiPending ∧ (s.mastered w).inhibit = s.inhibit ∧ (s.mastered w).held = s.held ∧
    (s.mastered w).run = s.run ∧ (s.mastered w).pend = s.pend ∧ (s.mastered w).pfx = s.pfx ∧ (s.mastered w).pins = s.pins ∧
    (s.mastered w).stimuli = s.stimuli ∧ (s.mastered w).bus = s.bus ∧ (s.mastered w).ioIn = s.ioIn ∧
    (s.mastered w).ioOut = s.ioOut ∧ (s.mastered w).cycles = s.cycles ∧ (s.mastered w).escCommand = s.escCommand ∧
    (s.mastered w).escDue = s.escDue ∧ (s.mastered w).platform = s.platform ∧ (s.mastered w).freeIdx = s.freeIdx ∧
    (s.mastered w).accessIdx = s.accessIdx := by
  induction w generalizing s with
  | nil => exact ⟨rfl, rfl, rfl, rfl, rfl, rfl, rfl, rfl, rfl, rfl, rfl, rfl, rfl, rfl, rfl, rfl, rfl, rfl, rfl, rfl, rfl, rfl, rfl, rfl, rfl, rfl, rfl, rfl, rfl, rfl, rfl, rfl, rfl, rfl, rfl, rfl, rfl, rfl, rfl, rfl, rfl, rfl, rfl, rfl, rfl, rfl, rfl⟩
  | cons a rest ih =>
    have h := ih (s.putByte a.1.toNat a.2)
    simp only [State.putByte_fields] at h
    exact h

@[simp] theorem State.withBus_fields (s : State) (rest : List BusTurn) :
    (s.withBus rest).regs = s.regs ∧ (s.withBus rest).eip = s.eip ∧ (s.withBus rest).eipNext = s.eipNext ∧
    (s.withBus rest).flags = s.flags ∧ (s.withBus rest).es = s.es ∧ (s.withBus rest).cs = s.cs ∧ (s.withBus rest).ss = s.ss ∧
    (s.withBus rest).ds = s.ds ∧ (s.withBus rest).fs = s.fs ∧ (s.withBus rest).gs = s.gs ∧ (s.withBus rest).ldtr = s.ldtr ∧
    (s.withBus rest).tr = s.tr ∧ (s.withBus rest).gdtr = s.gdtr ∧ (s.withBus rest).idtr = s.idtr ∧ (s.withBus rest).cpl = s.cpl ∧
    (s.withBus rest).cr0 = s.cr0 ∧ (s.withBus rest).cr2 = s.cr2 ∧ (s.withBus rest).cr3 = s.cr3 ∧ (s.withBus rest).dr0 = s.dr0 ∧
    (s.withBus rest).dr1 = s.dr1 ∧ (s.withBus rest).dr2 = s.dr2 ∧ (s.withBus rest).dr3 = s.dr3 ∧ (s.withBus rest).dr6 = s.dr6 ∧
    (s.withBus rest).dr7 = s.dr7 ∧ (s.withBus rest).tr6 = s.tr6 ∧ (s.withBus rest).tr7 = s.tr7 ∧ (s.withBus rest).tlb = s.tlb ∧
    (s.withBus rest).stale = s.stale ∧ (s.withBus rest).queued = s.queued ∧ (s.withBus rest).queuedMode = s.queuedMode ∧
    (s.withBus rest).nmiInService = s.nmiInService ∧ (s.withBus rest).nmiPending = s.nmiPending ∧
    (s.withBus rest).inhibit = s.inhibit ∧ (s.withBus rest).held = s.held ∧ (s.withBus rest).run = s.run ∧
    (s.withBus rest).pend = s.pend ∧ (s.withBus rest).pfx = s.pfx ∧ (s.withBus rest).pins = s.pins ∧
    (s.withBus rest).stimuli = s.stimuli ∧ (s.withBus rest).mem = s.mem ∧ (s.withBus rest).ioIn = s.ioIn ∧
    (s.withBus rest).ioOut = s.ioOut ∧ (s.withBus rest).cycles = s.cycles ∧ (s.withBus rest).escCommand = s.escCommand ∧
    (s.withBus rest).escDue = s.escDue ∧ (s.withBus rest).platform = s.platform ∧ (s.withBus rest).freeIdx = s.freeIdx ∧
    (s.withBus rest).accessIdx = s.accessIdx ∧ (s.withBus rest).bus = rest :=
  ⟨rfl, rfl, rfl, rfl, rfl, rfl, rfl, rfl, rfl, rfl, rfl, rfl, rfl, rfl, rfl, rfl, rfl, rfl, rfl, rfl, rfl, rfl, rfl, rfl, rfl, rfl, rfl, rfl, rfl, rfl, rfl, rfl, rfl, rfl, rfl, rfl, rfl, rfl, rfl, rfl, rfl, rfl, rfl, rfl, rfl, rfl, rfl, rfl, rfl⟩

/-- What other bus masters do between a read and a write changes memory, and what the queues may hold, only. -/
@[simp] theorem State.between_fields (s : State) :
    (s.between).regs = s.regs ∧ (s.between).eip = s.eip ∧ (s.between).eipNext = s.eipNext ∧ (s.between).flags = s.flags ∧
    (s.between).es = s.es ∧ (s.between).cs = s.cs ∧ (s.between).ss = s.ss ∧ (s.between).ds = s.ds ∧ (s.between).fs = s.fs ∧
    (s.between).gs = s.gs ∧ (s.between).ldtr = s.ldtr ∧ (s.between).tr = s.tr ∧ (s.between).gdtr = s.gdtr ∧
    (s.between).idtr = s.idtr ∧ (s.between).cpl = s.cpl ∧ (s.between).cr0 = s.cr0 ∧ (s.between).cr2 = s.cr2 ∧
    (s.between).cr3 = s.cr3 ∧ (s.between).dr0 = s.dr0 ∧ (s.between).dr1 = s.dr1 ∧ (s.between).dr2 = s.dr2 ∧
    (s.between).dr3 = s.dr3 ∧ (s.between).dr6 = s.dr6 ∧ (s.between).dr7 = s.dr7 ∧ (s.between).tr6 = s.tr6 ∧
    (s.between).tr7 = s.tr7 ∧ (s.between).tlb = s.tlb ∧ (s.between).queued = s.queued ∧ (s.between).queuedMode = s.queuedMode ∧
    (s.between).nmiInService = s.nmiInService ∧ (s.between).nmiPending = s.nmiPending ∧ (s.between).inhibit = s.inhibit ∧
    (s.between).held = s.held ∧ (s.between).run = s.run ∧ (s.between).pend = s.pend ∧ (s.between).pfx = s.pfx ∧
    (s.between).pins = s.pins ∧ (s.between).stimuli = s.stimuli ∧ (s.between).ioIn = s.ioIn ∧ (s.between).ioOut = s.ioOut ∧
    (s.between).cycles = s.cycles ∧ (s.between).escCommand = s.escCommand ∧ (s.between).escDue = s.escDue ∧
    (s.between).platform = s.platform ∧ (s.between).freeIdx = s.freeIdx ∧ (s.between).accessIdx = s.accessIdx := by
  unfold State.between
  split
  · simp
  · split
    · simp
    · split
      · simp
      · simp

@[simp] theorem State.writeKeys_fields (s : State) (keys : List Nat) (v : Word) :
    (s.writeKeys keys v).regs = s.regs ∧ (s.writeKeys keys v).eip = s.eip ∧ (s.writeKeys keys v).eipNext = s.eipNext ∧
    (s.writeKeys keys v).flags = s.flags ∧ (s.writeKeys keys v).es = s.es ∧ (s.writeKeys keys v).cs = s.cs ∧
    (s.writeKeys keys v).ss = s.ss ∧ (s.writeKeys keys v).ds = s.ds ∧ (s.writeKeys keys v).fs = s.fs ∧
    (s.writeKeys keys v).gs = s.gs ∧ (s.writeKeys keys v).ldtr = s.ldtr ∧ (s.writeKeys keys v).tr = s.tr ∧
    (s.writeKeys keys v).gdtr = s.gdtr ∧ (s.writeKeys keys v).idtr = s.idtr ∧ (s.writeKeys keys v).cpl = s.cpl ∧
    (s.writeKeys keys v).cr0 = s.cr0 ∧ (s.writeKeys keys v).cr2 = s.cr2 ∧ (s.writeKeys keys v).cr3 = s.cr3 ∧
    (s.writeKeys keys v).dr0 = s.dr0 ∧ (s.writeKeys keys v).dr1 = s.dr1 ∧ (s.writeKeys keys v).dr2 = s.dr2 ∧
    (s.writeKeys keys v).dr3 = s.dr3 ∧ (s.writeKeys keys v).dr6 = s.dr6 ∧ (s.writeKeys keys v).dr7 = s.dr7 ∧
    (s.writeKeys keys v).tr6 = s.tr6 ∧ (s.writeKeys keys v).tr7 = s.tr7 ∧ (s.writeKeys keys v).tlb = s.tlb ∧
    (s.writeKeys keys v).queued = s.queued ∧ (s.writeKeys keys v).queuedMode = s.queuedMode ∧
    (s.writeKeys keys v).nmiInService = s.nmiInService ∧ (s.writeKeys keys v).nmiPending = s.nmiPending ∧
    (s.writeKeys keys v).inhibit = s.inhibit ∧ (s.writeKeys keys v).held = s.held ∧ (s.writeKeys keys v).run = s.run ∧
    (s.writeKeys keys v).pend = s.pend ∧ (s.writeKeys keys v).pfx = s.pfx ∧ (s.writeKeys keys v).pins = s.pins ∧
    (s.writeKeys keys v).stimuli = s.stimuli ∧ (s.writeKeys keys v).bus = s.bus ∧ (s.writeKeys keys v).ioIn = s.ioIn ∧
    (s.writeKeys keys v).ioOut = s.ioOut ∧ (s.writeKeys keys v).cycles = s.cycles ∧
    (s.writeKeys keys v).escCommand = s.escCommand ∧ (s.writeKeys keys v).escDue = s.escDue ∧
    (s.writeKeys keys v).platform = s.platform ∧ (s.writeKeys keys v).freeIdx = s.freeIdx ∧
    (s.writeKeys keys v).accessIdx = s.accessIdx := by
  induction keys generalizing s v with
  | nil => exact ⟨rfl, rfl, rfl, rfl, rfl, rfl, rfl, rfl, rfl, rfl, rfl, rfl, rfl, rfl, rfl, rfl, rfl, rfl, rfl, rfl, rfl, rfl, rfl, rfl, rfl, rfl, rfl, rfl, rfl, rfl, rfl, rfl, rfl, rfl, rfl, rfl, rfl, rfl, rfl, rfl, rfl, rfl, rfl, rfl, rfl, rfl, rfl⟩
  | cons a rest ih =>
    have h := ih (s.putByte a (v.setWidth 8)) (v >>> 8)
    simp only [State.putByte_fields] at h
    exact h

@[simp] theorem State.ioWrite_fields (s : State) (port : Half) (n : Nat) (v : Word) :
    (s.ioWrite port n v).regs = s.regs ∧ (s.ioWrite port n v).eip = s.eip ∧ (s.ioWrite port n v).eipNext = s.eipNext ∧
    (s.ioWrite port n v).flags = s.flags ∧ (s.ioWrite port n v).es = s.es ∧ (s.ioWrite port n v).cs = s.cs ∧
    (s.ioWrite port n v).ss = s.ss ∧ (s.ioWrite port n v).ds = s.ds ∧ (s.ioWrite port n v).fs = s.fs ∧
    (s.ioWrite port n v).gs = s.gs ∧ (s.ioWrite port n v).ldtr = s.ldtr ∧ (s.ioWrite port n v).tr = s.tr ∧
    (s.ioWrite port n v).gdtr = s.gdtr ∧ (s.ioWrite port n v).idtr = s.idtr ∧ (s.ioWrite port n v).cpl = s.cpl ∧
    (s.ioWrite port n v).cr0 = s.cr0 ∧ (s.ioWrite port n v).cr2 = s.cr2 ∧ (s.ioWrite port n v).cr3 = s.cr3 ∧
    (s.ioWrite port n v).dr0 = s.dr0 ∧ (s.ioWrite port n v).dr1 = s.dr1 ∧ (s.ioWrite port n v).dr2 = s.dr2 ∧
    (s.ioWrite port n v).dr3 = s.dr3 ∧ (s.ioWrite port n v).dr6 = s.dr6 ∧ (s.ioWrite port n v).dr7 = s.dr7 ∧
    (s.ioWrite port n v).tr6 = s.tr6 ∧ (s.ioWrite port n v).tr7 = s.tr7 ∧ (s.ioWrite port n v).tlb = s.tlb ∧
    (s.ioWrite port n v).stale = s.stale ∧ (s.ioWrite port n v).queued = s.queued ∧
    (s.ioWrite port n v).queuedMode = s.queuedMode ∧ (s.ioWrite port n v).nmiInService = s.nmiInService ∧
    (s.ioWrite port n v).nmiPending = s.nmiPending ∧ (s.ioWrite port n v).inhibit = s.inhibit ∧
    (s.ioWrite port n v).held = s.held ∧ (s.ioWrite port n v).run = s.run ∧ (s.ioWrite port n v).pend = s.pend ∧
    (s.ioWrite port n v).pfx = s.pfx ∧ (s.ioWrite port n v).pins = s.pins ∧ (s.ioWrite port n v).stimuli = s.stimuli ∧
    (s.ioWrite port n v).bus = s.bus ∧ (s.ioWrite port n v).mem = s.mem ∧ (s.ioWrite port n v).ioIn = s.ioIn ∧
    (s.ioWrite port n v).cycles = s.cycles ∧ (s.ioWrite port n v).escCommand = s.escCommand ∧
    (s.ioWrite port n v).escDue = s.escDue ∧ (s.ioWrite port n v).platform = s.platform ∧
    (s.ioWrite port n v).freeIdx = s.freeIdx ∧ (s.ioWrite port n v).accessIdx = s.accessIdx := by
  induction n generalizing s port v with
  | zero => exact ⟨rfl, rfl, rfl, rfl, rfl, rfl, rfl, rfl, rfl, rfl, rfl, rfl, rfl, rfl, rfl, rfl, rfl, rfl, rfl, rfl, rfl, rfl, rfl, rfl, rfl, rfl, rfl, rfl, rfl, rfl, rfl, rfl, rfl, rfl, rfl, rfl, rfl, rfl, rfl, rfl, rfl, rfl, rfl, rfl, rfl, rfl, rfl, rfl⟩
  | succ n ih => exact ih { s with ioOut := (port.toNat, v.setWidth 8) :: s.ioOut } (port + 1) (v >>> 8)

@[simp] theorem State.cacheEntry_fields (s : State) (e : TlbEntry) :
    (s.cacheEntry e).regs = s.regs ∧ (s.cacheEntry e).eip = s.eip ∧ (s.cacheEntry e).eipNext = s.eipNext ∧
    (s.cacheEntry e).flags = s.flags ∧ (s.cacheEntry e).es = s.es ∧ (s.cacheEntry e).cs = s.cs ∧ (s.cacheEntry e).ss = s.ss ∧
    (s.cacheEntry e).ds = s.ds ∧ (s.cacheEntry e).fs = s.fs ∧ (s.cacheEntry e).gs = s.gs ∧ (s.cacheEntry e).ldtr = s.ldtr ∧
    (s.cacheEntry e).tr = s.tr ∧ (s.cacheEntry e).gdtr = s.gdtr ∧ (s.cacheEntry e).idtr = s.idtr ∧ (s.cacheEntry e).cpl = s.cpl ∧
    (s.cacheEntry e).cr0 = s.cr0 ∧ (s.cacheEntry e).cr2 = s.cr2 ∧ (s.cacheEntry e).cr3 = s.cr3 ∧ (s.cacheEntry e).dr0 = s.dr0 ∧
    (s.cacheEntry e).dr1 = s.dr1 ∧ (s.cacheEntry e).dr2 = s.dr2 ∧ (s.cacheEntry e).dr3 = s.dr3 ∧ (s.cacheEntry e).dr6 = s.dr6 ∧
    (s.cacheEntry e).dr7 = s.dr7 ∧ (s.cacheEntry e).tr6 = s.tr6 ∧ (s.cacheEntry e).tr7 = s.tr7 ∧ (s.cacheEntry e).stale = s.stale ∧
    (s.cacheEntry e).queuedMode = s.queuedMode ∧ (s.cacheEntry e).nmiInService = s.nmiInService ∧
    (s.cacheEntry e).nmiPending = s.nmiPending ∧ (s.cacheEntry e).inhibit = s.inhibit ∧ (s.cacheEntry e).held = s.held ∧
    (s.cacheEntry e).run = s.run ∧ (s.cacheEntry e).pend = s.pend ∧ (s.cacheEntry e).pfx = s.pfx ∧ (s.cacheEntry e).pins = s.pins ∧
    (s.cacheEntry e).stimuli = s.stimuli ∧ (s.cacheEntry e).bus = s.bus ∧ (s.cacheEntry e).mem = s.mem ∧ (s.cacheEntry e).ioIn = s.ioIn ∧
    (s.cacheEntry e).ioOut = s.ioOut ∧ (s.cacheEntry e).cycles = s.cycles ∧ (s.cacheEntry e).escCommand = s.escCommand ∧
    (s.cacheEntry e).escDue = s.escDue ∧ (s.cacheEntry e).platform = s.platform ∧ (s.cacheEntry e).freeIdx = s.freeIdx ∧
    (s.cacheEntry e).accessIdx = s.accessIdx :=
  ⟨rfl, rfl, rfl, rfl, rfl, rfl, rfl, rfl, rfl, rfl, rfl, rfl, rfl, rfl, rfl, rfl, rfl, rfl, rfl, rfl, rfl, rfl, rfl, rfl, rfl, rfl, rfl, rfl, rfl, rfl, rfl, rfl, rfl, rfl, rfl, rfl, rfl, rfl, rfl, rfl, rfl, rfl, rfl, rfl, rfl, rfl, rfl⟩

@[simp] theorem State.noteData_fields (s : State) (la : Word) (nb : Nat) (write : Bool) :
    (s.noteData la nb write).regs = s.regs ∧ (s.noteData la nb write).eip = s.eip ∧ (s.noteData la nb write).eipNext = s.eipNext ∧
    (s.noteData la nb write).flags = s.flags ∧ (s.noteData la nb write).es = s.es ∧ (s.noteData la nb write).cs = s.cs ∧
    (s.noteData la nb write).ss = s.ss ∧ (s.noteData la nb write).ds = s.ds ∧ (s.noteData la nb write).fs = s.fs ∧
    (s.noteData la nb write).gs = s.gs ∧ (s.noteData la nb write).ldtr = s.ldtr ∧ (s.noteData la nb write).tr = s.tr ∧
    (s.noteData la nb write).gdtr = s.gdtr ∧ (s.noteData la nb write).idtr = s.idtr ∧ (s.noteData la nb write).cpl = s.cpl ∧
    (s.noteData la nb write).cr0 = s.cr0 ∧ (s.noteData la nb write).cr2 = s.cr2 ∧ (s.noteData la nb write).cr3 = s.cr3 ∧
    (s.noteData la nb write).dr0 = s.dr0 ∧ (s.noteData la nb write).dr1 = s.dr1 ∧ (s.noteData la nb write).dr2 = s.dr2 ∧
    (s.noteData la nb write).dr3 = s.dr3 ∧ (s.noteData la nb write).dr6 = s.dr6 ∧ (s.noteData la nb write).dr7 = s.dr7 ∧
    (s.noteData la nb write).tr6 = s.tr6 ∧ (s.noteData la nb write).tr7 = s.tr7 ∧ (s.noteData la nb write).tlb = s.tlb ∧
    (s.noteData la nb write).stale = s.stale ∧ (s.noteData la nb write).queued = s.queued ∧
    (s.noteData la nb write).queuedMode = s.queuedMode ∧ (s.noteData la nb write).nmiInService = s.nmiInService ∧
    (s.noteData la nb write).nmiPending = s.nmiPending ∧ (s.noteData la nb write).inhibit = s.inhibit ∧
    (s.noteData la nb write).held = s.held ∧ (s.noteData la nb write).run = s.run ∧ (s.noteData la nb write).pfx = s.pfx ∧
    (s.noteData la nb write).pins = s.pins ∧ (s.noteData la nb write).stimuli = s.stimuli ∧ (s.noteData la nb write).bus = s.bus ∧
    (s.noteData la nb write).mem = s.mem ∧ (s.noteData la nb write).ioIn = s.ioIn ∧ (s.noteData la nb write).ioOut = s.ioOut ∧
    (s.noteData la nb write).cycles = s.cycles ∧ (s.noteData la nb write).escCommand = s.escCommand ∧
    (s.noteData la nb write).escDue = s.escDue ∧ (s.noteData la nb write).platform = s.platform ∧
    (s.noteData la nb write).freeIdx = s.freeIdx ∧ (s.noteData la nb write).accessIdx = s.accessIdx + 1 :=
  ⟨rfl, rfl, rfl, rfl, rfl, rfl, rfl, rfl, rfl, rfl, rfl, rfl, rfl, rfl, rfl, rfl, rfl, rfl, rfl, rfl, rfl, rfl, rfl, rfl, rfl, rfl, rfl, rfl, rfl, rfl, rfl, rfl, rfl, rfl, rfl, rfl, rfl, rfl, rfl, rfl, rfl, rfl, rfl, rfl, rfl, rfl, rfl, rfl⟩

@[simp] theorem State.nextAccess_fields (s : State)  :
    (s.nextAccess).regs = s.regs ∧ (s.nextAccess).eip = s.eip ∧ (s.nextAccess).eipNext = s.eipNext ∧
    (s.nextAccess).flags = s.flags ∧ (s.nextAccess).es = s.es ∧ (s.nextAccess).cs = s.cs ∧ (s.nextAccess).ss = s.ss ∧
    (s.nextAccess).ds = s.ds ∧ (s.nextAccess).fs = s.fs ∧ (s.nextAccess).gs = s.gs ∧ (s.nextAccess).ldtr = s.ldtr ∧
    (s.nextAccess).tr = s.tr ∧ (s.nextAccess).gdtr = s.gdtr ∧ (s.nextAccess).idtr = s.idtr ∧ (s.nextAccess).cpl = s.cpl ∧
    (s.nextAccess).cr0 = s.cr0 ∧ (s.nextAccess).cr2 = s.cr2 ∧ (s.nextAccess).cr3 = s.cr3 ∧ (s.nextAccess).dr0 = s.dr0 ∧
    (s.nextAccess).dr1 = s.dr1 ∧ (s.nextAccess).dr2 = s.dr2 ∧ (s.nextAccess).dr3 = s.dr3 ∧ (s.nextAccess).dr6 = s.dr6 ∧
    (s.nextAccess).dr7 = s.dr7 ∧ (s.nextAccess).tr6 = s.tr6 ∧ (s.nextAccess).tr7 = s.tr7 ∧ (s.nextAccess).tlb = s.tlb ∧
    (s.nextAccess).stale = s.stale ∧ (s.nextAccess).queued = s.queued ∧ (s.nextAccess).queuedMode = s.queuedMode ∧
    (s.nextAccess).nmiInService = s.nmiInService ∧ (s.nextAccess).nmiPending = s.nmiPending ∧ (s.nextAccess).inhibit = s.inhibit ∧
    (s.nextAccess).held = s.held ∧ (s.nextAccess).run = s.run ∧ (s.nextAccess).pend = s.pend ∧ (s.nextAccess).pfx = s.pfx ∧
    (s.nextAccess).pins = s.pins ∧ (s.nextAccess).stimuli = s.stimuli ∧ (s.nextAccess).bus = s.bus ∧ (s.nextAccess).mem = s.mem ∧
    (s.nextAccess).ioIn = s.ioIn ∧ (s.nextAccess).ioOut = s.ioOut ∧ (s.nextAccess).cycles = s.cycles ∧
    (s.nextAccess).escCommand = s.escCommand ∧ (s.nextAccess).escDue = s.escDue ∧ (s.nextAccess).platform = s.platform ∧
    (s.nextAccess).freeIdx = s.freeIdx ∧ (s.nextAccess).accessIdx = s.accessIdx + 1 :=
  ⟨rfl, rfl, rfl, rfl, rfl, rfl, rfl, rfl, rfl, rfl, rfl, rfl, rfl, rfl, rfl, rfl, rfl, rfl, rfl, rfl, rfl, rfl, rfl, rfl, rfl, rfl, rfl, rfl, rfl, rfl, rfl, rfl, rfl, rfl, rfl, rfl, rfl, rfl, rfl, rfl, rfl, rfl, rfl, rfl, rfl, rfl, rfl, rfl, rfl⟩

@[simp] theorem State.dropEntry_fields (s : State) (la : Word) :
    (s.dropEntry la).regs = s.regs ∧ (s.dropEntry la).eip = s.eip ∧ (s.dropEntry la).eipNext = s.eipNext ∧
    (s.dropEntry la).flags = s.flags ∧ (s.dropEntry la).es = s.es ∧ (s.dropEntry la).cs = s.cs ∧ (s.dropEntry la).ss = s.ss ∧
    (s.dropEntry la).ds = s.ds ∧ (s.dropEntry la).fs = s.fs ∧ (s.dropEntry la).gs = s.gs ∧ (s.dropEntry la).ldtr = s.ldtr ∧
    (s.dropEntry la).tr = s.tr ∧ (s.dropEntry la).gdtr = s.gdtr ∧ (s.dropEntry la).idtr = s.idtr ∧ (s.dropEntry la).cpl = s.cpl ∧
    (s.dropEntry la).cr0 = s.cr0 ∧ (s.dropEntry la).cr2 = s.cr2 ∧ (s.dropEntry la).cr3 = s.cr3 ∧ (s.dropEntry la).dr0 = s.dr0 ∧
    (s.dropEntry la).dr1 = s.dr1 ∧ (s.dropEntry la).dr2 = s.dr2 ∧ (s.dropEntry la).dr3 = s.dr3 ∧ (s.dropEntry la).dr6 = s.dr6 ∧
    (s.dropEntry la).dr7 = s.dr7 ∧ (s.dropEntry la).tr6 = s.tr6 ∧ (s.dropEntry la).tr7 = s.tr7 ∧ (s.dropEntry la).stale = s.stale ∧
    (s.dropEntry la).queued = (s.tlb.filter fun x => x.vpn == pageOf la).flatMap s.readThrough ++ s.queued ∧
    (s.dropEntry la).queuedMode = s.queuedMode ∧ (s.dropEntry la).nmiInService = s.nmiInService ∧
    (s.dropEntry la).nmiPending = s.nmiPending ∧ (s.dropEntry la).inhibit = s.inhibit ∧ (s.dropEntry la).held = s.held ∧
    (s.dropEntry la).run = s.run ∧ (s.dropEntry la).pend = s.pend ∧ (s.dropEntry la).pfx = s.pfx ∧ (s.dropEntry la).pins = s.pins ∧
    (s.dropEntry la).stimuli = s.stimuli ∧ (s.dropEntry la).bus = s.bus ∧ (s.dropEntry la).mem = s.mem ∧ (s.dropEntry la).ioIn = s.ioIn ∧
    (s.dropEntry la).ioOut = s.ioOut ∧ (s.dropEntry la).cycles = s.cycles ∧ (s.dropEntry la).escCommand = s.escCommand ∧
    (s.dropEntry la).escDue = s.escDue ∧ (s.dropEntry la).platform = s.platform ∧ (s.dropEntry la).freeIdx = s.freeIdx ∧
    (s.dropEntry la).accessIdx = s.accessIdx ∧ (s.dropEntry la).tlb = s.tlb.filter (fun x => x.vpn != pageOf la) :=
  ⟨rfl, rfl, rfl, rfl, rfl, rfl, rfl, rfl, rfl, rfl, rfl, rfl, rfl, rfl, rfl, rfl, rfl, rfl, rfl, rfl, rfl, rfl, rfl, rfl, rfl, rfl, rfl, rfl, rfl, rfl, rfl, rfl, rfl, rfl, rfl, rfl, rfl, rfl, rfl, rfl, rfl, rfl, rfl, rfl, rfl, rfl, rfl, rfl, rfl⟩

@[simp] theorem State.keepQueues_fields (s : State)  :
    (s.keepQueues).regs = s.regs ∧ (s.keepQueues).eip = s.eip ∧ (s.keepQueues).eipNext = s.eipNext ∧
    (s.keepQueues).flags = s.flags ∧ (s.keepQueues).es = s.es ∧ (s.keepQueues).cs = s.cs ∧ (s.keepQueues).ss = s.ss ∧
    (s.keepQueues).ds = s.ds ∧ (s.keepQueues).fs = s.fs ∧ (s.keepQueues).gs = s.gs ∧ (s.keepQueues).ldtr = s.ldtr ∧
    (s.keepQueues).tr = s.tr ∧ (s.keepQueues).gdtr = s.gdtr ∧ (s.keepQueues).idtr = s.idtr ∧ (s.keepQueues).cpl = s.cpl ∧
    (s.keepQueues).cr0 = s.cr0 ∧ (s.keepQueues).cr2 = s.cr2 ∧ (s.keepQueues).cr3 = s.cr3 ∧ (s.keepQueues).dr0 = s.dr0 ∧
    (s.keepQueues).dr1 = s.dr1 ∧ (s.keepQueues).dr2 = s.dr2 ∧ (s.keepQueues).dr3 = s.dr3 ∧ (s.keepQueues).dr6 = s.dr6 ∧
    (s.keepQueues).dr7 = s.dr7 ∧ (s.keepQueues).tr6 = s.tr6 ∧ (s.keepQueues).tr7 = s.tr7 ∧ (s.keepQueues).tlb = s.tlb ∧
    (s.keepQueues).stale = s.stale ∧ (s.keepQueues).queuedMode = s.queuedMode ∧ (s.keepQueues).nmiInService = s.nmiInService ∧
    (s.keepQueues).nmiPending = s.nmiPending ∧ (s.keepQueues).inhibit = s.inhibit ∧ (s.keepQueues).held = s.held ∧
    (s.keepQueues).run = s.run ∧ (s.keepQueues).pend = s.pend ∧ (s.keepQueues).pfx = s.pfx ∧ (s.keepQueues).pins = s.pins ∧
    (s.keepQueues).stimuli = s.stimuli ∧ (s.keepQueues).bus = s.bus ∧ (s.keepQueues).mem = s.mem ∧ (s.keepQueues).ioIn = s.ioIn ∧
    (s.keepQueues).ioOut = s.ioOut ∧ (s.keepQueues).cycles = s.cycles ∧ (s.keepQueues).escCommand = s.escCommand ∧
    (s.keepQueues).escDue = s.escDue ∧ (s.keepQueues).platform = s.platform ∧ (s.keepQueues).freeIdx = s.freeIdx ∧
    (s.keepQueues).accessIdx = s.accessIdx ∧ (s.keepQueues).queued = s.readAhead ++ s.queued :=
  ⟨rfl, rfl, rfl, rfl, rfl, rfl, rfl, rfl, rfl, rfl, rfl, rfl, rfl, rfl, rfl, rfl, rfl, rfl, rfl, rfl, rfl, rfl, rfl, rfl, rfl, rfl, rfl, rfl, rfl, rfl, rfl, rfl, rfl, rfl, rfl, rfl, rfl, rfl, rfl, rfl, rfl, rfl, rfl, rfl, rfl, rfl, rfl, rfl, rfl⟩

@[simp] theorem State.keepEntries_fields (s : State) (gone : List TlbEntry) :
    (s.keepEntries gone).regs = s.regs ∧ (s.keepEntries gone).eip = s.eip ∧ (s.keepEntries gone).eipNext = s.eipNext ∧
    (s.keepEntries gone).flags = s.flags ∧ (s.keepEntries gone).es = s.es ∧ (s.keepEntries gone).cs = s.cs ∧
    (s.keepEntries gone).ss = s.ss ∧ (s.keepEntries gone).ds = s.ds ∧ (s.keepEntries gone).fs = s.fs ∧ (s.keepEntries gone).gs = s.gs ∧
    (s.keepEntries gone).ldtr = s.ldtr ∧ (s.keepEntries gone).tr = s.tr ∧ (s.keepEntries gone).gdtr = s.gdtr ∧
    (s.keepEntries gone).idtr = s.idtr ∧ (s.keepEntries gone).cpl = s.cpl ∧ (s.keepEntries gone).cr0 = s.cr0 ∧
    (s.keepEntries gone).cr2 = s.cr2 ∧ (s.keepEntries gone).cr3 = s.cr3 ∧ (s.keepEntries gone).dr0 = s.dr0 ∧
    (s.keepEntries gone).dr1 = s.dr1 ∧ (s.keepEntries gone).dr2 = s.dr2 ∧ (s.keepEntries gone).dr3 = s.dr3 ∧
    (s.keepEntries gone).dr6 = s.dr6 ∧ (s.keepEntries gone).dr7 = s.dr7 ∧ (s.keepEntries gone).tr6 = s.tr6 ∧
    (s.keepEntries gone).tr7 = s.tr7 ∧ (s.keepEntries gone).tlb = s.tlb ∧ (s.keepEntries gone).stale = s.stale ∧
    (s.keepEntries gone).queuedMode = s.queuedMode ∧ (s.keepEntries gone).nmiInService = s.nmiInService ∧
    (s.keepEntries gone).nmiPending = s.nmiPending ∧ (s.keepEntries gone).inhibit = s.inhibit ∧ (s.keepEntries gone).held = s.held ∧
    (s.keepEntries gone).run = s.run ∧ (s.keepEntries gone).pend = s.pend ∧ (s.keepEntries gone).pfx = s.pfx ∧
    (s.keepEntries gone).pins = s.pins ∧ (s.keepEntries gone).stimuli = s.stimuli ∧ (s.keepEntries gone).bus = s.bus ∧
    (s.keepEntries gone).mem = s.mem ∧ (s.keepEntries gone).ioIn = s.ioIn ∧ (s.keepEntries gone).ioOut = s.ioOut ∧
    (s.keepEntries gone).cycles = s.cycles ∧ (s.keepEntries gone).escCommand = s.escCommand ∧ (s.keepEntries gone).escDue = s.escDue ∧
    (s.keepEntries gone).platform = s.platform ∧ (s.keepEntries gone).freeIdx = s.freeIdx ∧ (s.keepEntries gone).accessIdx = s.accessIdx ∧
    (s.keepEntries gone).queued = gone.flatMap s.readThrough ++ s.queued :=
  ⟨rfl, rfl, rfl, rfl, rfl, rfl, rfl, rfl, rfl, rfl, rfl, rfl, rfl, rfl, rfl, rfl, rfl, rfl, rfl, rfl, rfl, rfl, rfl, rfl, rfl, rfl, rfl, rfl, rfl, rfl, rfl, rfl, rfl, rfl, rfl, rfl, rfl, rfl, rfl, rfl, rfl, rfl, rfl, rfl, rfl, rfl, rfl, rfl, rfl⟩

@[simp] theorem State.flushQueues_fields (s : State)  :
    (s.flushQueues).regs = s.regs ∧ (s.flushQueues).eip = s.eip ∧ (s.flushQueues).eipNext = s.eipNext ∧
    (s.flushQueues).flags = s.flags ∧ (s.flushQueues).es = s.es ∧ (s.flushQueues).cs = s.cs ∧ (s.flushQueues).ss = s.ss ∧
    (s.flushQueues).ds = s.ds ∧ (s.flushQueues).fs = s.fs ∧ (s.flushQueues).gs = s.gs ∧ (s.flushQueues).ldtr = s.ldtr ∧
    (s.flushQueues).tr = s.tr ∧ (s.flushQueues).gdtr = s.gdtr ∧ (s.flushQueues).idtr = s.idtr ∧ (s.flushQueues).cpl = s.cpl ∧
    (s.flushQueues).cr0 = s.cr0 ∧ (s.flushQueues).cr2 = s.cr2 ∧ (s.flushQueues).cr3 = s.cr3 ∧ (s.flushQueues).dr0 = s.dr0 ∧
    (s.flushQueues).dr1 = s.dr1 ∧ (s.flushQueues).dr2 = s.dr2 ∧ (s.flushQueues).dr3 = s.dr3 ∧ (s.flushQueues).dr6 = s.dr6 ∧
    (s.flushQueues).dr7 = s.dr7 ∧ (s.flushQueues).tr6 = s.tr6 ∧ (s.flushQueues).tr7 = s.tr7 ∧ (s.flushQueues).tlb = s.tlb ∧
    (s.flushQueues).nmiInService = s.nmiInService ∧ (s.flushQueues).nmiPending = s.nmiPending ∧
    (s.flushQueues).inhibit = s.inhibit ∧ (s.flushQueues).held = s.held ∧ (s.flushQueues).run = s.run ∧
    (s.flushQueues).pend = s.pend ∧ (s.flushQueues).pfx = s.pfx ∧ (s.flushQueues).pins = s.pins ∧
    (s.flushQueues).stimuli = s.stimuli ∧ (s.flushQueues).bus = s.bus ∧ (s.flushQueues).mem = s.mem ∧
    (s.flushQueues).ioIn = s.ioIn ∧ (s.flushQueues).ioOut = s.ioOut ∧ (s.flushQueues).cycles = s.cycles ∧
    (s.flushQueues).escCommand = s.escCommand ∧ (s.flushQueues).escDue = s.escDue ∧ (s.flushQueues).platform = s.platform ∧
    (s.flushQueues).freeIdx = s.freeIdx ∧ (s.flushQueues).accessIdx = s.accessIdx ∧ (s.flushQueues).stale = [] ∧
    (s.flushQueues).queued = [] ∧ (s.flushQueues).queuedMode = none :=
  ⟨rfl, rfl, rfl, rfl, rfl, rfl, rfl, rfl, rfl, rfl, rfl, rfl, rfl, rfl, rfl, rfl, rfl, rfl, rfl, rfl, rfl, rfl, rfl, rfl, rfl, rfl, rfl, rfl, rfl, rfl, rfl, rfl, rfl, rfl, rfl, rfl, rfl, rfl, rfl, rfl, rfl, rfl, rfl, rfl, rfl, rfl, rfl, rfl, rfl⟩

/-! The beginning and the end of an instruction. -/

@[simp] theorem State.clearRf_fields (s : State)  :
    (s.clearRf).regs = s.regs ∧ (s.clearRf).eip = s.eip ∧ (s.clearRf).eipNext = s.eipNext ∧ (s.clearRf).es = s.es ∧
    (s.clearRf).cs = s.cs ∧ (s.clearRf).ss = s.ss ∧ (s.clearRf).ds = s.ds ∧ (s.clearRf).fs = s.fs ∧ (s.clearRf).gs = s.gs ∧
    (s.clearRf).ldtr = s.ldtr ∧ (s.clearRf).tr = s.tr ∧ (s.clearRf).gdtr = s.gdtr ∧ (s.clearRf).idtr = s.idtr ∧
    (s.clearRf).cpl = s.cpl ∧ (s.clearRf).cr0 = s.cr0 ∧ (s.clearRf).cr2 = s.cr2 ∧ (s.clearRf).cr3 = s.cr3 ∧
    (s.clearRf).dr0 = s.dr0 ∧ (s.clearRf).dr1 = s.dr1 ∧ (s.clearRf).dr2 = s.dr2 ∧ (s.clearRf).dr3 = s.dr3 ∧
    (s.clearRf).dr6 = s.dr6 ∧ (s.clearRf).dr7 = s.dr7 ∧ (s.clearRf).tr6 = s.tr6 ∧ (s.clearRf).tr7 = s.tr7 ∧
    (s.clearRf).tlb = s.tlb ∧ (s.clearRf).stale = s.stale ∧ (s.clearRf).queued = s.queued ∧ (s.clearRf).queuedMode = s.queuedMode ∧
    (s.clearRf).nmiInService = s.nmiInService ∧ (s.clearRf).nmiPending = s.nmiPending ∧ (s.clearRf).inhibit = s.inhibit ∧
    (s.clearRf).held = s.held ∧ (s.clearRf).run = s.run ∧ (s.clearRf).pend = s.pend ∧ (s.clearRf).pfx = s.pfx ∧
    (s.clearRf).pins = s.pins ∧ (s.clearRf).stimuli = s.stimuli ∧ (s.clearRf).bus = s.bus ∧ (s.clearRf).mem = s.mem ∧
    (s.clearRf).ioIn = s.ioIn ∧ (s.clearRf).ioOut = s.ioOut ∧ (s.clearRf).cycles = s.cycles ∧
    (s.clearRf).escCommand = s.escCommand ∧ (s.clearRf).escDue = s.escDue ∧ (s.clearRf).platform = s.platform ∧
    (s.clearRf).freeIdx = s.freeIdx ∧ (s.clearRf).accessIdx = s.accessIdx ∧ (s.clearRf).flags = { s.flags with rf := false } :=
  ⟨rfl, rfl, rfl, rfl, rfl, rfl, rfl, rfl, rfl, rfl, rfl, rfl, rfl, rfl, rfl, rfl, rfl, rfl, rfl, rfl, rfl, rfl, rfl, rfl, rfl, rfl, rfl, rfl, rfl, rfl, rfl, rfl, rfl, rfl, rfl, rfl, rfl, rfl, rfl, rfl, rfl, rfl, rfl, rfl, rfl, rfl, rfl, rfl, rfl⟩

@[simp] theorem State.toNext_fields (s : State)  :
    (s.toNext).regs = s.regs ∧ (s.toNext).eipNext = s.eipNext ∧ (s.toNext).flags = s.flags ∧ (s.toNext).es = s.es ∧
    (s.toNext).cs = s.cs ∧ (s.toNext).ss = s.ss ∧ (s.toNext).ds = s.ds ∧ (s.toNext).fs = s.fs ∧ (s.toNext).gs = s.gs ∧
    (s.toNext).ldtr = s.ldtr ∧ (s.toNext).tr = s.tr ∧ (s.toNext).gdtr = s.gdtr ∧ (s.toNext).idtr = s.idtr ∧
    (s.toNext).cpl = s.cpl ∧ (s.toNext).cr0 = s.cr0 ∧ (s.toNext).cr2 = s.cr2 ∧ (s.toNext).cr3 = s.cr3 ∧ (s.toNext).dr0 = s.dr0 ∧
    (s.toNext).dr1 = s.dr1 ∧ (s.toNext).dr2 = s.dr2 ∧ (s.toNext).dr3 = s.dr3 ∧ (s.toNext).dr6 = s.dr6 ∧ (s.toNext).dr7 = s.dr7 ∧
    (s.toNext).tr6 = s.tr6 ∧ (s.toNext).tr7 = s.tr7 ∧ (s.toNext).tlb = s.tlb ∧ (s.toNext).stale = s.stale ∧
    (s.toNext).queued = s.queued ∧ (s.toNext).queuedMode = s.queuedMode ∧ (s.toNext).nmiInService = s.nmiInService ∧
    (s.toNext).nmiPending = s.nmiPending ∧ (s.toNext).inhibit = s.inhibit ∧ (s.toNext).held = s.held ∧ (s.toNext).run = s.run ∧
    (s.toNext).pend = s.pend ∧ (s.toNext).pfx = s.pfx ∧ (s.toNext).pins = s.pins ∧ (s.toNext).stimuli = s.stimuli ∧
    (s.toNext).bus = s.bus ∧ (s.toNext).mem = s.mem ∧ (s.toNext).ioIn = s.ioIn ∧ (s.toNext).ioOut = s.ioOut ∧
    (s.toNext).cycles = s.cycles ∧ (s.toNext).escCommand = s.escCommand ∧ (s.toNext).escDue = s.escDue ∧
    (s.toNext).platform = s.platform ∧ (s.toNext).freeIdx = s.freeIdx ∧ (s.toNext).accessIdx = s.accessIdx ∧
    (s.toNext).eip = s.eipNext :=
  ⟨rfl, rfl, rfl, rfl, rfl, rfl, rfl, rfl, rfl, rfl, rfl, rfl, rfl, rfl, rfl, rfl, rfl, rfl, rfl, rfl, rfl, rfl, rfl, rfl, rfl, rfl, rfl, rfl, rfl, rfl, rfl, rfl, rfl, rfl, rfl, rfl, rfl, rfl, rfl, rfl, rfl, rfl, rfl, rfl, rfl, rfl, rfl, rfl, rfl⟩

@[simp] theorem State.advance_fields (s : State)  :
    (s.advance).regs = s.regs ∧ (s.advance).eipNext = s.eipNext ∧ (s.advance).es = s.es ∧ (s.advance).cs = s.cs ∧
    (s.advance).ss = s.ss ∧ (s.advance).ds = s.ds ∧ (s.advance).fs = s.fs ∧ (s.advance).gs = s.gs ∧ (s.advance).ldtr = s.ldtr ∧
    (s.advance).tr = s.tr ∧ (s.advance).gdtr = s.gdtr ∧ (s.advance).idtr = s.idtr ∧ (s.advance).cpl = s.cpl ∧
    (s.advance).cr0 = s.cr0 ∧ (s.advance).cr2 = s.cr2 ∧ (s.advance).cr3 = s.cr3 ∧ (s.advance).dr0 = s.dr0 ∧
    (s.advance).dr1 = s.dr1 ∧ (s.advance).dr2 = s.dr2 ∧ (s.advance).dr3 = s.dr3 ∧ (s.advance).dr6 = s.dr6 ∧
    (s.advance).dr7 = s.dr7 ∧ (s.advance).tr6 = s.tr6 ∧ (s.advance).tr7 = s.tr7 ∧ (s.advance).tlb = s.tlb ∧
    (s.advance).stale = s.stale ∧ (s.advance).queued = s.queued ∧ (s.advance).queuedMode = s.queuedMode ∧
    (s.advance).nmiInService = s.nmiInService ∧ (s.advance).nmiPending = s.nmiPending ∧ (s.advance).inhibit = s.inhibit ∧
    (s.advance).held = s.held ∧ (s.advance).run = s.run ∧ (s.advance).pend = s.pend ∧ (s.advance).pfx = s.pfx ∧
    (s.advance).pins = s.pins ∧ (s.advance).stimuli = s.stimuli ∧ (s.advance).bus = s.bus ∧ (s.advance).mem = s.mem ∧
    (s.advance).ioIn = s.ioIn ∧ (s.advance).ioOut = s.ioOut ∧ (s.advance).cycles = s.cycles ∧
    (s.advance).escCommand = s.escCommand ∧ (s.advance).escDue = s.escDue ∧ (s.advance).platform = s.platform ∧
    (s.advance).freeIdx = s.freeIdx ∧ (s.advance).accessIdx = s.accessIdx ∧ (s.advance).eip = s.eipNext ∧
    (s.advance).flags = { s.flags with rf := false } :=
  ⟨rfl, rfl, rfl, rfl, rfl, rfl, rfl, rfl, rfl, rfl, rfl, rfl, rfl, rfl, rfl, rfl, rfl, rfl, rfl, rfl, rfl, rfl, rfl, rfl, rfl, rfl, rfl, rfl, rfl, rfl, rfl, rfl, rfl, rfl, rfl, rfl, rfl, rfl, rfl, rfl, rfl, rfl, rfl, rfl, rfl, rfl, rfl, rfl, rfl⟩

@[simp] theorem State.transfer_fields (s : State) (t : Word) :
    (s.transfer t).regs = s.regs ∧ (s.transfer t).eipNext = s.eipNext ∧ (s.transfer t).flags = s.flags ∧ (s.transfer t).es = s.es ∧
    (s.transfer t).cs = s.cs ∧ (s.transfer t).ss = s.ss ∧ (s.transfer t).ds = s.ds ∧ (s.transfer t).fs = s.fs ∧
    (s.transfer t).gs = s.gs ∧ (s.transfer t).ldtr = s.ldtr ∧ (s.transfer t).tr = s.tr ∧ (s.transfer t).gdtr = s.gdtr ∧
    (s.transfer t).idtr = s.idtr ∧ (s.transfer t).cpl = s.cpl ∧ (s.transfer t).cr0 = s.cr0 ∧ (s.transfer t).cr2 = s.cr2 ∧
    (s.transfer t).cr3 = s.cr3 ∧ (s.transfer t).dr0 = s.dr0 ∧ (s.transfer t).dr1 = s.dr1 ∧ (s.transfer t).dr2 = s.dr2 ∧
    (s.transfer t).dr3 = s.dr3 ∧ (s.transfer t).dr6 = s.dr6 ∧ (s.transfer t).dr7 = s.dr7 ∧ (s.transfer t).tr6 = s.tr6 ∧
    (s.transfer t).tr7 = s.tr7 ∧ (s.transfer t).tlb = s.tlb ∧ (s.transfer t).nmiInService = s.nmiInService ∧
    (s.transfer t).nmiPending = s.nmiPending ∧ (s.transfer t).inhibit = s.inhibit ∧ (s.transfer t).held = s.held ∧
    (s.transfer t).run = s.run ∧ (s.transfer t).pend = s.pend ∧ (s.transfer t).pfx = s.pfx ∧ (s.transfer t).pins = s.pins ∧
    (s.transfer t).stimuli = s.stimuli ∧ (s.transfer t).bus = s.bus ∧ (s.transfer t).mem = s.mem ∧ (s.transfer t).ioIn = s.ioIn ∧
    (s.transfer t).ioOut = s.ioOut ∧ (s.transfer t).cycles = s.cycles ∧ (s.transfer t).escCommand = s.escCommand ∧
    (s.transfer t).escDue = s.escDue ∧ (s.transfer t).platform = s.platform ∧ (s.transfer t).freeIdx = s.freeIdx ∧
    (s.transfer t).accessIdx = s.accessIdx ∧ (s.transfer t).eip = t ∧ (s.transfer t).stale = [] ∧ (s.transfer t).queued = [] ∧
    (s.transfer t).queuedMode = none :=
  ⟨rfl, rfl, rfl, rfl, rfl, rfl, rfl, rfl, rfl, rfl, rfl, rfl, rfl, rfl, rfl, rfl, rfl, rfl, rfl, rfl, rfl, rfl, rfl, rfl, rfl, rfl, rfl, rfl, rfl, rfl, rfl, rfl, rfl, rfl, rfl, rfl, rfl, rfl, rfl, rfl, rfl, rfl, rfl, rfl, rfl, rfl, rfl, rfl, rfl⟩

@[simp] theorem State.jump_fields (s : State) (t : Word) :
    (s.jump t).regs = s.regs ∧ (s.jump t).eipNext = s.eipNext ∧ (s.jump t).es = s.es ∧ (s.jump t).cs = s.cs ∧
    (s.jump t).ss = s.ss ∧ (s.jump t).ds = s.ds ∧ (s.jump t).fs = s.fs ∧ (s.jump t).gs = s.gs ∧ (s.jump t).ldtr = s.ldtr ∧
    (s.jump t).tr = s.tr ∧ (s.jump t).gdtr = s.gdtr ∧ (s.jump t).idtr = s.idtr ∧ (s.jump t).cpl = s.cpl ∧ (s.jump t).cr0 = s.cr0 ∧
    (s.jump t).cr2 = s.cr2 ∧ (s.jump t).cr3 = s.cr3 ∧ (s.jump t).dr0 = s.dr0 ∧ (s.jump t).dr1 = s.dr1 ∧ (s.jump t).dr2 = s.dr2 ∧
    (s.jump t).dr3 = s.dr3 ∧ (s.jump t).dr6 = s.dr6 ∧ (s.jump t).dr7 = s.dr7 ∧ (s.jump t).tr6 = s.tr6 ∧ (s.jump t).tr7 = s.tr7 ∧
    (s.jump t).tlb = s.tlb ∧ (s.jump t).nmiInService = s.nmiInService ∧ (s.jump t).nmiPending = s.nmiPending ∧
    (s.jump t).inhibit = s.inhibit ∧ (s.jump t).held = s.held ∧ (s.jump t).run = s.run ∧ (s.jump t).pend = s.pend ∧
    (s.jump t).pfx = s.pfx ∧ (s.jump t).pins = s.pins ∧ (s.jump t).stimuli = s.stimuli ∧ (s.jump t).bus = s.bus ∧
    (s.jump t).mem = s.mem ∧ (s.jump t).ioIn = s.ioIn ∧ (s.jump t).ioOut = s.ioOut ∧ (s.jump t).cycles = s.cycles ∧
    (s.jump t).escCommand = s.escCommand ∧ (s.jump t).escDue = s.escDue ∧ (s.jump t).platform = s.platform ∧
    (s.jump t).freeIdx = s.freeIdx ∧ (s.jump t).accessIdx = s.accessIdx ∧ (s.jump t).eip = t ∧ (s.jump t).stale = [] ∧
    (s.jump t).queued = [] ∧ (s.jump t).queuedMode = none ∧ (s.jump t).flags = { s.flags with rf := false } :=
  ⟨rfl, rfl, rfl, rfl, rfl, rfl, rfl, rfl, rfl, rfl, rfl, rfl, rfl, rfl, rfl, rfl, rfl, rfl, rfl, rfl, rfl, rfl, rfl, rfl, rfl, rfl, rfl, rfl, rfl, rfl, rfl, rfl, rfl, rfl, rfl, rfl, rfl, rfl, rfl, rfl, rfl, rfl, rfl, rfl, rfl, rfl, rfl, rfl, rfl⟩

@[simp] theorem State.complete_fields (s : State)  :
    (s.complete).regs = s.regs ∧ (s.complete).eip = s.eip ∧ (s.complete).eipNext = s.eipNext ∧ (s.complete).flags = s.flags ∧
    (s.complete).es = s.es ∧ (s.complete).cs = s.cs ∧ (s.complete).ss = s.ss ∧ (s.complete).ds = s.ds ∧ (s.complete).fs = s.fs ∧
    (s.complete).gs = s.gs ∧ (s.complete).ldtr = s.ldtr ∧ (s.complete).tr = s.tr ∧ (s.complete).gdtr = s.gdtr ∧
    (s.complete).idtr = s.idtr ∧ (s.complete).cpl = s.cpl ∧ (s.complete).cr0 = s.cr0 ∧ (s.complete).cr2 = s.cr2 ∧
    (s.complete).cr3 = s.cr3 ∧ (s.complete).dr0 = s.dr0 ∧ (s.complete).dr1 = s.dr1 ∧ (s.complete).dr2 = s.dr2 ∧
    (s.complete).dr3 = s.dr3 ∧ (s.complete).dr6 = s.dr6 ∧ (s.complete).dr7 = s.dr7 ∧ (s.complete).tr6 = s.tr6 ∧
    (s.complete).tr7 = s.tr7 ∧ (s.complete).tlb = s.tlb ∧ (s.complete).stale = s.stale ∧ (s.complete).queued = s.queued ∧
    (s.complete).queuedMode = s.queuedMode ∧ (s.complete).nmiInService = s.nmiInService ∧ (s.complete).nmiPending = s.nmiPending ∧
    (s.complete).inhibit = s.inhibit ∧ (s.complete).run = s.run ∧ (s.complete).pins = s.pins ∧ (s.complete).stimuli = s.stimuli ∧
    (s.complete).bus = s.bus ∧ (s.complete).mem = s.mem ∧ (s.complete).ioIn = s.ioIn ∧ (s.complete).ioOut = s.ioOut ∧
    (s.complete).cycles = s.cycles ∧ (s.complete).escCommand = s.escCommand ∧ (s.complete).escDue = s.escDue ∧
    (s.complete).platform = s.platform ∧ (s.complete).freeIdx = s.freeIdx ∧ (s.complete).accessIdx = s.accessIdx ∧
    (s.complete).pfx = Pfx.none ∧ (s.complete).held = false ∧
    (s.complete).pend = { s.pend with bs := s.pend.bs || s.pend.tfStart, tfStart := false } :=
  ⟨rfl, rfl, rfl, rfl, rfl, rfl, rfl, rfl, rfl, rfl, rfl, rfl, rfl, rfl, rfl, rfl, rfl, rfl, rfl, rfl, rfl, rfl, rfl, rfl, rfl, rfl, rfl, rfl, rfl, rfl, rfl, rfl, rfl, rfl, rfl, rfl, rfl, rfl, rfl, rfl, rfl, rfl, rfl, rfl, rfl, rfl, rfl, rfl, rfl⟩

@[simp] theorem State.inhibitIf_fields (s : State) (c : Bool) :
    (s.inhibitIf c).regs = s.regs ∧ (s.inhibitIf c).eip = s.eip ∧ (s.inhibitIf c).eipNext = s.eipNext ∧
    (s.inhibitIf c).flags = s.flags ∧ (s.inhibitIf c).es = s.es ∧ (s.inhibitIf c).cs = s.cs ∧ (s.inhibitIf c).ss = s.ss ∧
    (s.inhibitIf c).ds = s.ds ∧ (s.inhibitIf c).fs = s.fs ∧ (s.inhibitIf c).gs = s.gs ∧ (s.inhibitIf c).ldtr = s.ldtr ∧
    (s.inhibitIf c).tr = s.tr ∧ (s.inhibitIf c).gdtr = s.gdtr ∧ (s.inhibitIf c).idtr = s.idtr ∧ (s.inhibitIf c).cpl = s.cpl ∧
    (s.inhibitIf c).cr0 = s.cr0 ∧ (s.inhibitIf c).cr2 = s.cr2 ∧ (s.inhibitIf c).cr3 = s.cr3 ∧ (s.inhibitIf c).dr0 = s.dr0 ∧
    (s.inhibitIf c).dr1 = s.dr1 ∧ (s.inhibitIf c).dr2 = s.dr2 ∧ (s.inhibitIf c).dr3 = s.dr3 ∧ (s.inhibitIf c).dr6 = s.dr6 ∧
    (s.inhibitIf c).dr7 = s.dr7 ∧ (s.inhibitIf c).tr6 = s.tr6 ∧ (s.inhibitIf c).tr7 = s.tr7 ∧ (s.inhibitIf c).tlb = s.tlb ∧
    (s.inhibitIf c).stale = s.stale ∧ (s.inhibitIf c).queued = s.queued ∧ (s.inhibitIf c).queuedMode = s.queuedMode ∧
    (s.inhibitIf c).nmiInService = s.nmiInService ∧ (s.inhibitIf c).nmiPending = s.nmiPending ∧ (s.inhibitIf c).held = s.held ∧
    (s.inhibitIf c).run = s.run ∧ (s.inhibitIf c).pend = s.pend ∧ (s.inhibitIf c).pfx = s.pfx ∧ (s.inhibitIf c).pins = s.pins ∧
    (s.inhibitIf c).stimuli = s.stimuli ∧ (s.inhibitIf c).bus = s.bus ∧ (s.inhibitIf c).mem = s.mem ∧
    (s.inhibitIf c).ioIn = s.ioIn ∧ (s.inhibitIf c).ioOut = s.ioOut ∧ (s.inhibitIf c).cycles = s.cycles ∧
    (s.inhibitIf c).escCommand = s.escCommand ∧ (s.inhibitIf c).escDue = s.escDue ∧ (s.inhibitIf c).platform = s.platform ∧
    (s.inhibitIf c).freeIdx = s.freeIdx ∧ (s.inhibitIf c).accessIdx = s.accessIdx ∧ (s.inhibitIf c).inhibit = (c || s.inhibit) :=
  ⟨rfl, rfl, rfl, rfl, rfl, rfl, rfl, rfl, rfl, rfl, rfl, rfl, rfl, rfl, rfl, rfl, rfl, rfl, rfl, rfl, rfl, rfl, rfl, rfl, rfl, rfl, rfl, rfl, rfl, rfl, rfl, rfl, rfl, rfl, rfl, rfl, rfl, rfl, rfl, rfl, rfl, rfl, rfl, rfl, rfl, rfl, rfl, rfl, rfl⟩

@[simp] theorem State.begin_fields (s : State) (len : Nat) :
    (s.begin len).regs = s.regs ∧ (s.begin len).eip = s.eip ∧ (s.begin len).flags = s.flags ∧ (s.begin len).es = s.es ∧
    (s.begin len).cs = s.cs ∧ (s.begin len).ss = s.ss ∧ (s.begin len).ds = s.ds ∧ (s.begin len).fs = s.fs ∧
    (s.begin len).gs = s.gs ∧ (s.begin len).ldtr = s.ldtr ∧ (s.begin len).tr = s.tr ∧ (s.begin len).gdtr = s.gdtr ∧
    (s.begin len).idtr = s.idtr ∧ (s.begin len).cpl = s.cpl ∧ (s.begin len).cr0 = s.cr0 ∧ (s.begin len).cr2 = s.cr2 ∧
    (s.begin len).cr3 = s.cr3 ∧ (s.begin len).dr0 = s.dr0 ∧ (s.begin len).dr1 = s.dr1 ∧ (s.begin len).dr2 = s.dr2 ∧
    (s.begin len).dr3 = s.dr3 ∧ (s.begin len).dr6 = s.dr6 ∧ (s.begin len).dr7 = s.dr7 ∧ (s.begin len).tr6 = s.tr6 ∧
    (s.begin len).tr7 = s.tr7 ∧ (s.begin len).tlb = s.tlb ∧ (s.begin len).stale = s.stale ∧ (s.begin len).queued = s.queued ∧
    (s.begin len).queuedMode = s.queuedMode ∧ (s.begin len).nmiInService = s.nmiInService ∧
    (s.begin len).nmiPending = s.nmiPending ∧ (s.begin len).run = s.run ∧ (s.begin len).pfx = s.pfx ∧ (s.begin len).pins = s.pins ∧
    (s.begin len).stimuli = s.stimuli ∧ (s.begin len).bus = s.bus ∧ (s.begin len).mem = s.mem ∧ (s.begin len).ioIn = s.ioIn ∧
    (s.begin len).ioOut = s.ioOut ∧ (s.begin len).cycles = s.cycles ∧ (s.begin len).escCommand = s.escCommand ∧
    (s.begin len).escDue = s.escDue ∧ (s.begin len).platform = s.platform ∧ (s.begin len).freeIdx = s.freeIdx ∧
    (s.begin len).accessIdx = s.accessIdx ∧ (s.begin len).eipNext = s.fetchOffset + BitVec.ofNat 32 len ∧
    (s.begin len).inhibit = false ∧ (s.begin len).held = (s.held || s.inhibit) ∧
    (s.begin len).pend = { s.pend with tfStart := s.flags.tf } :=
  ⟨rfl, rfl, rfl, rfl, rfl, rfl, rfl, rfl, rfl, rfl, rfl, rfl, rfl, rfl, rfl, rfl, rfl, rfl, rfl, rfl, rfl, rfl, rfl, rfl, rfl, rfl, rfl, rfl, rfl, rfl, rfl, rfl, rfl, rfl, rfl, rfl, rfl, rfl, rfl, rfl, rfl, rfl, rfl, rfl, rfl, rfl, rfl, rfl, rfl⟩

@[simp] theorem State.freshen_fields (s : State)  :
    (s.freshen).regs = s.regs ∧ (s.freshen).eip = s.eip ∧ (s.freshen).eipNext = s.eipNext ∧ (s.freshen).flags = s.flags ∧
    (s.freshen).es = s.es ∧ (s.freshen).cs = s.cs ∧ (s.freshen).ss = s.ss ∧ (s.freshen).ds = s.ds ∧ (s.freshen).fs = s.fs ∧
    (s.freshen).gs = s.gs ∧ (s.freshen).ldtr = s.ldtr ∧ (s.freshen).tr = s.tr ∧ (s.freshen).gdtr = s.gdtr ∧
    (s.freshen).idtr = s.idtr ∧ (s.freshen).cpl = s.cpl ∧ (s.freshen).cr0 = s.cr0 ∧ (s.freshen).cr2 = s.cr2 ∧
    (s.freshen).cr3 = s.cr3 ∧ (s.freshen).dr0 = s.dr0 ∧ (s.freshen).dr1 = s.dr1 ∧ (s.freshen).dr2 = s.dr2 ∧
    (s.freshen).dr3 = s.dr3 ∧ (s.freshen).dr6 = s.dr6 ∧ (s.freshen).dr7 = s.dr7 ∧ (s.freshen).tr6 = s.tr6 ∧
    (s.freshen).tr7 = s.tr7 ∧ (s.freshen).tlb = s.tlb ∧ (s.freshen).stale = s.stale ∧ (s.freshen).queued = s.queued ∧
    (s.freshen).queuedMode = s.queuedMode ∧ (s.freshen).nmiInService = s.nmiInService ∧ (s.freshen).nmiPending = s.nmiPending ∧
    (s.freshen).inhibit = s.inhibit ∧ (s.freshen).held = s.held ∧ (s.freshen).run = s.run ∧ (s.freshen).pend = s.pend ∧
    (s.freshen).pfx = s.pfx ∧ (s.freshen).pins = s.pins ∧ (s.freshen).stimuli = s.stimuli ∧ (s.freshen).bus = s.bus ∧
    (s.freshen).mem = s.mem ∧ (s.freshen).ioIn = s.ioIn ∧ (s.freshen).ioOut = s.ioOut ∧ (s.freshen).cycles = s.cycles ∧
    (s.freshen).escCommand = s.escCommand ∧ (s.freshen).escDue = s.escDue ∧ (s.freshen).platform = s.platform ∧
    (s.freshen).accessIdx = s.accessIdx ∧ (s.freshen).freeIdx = s.freeIdx + 1 :=
  ⟨rfl, rfl, rfl, rfl, rfl, rfl, rfl, rfl, rfl, rfl, rfl, rfl, rfl, rfl, rfl, rfl, rfl, rfl, rfl, rfl, rfl, rfl, rfl, rfl, rfl, rfl, rfl, rfl, rfl, rfl, rfl, rfl, rfl, rfl, rfl, rfl, rfl, rfl, rfl, rfl, rfl, rfl, rfl, rfl, rfl, rfl, rfl, rfl, rfl⟩

@[simp] theorem State.settle_fields (s : State)  :
    (s.settle).regs = s.regs ∧ (s.settle).eip = s.eip ∧ (s.settle).eipNext = s.eipNext ∧ (s.settle).flags = s.flags ∧
    (s.settle).es = s.es ∧ (s.settle).cs = s.cs ∧ (s.settle).ss = s.ss ∧ (s.settle).ds = s.ds ∧ (s.settle).fs = s.fs ∧
    (s.settle).gs = s.gs ∧ (s.settle).ldtr = s.ldtr ∧ (s.settle).tr = s.tr ∧ (s.settle).gdtr = s.gdtr ∧ (s.settle).idtr = s.idtr ∧
    (s.settle).cpl = s.cpl ∧ (s.settle).cr0 = s.cr0 ∧ (s.settle).cr2 = s.cr2 ∧ (s.settle).cr3 = s.cr3 ∧ (s.settle).dr0 = s.dr0 ∧
    (s.settle).dr1 = s.dr1 ∧ (s.settle).dr2 = s.dr2 ∧ (s.settle).dr3 = s.dr3 ∧ (s.settle).dr6 = s.dr6 ∧ (s.settle).dr7 = s.dr7 ∧
    (s.settle).tr6 = s.tr6 ∧ (s.settle).tr7 = s.tr7 ∧ (s.settle).tlb = s.tlb ∧ (s.settle).stale = s.stale ∧
    (s.settle).queued = s.queued ∧ (s.settle).queuedMode = s.queuedMode ∧ (s.settle).nmiInService = s.nmiInService ∧
    (s.settle).nmiPending = s.nmiPending ∧ (s.settle).inhibit = s.inhibit ∧ (s.settle).held = s.held ∧ (s.settle).run = s.run ∧
    (s.settle).pfx = s.pfx ∧ (s.settle).pins = s.pins ∧ (s.settle).stimuli = s.stimuli ∧ (s.settle).bus = s.bus ∧
    (s.settle).mem = s.mem ∧ (s.settle).ioIn = s.ioIn ∧ (s.settle).ioOut = s.ioOut ∧ (s.settle).cycles = s.cycles ∧
    (s.settle).escCommand = s.escCommand ∧ (s.settle).escDue = s.escDue ∧ (s.settle).platform = s.platform ∧
    (s.settle).freeIdx = s.freeIdx ∧ (s.settle).accessIdx = s.accessIdx :=
  by
  refine ⟨?_, ?_, ?_, ?_, ?_, ?_, ?_, ?_, ?_, ?_, ?_, ?_, ?_, ?_, ?_, ?_, ?_, ?_, ?_, ?_, ?_, ?_, ?_, ?_, ?_, ?_, ?_, ?_, ?_, ?_, ?_, ?_, ?_, ?_, ?_, ?_, ?_, ?_, ?_, ?_, ?_, ?_, ?_, ?_, ?_, ?_, ?_, ?_⟩ <;> (unfold State.settle; split <;> rfl)

/-! Events. -/

@[simp] theorem State.rollback_fields (s : State) (t : State) :
    (s.rollback t).regs = s.regs ∧ (s.rollback t).eip = s.eip ∧ (s.rollback t).eipNext = s.eipNext ∧ (s.rollback t).flags = s.flags ∧
    (s.rollback t).es = s.es ∧ (s.rollback t).cs = s.cs ∧ (s.rollback t).ss = s.ss ∧ (s.rollback t).ds = s.ds ∧ (s.rollback t).fs = s.fs ∧
    (s.rollback t).gs = s.gs ∧ (s.rollback t).ldtr = s.ldtr ∧ (s.rollback t).tr = s.tr ∧ (s.rollback t).gdtr = s.gdtr ∧
    (s.rollback t).idtr = s.idtr ∧ (s.rollback t).cpl = s.cpl ∧ (s.rollback t).cr0 = s.cr0 ∧ (s.rollback t).cr3 = s.cr3 ∧
    (s.rollback t).dr0 = s.dr0 ∧ (s.rollback t).dr1 = s.dr1 ∧ (s.rollback t).dr2 = s.dr2 ∧ (s.rollback t).dr3 = s.dr3 ∧
    (s.rollback t).tr6 = s.tr6 ∧ (s.rollback t).tr7 = s.tr7 ∧ (s.rollback t).queued = t.queued ∧
    (s.rollback t).queuedMode = s.queuedMode ∧ (s.rollback t).nmiInService = s.nmiInService ∧ (s.rollback t).nmiPending = s.nmiPending ∧
    (s.rollback t).inhibit = s.inhibit ∧ (s.rollback t).held = s.held ∧ (s.rollback t).run = s.run ∧ (s.rollback t).pend = s.pend ∧
    (s.rollback t).pfx = s.pfx ∧ (s.rollback t).pins = s.pins ∧ (s.rollback t).stimuli = s.stimuli ∧ (s.rollback t).ioIn = s.ioIn ∧
    (s.rollback t).cycles = s.cycles ∧ (s.rollback t).escCommand = s.escCommand ∧ (s.rollback t).escDue = s.escDue ∧
    (s.rollback t).platform = s.platform ∧ (s.rollback t).freeIdx = s.freeIdx ∧ (s.rollback t).mem = t.mem ∧
    (s.rollback t).stale = t.stale ∧ (s.rollback t).tlb = t.tlb ∧ (s.rollback t).cr2 = t.cr2 ∧ (s.rollback t).dr6 = t.dr6 ∧
    (s.rollback t).dr7 = t.dr7 ∧ (s.rollback t).ioOut = t.ioOut ∧ (s.rollback t).bus = t.bus ∧ (s.rollback t).accessIdx = t.accessIdx :=
  ⟨rfl, rfl, rfl, rfl, rfl, rfl, rfl, rfl, rfl, rfl, rfl, rfl, rfl, rfl, rfl, rfl, rfl, rfl, rfl, rfl, rfl, rfl, rfl, rfl, rfl, rfl, rfl, rfl, rfl, rfl, rfl, rfl, rfl, rfl, rfl, rfl, rfl, rfl, rfl, rfl, rfl, rfl, rfl, rfl, rfl, rfl, rfl, rfl, rfl⟩

@[simp] theorem State.shut_fields (s : State)  :
    (s.shut).regs = s.regs ∧ (s.shut).eip = s.eip ∧ (s.shut).eipNext = s.eipNext ∧ (s.shut).flags = s.flags ∧ (s.shut).es = s.es ∧
    (s.shut).cs = s.cs ∧ (s.shut).ss = s.ss ∧ (s.shut).ds = s.ds ∧ (s.shut).fs = s.fs ∧ (s.shut).gs = s.gs ∧
    (s.shut).ldtr = s.ldtr ∧ (s.shut).tr = s.tr ∧ (s.shut).gdtr = s.gdtr ∧ (s.shut).idtr = s.idtr ∧ (s.shut).cpl = s.cpl ∧
    (s.shut).cr0 = s.cr0 ∧ (s.shut).cr2 = s.cr2 ∧ (s.shut).cr3 = s.cr3 ∧ (s.shut).dr0 = s.dr0 ∧ (s.shut).dr1 = s.dr1 ∧
    (s.shut).dr2 = s.dr2 ∧ (s.shut).dr3 = s.dr3 ∧ (s.shut).dr6 = s.dr6 ∧ (s.shut).dr7 = s.dr7 ∧ (s.shut).tr6 = s.tr6 ∧
    (s.shut).tr7 = s.tr7 ∧ (s.shut).tlb = s.tlb ∧ (s.shut).stale = s.stale ∧ (s.shut).queued = s.queued ∧
    (s.shut).queuedMode = s.queuedMode ∧ (s.shut).nmiInService = s.nmiInService ∧ (s.shut).nmiPending = s.nmiPending ∧
    (s.shut).pins = s.pins ∧ (s.shut).stimuli = s.stimuli ∧ (s.shut).bus = s.bus ∧ (s.shut).mem = s.mem ∧ (s.shut).ioIn = s.ioIn ∧
    (s.shut).ioOut = s.ioOut ∧ (s.shut).escCommand = s.escCommand ∧ (s.shut).escDue = s.escDue ∧ (s.shut).platform = s.platform ∧
    (s.shut).freeIdx = s.freeIdx ∧ (s.shut).accessIdx = s.accessIdx ∧ (s.shut).run = .shutdown ∧ (s.shut).pfx = Pfx.none ∧
    (s.shut).inhibit = false ∧ (s.shut).held = false ∧ (s.shut).pend = Pend.none ∧ (s.shut).cycles = .shutdown :: s.cycles :=
  ⟨rfl, rfl, rfl, rfl, rfl, rfl, rfl, rfl, rfl, rfl, rfl, rfl, rfl, rfl, rfl, rfl, rfl, rfl, rfl, rfl, rfl, rfl, rfl, rfl, rfl, rfl, rfl, rfl, rfl, rfl, rfl, rfl, rfl, rfl, rfl, rfl, rfl, rfl, rfl, rfl, rfl, rfl, rfl, rfl, rfl, rfl, rfl, rfl, rfl⟩

@[simp] theorem State.entered_fields (s : State) (e : Event) :
    (s.entered e).regs = s.regs ∧ (s.entered e).eip = s.eip ∧ (s.entered e).eipNext = s.eipNext ∧ (s.entered e).es = s.es ∧
    (s.entered e).cs = s.cs ∧ (s.entered e).ss = s.ss ∧ (s.entered e).ds = s.ds ∧ (s.entered e).fs = s.fs ∧
    (s.entered e).gs = s.gs ∧ (s.entered e).ldtr = s.ldtr ∧ (s.entered e).tr = s.tr ∧ (s.entered e).gdtr = s.gdtr ∧
    (s.entered e).idtr = s.idtr ∧ (s.entered e).cpl = s.cpl ∧ (s.entered e).cr0 = s.cr0 ∧ (s.entered e).cr2 = s.cr2 ∧
    (s.entered e).cr3 = s.cr3 ∧ (s.entered e).dr0 = s.dr0 ∧ (s.entered e).dr1 = s.dr1 ∧ (s.entered e).dr2 = s.dr2 ∧
    (s.entered e).dr3 = s.dr3 ∧ (s.entered e).dr6 = s.dr6 ∧ (s.entered e).tr6 = s.tr6 ∧ (s.entered e).tr7 = s.tr7 ∧
    (s.entered e).tlb = s.tlb ∧ (s.entered e).nmiInService = s.nmiInService ∧ (s.entered e).nmiPending = s.nmiPending ∧
    (s.entered e).pins = s.pins ∧ (s.entered e).stimuli = s.stimuli ∧ (s.entered e).bus = s.bus ∧ (s.entered e).mem = s.mem ∧
    (s.entered e).ioIn = s.ioIn ∧ (s.entered e).ioOut = s.ioOut ∧ (s.entered e).cycles = s.cycles ∧
    (s.entered e).escCommand = s.escCommand ∧ (s.entered e).escDue = s.escDue ∧ (s.entered e).platform = s.platform ∧
    (s.entered e).freeIdx = s.freeIdx ∧ (s.entered e).accessIdx = s.accessIdx ∧ (s.entered e).run = .running ∧
    (s.entered e).pfx = Pfx.none ∧ (s.entered e).inhibit = false ∧ (s.entered e).held = false ∧ (s.entered e).stale = [] ∧
    (s.entered e).queued = [] ∧ (s.entered e).queuedMode = none ∧ (s.entered e).pend = { s.pend with tfStart := false } ∧
    (s.entered e).flags = s.flags ∧
    (s.entered e).dr7 = (if e.vector = 1 ∧ (e.kind = .fault ∨ e.kind = .trap) then s.dr7 &&& ~~~ 0x2000 else s.dr7) :=
  ⟨rfl, rfl, rfl, rfl, rfl, rfl, rfl, rfl, rfl, rfl, rfl, rfl, rfl, rfl, rfl, rfl, rfl, rfl, rfl, rfl, rfl, rfl, rfl, rfl, rfl, rfl, rfl, rfl, rfl, rfl, rfl, rfl, rfl, rfl, rfl, rfl, rfl, rfl, rfl, rfl, rfl, rfl, rfl, rfl, rfl, rfl, rfl, rfl, rfl⟩

@[simp] theorem State.noteCycle_fields (s : State) (c : BusCycle) :
    (s.noteCycle c).regs = s.regs ∧ (s.noteCycle c).eip = s.eip ∧ (s.noteCycle c).eipNext = s.eipNext ∧
    (s.noteCycle c).flags = s.flags ∧ (s.noteCycle c).es = s.es ∧ (s.noteCycle c).cs = s.cs ∧ (s.noteCycle c).ss = s.ss ∧
    (s.noteCycle c).ds = s.ds ∧ (s.noteCycle c).fs = s.fs ∧ (s.noteCycle c).gs = s.gs ∧ (s.noteCycle c).ldtr = s.ldtr ∧
    (s.noteCycle c).tr = s.tr ∧ (s.noteCycle c).gdtr = s.gdtr ∧ (s.noteCycle c).idtr = s.idtr ∧ (s.noteCycle c).cpl = s.cpl ∧
    (s.noteCycle c).cr0 = s.cr0 ∧ (s.noteCycle c).cr2 = s.cr2 ∧ (s.noteCycle c).cr3 = s.cr3 ∧ (s.noteCycle c).dr0 = s.dr0 ∧
    (s.noteCycle c).dr1 = s.dr1 ∧ (s.noteCycle c).dr2 = s.dr2 ∧ (s.noteCycle c).dr3 = s.dr3 ∧ (s.noteCycle c).dr6 = s.dr6 ∧
    (s.noteCycle c).dr7 = s.dr7 ∧ (s.noteCycle c).tr6 = s.tr6 ∧ (s.noteCycle c).tr7 = s.tr7 ∧ (s.noteCycle c).tlb = s.tlb ∧
    (s.noteCycle c).stale = s.stale ∧ (s.noteCycle c).queued = s.queued ∧ (s.noteCycle c).queuedMode = s.queuedMode ∧
    (s.noteCycle c).nmiInService = s.nmiInService ∧ (s.noteCycle c).nmiPending = s.nmiPending ∧
    (s.noteCycle c).inhibit = s.inhibit ∧ (s.noteCycle c).held = s.held ∧ (s.noteCycle c).run = s.run ∧
    (s.noteCycle c).pend = s.pend ∧ (s.noteCycle c).pfx = s.pfx ∧ (s.noteCycle c).pins = s.pins ∧
    (s.noteCycle c).stimuli = s.stimuli ∧ (s.noteCycle c).bus = s.bus ∧ (s.noteCycle c).mem = s.mem ∧
    (s.noteCycle c).ioIn = s.ioIn ∧ (s.noteCycle c).ioOut = s.ioOut ∧ (s.noteCycle c).escCommand = s.escCommand ∧
    (s.noteCycle c).escDue = s.escDue ∧ (s.noteCycle c).platform = s.platform ∧ (s.noteCycle c).freeIdx = s.freeIdx ∧
    (s.noteCycle c).accessIdx = s.accessIdx ∧ (s.noteCycle c).cycles = c :: s.cycles :=
  ⟨rfl, rfl, rfl, rfl, rfl, rfl, rfl, rfl, rfl, rfl, rfl, rfl, rfl, rfl, rfl, rfl, rfl, rfl, rfl, rfl, rfl, rfl, rfl, rfl, rfl, rfl, rfl, rfl, rfl, rfl, rfl, rfl, rfl, rfl, rfl, rfl, rfl, rfl, rfl, rfl, rfl, rfl, rfl, rfl, rfl, rfl, rfl, rfl, rfl⟩

@[simp] theorem State.operandWord_fields (s : State) (address : Nat) (v : Half) :
    (s.operandWord address v).regs = s.regs ∧ (s.operandWord address v).eip = s.eip ∧
    (s.operandWord address v).eipNext = s.eipNext ∧ (s.operandWord address v).flags = s.flags ∧
    (s.operandWord address v).es = s.es ∧ (s.operandWord address v).cs = s.cs ∧ (s.operandWord address v).ss = s.ss ∧
    (s.operandWord address v).ds = s.ds ∧ (s.operandWord address v).fs = s.fs ∧ (s.operandWord address v).gs = s.gs ∧
    (s.operandWord address v).ldtr = s.ldtr ∧ (s.operandWord address v).tr = s.tr ∧ (s.operandWord address v).gdtr = s.gdtr ∧
    (s.operandWord address v).idtr = s.idtr ∧ (s.operandWord address v).cpl = s.cpl ∧ (s.operandWord address v).cr0 = s.cr0 ∧
    (s.operandWord address v).cr2 = s.cr2 ∧ (s.operandWord address v).cr3 = s.cr3 ∧ (s.operandWord address v).dr0 = s.dr0 ∧
    (s.operandWord address v).dr1 = s.dr1 ∧ (s.operandWord address v).dr2 = s.dr2 ∧ (s.operandWord address v).dr3 = s.dr3 ∧
    (s.operandWord address v).dr6 = s.dr6 ∧ (s.operandWord address v).dr7 = s.dr7 ∧ (s.operandWord address v).tr6 = s.tr6 ∧
    (s.operandWord address v).tr7 = s.tr7 ∧ (s.operandWord address v).tlb = s.tlb ∧ (s.operandWord address v).stale = s.stale ∧
    (s.operandWord address v).queued = s.queued ∧ (s.operandWord address v).queuedMode = s.queuedMode ∧
    (s.operandWord address v).nmiInService = s.nmiInService ∧ (s.operandWord address v).nmiPending = s.nmiPending ∧
    (s.operandWord address v).inhibit = s.inhibit ∧ (s.operandWord address v).held = s.held ∧
    (s.operandWord address v).run = s.run ∧ (s.operandWord address v).pend = s.pend ∧ (s.operandWord address v).pfx = s.pfx ∧
    (s.operandWord address v).pins = s.pins ∧ (s.operandWord address v).stimuli = s.stimuli ∧
    (s.operandWord address v).bus = s.bus ∧ (s.operandWord address v).mem = s.mem ∧ (s.operandWord address v).ioIn = s.ioIn ∧
    (s.operandWord address v).cycles = s.cycles ∧ (s.operandWord address v).escCommand = s.escCommand ∧
    (s.operandWord address v).escDue = s.escDue ∧ (s.operandWord address v).platform = s.platform ∧
    (s.operandWord address v).freeIdx = s.freeIdx ∧ (s.operandWord address v).accessIdx = s.accessIdx ∧
    (s.operandWord address v).ioOut = (address + 1, v.extractLsb' 8 8) :: (address, v.extractLsb' 0 8) :: s.ioOut :=
  ⟨rfl, rfl, rfl, rfl, rfl, rfl, rfl, rfl, rfl, rfl, rfl, rfl, rfl, rfl, rfl, rfl, rfl, rfl, rfl, rfl, rfl, rfl, rfl, rfl, rfl, rfl, rfl, rfl, rfl, rfl, rfl, rfl, rfl, rfl, rfl, rfl, rfl, rfl, rfl, rfl, rfl, rfl, rfl, rfl, rfl, rfl, rfl, rfl, rfl⟩

end Sys2Proof.Machine
end

