-- ==== Sys2Proof/Laws/Memory.lean ====
section
/-!
SUPPORT. Memory: a read after a write, at the same byte and at another, the canonical form, which every operation that writes memory keeps, and
the bytes that the instruction queues keep where a translation changes.
-/
namespace Sys2Proof.Machine

open Sys2Proof

/-! Cells. -/

/-- Below every listed address nothing is listed. -/
theorem cellAt_below (cells : List Host.Cell) (a : Nat) (h : ∀ c ∈ cells, a < c.1) : cellAt cells a = unlistedByte := by
  induction cells with
  | nil => rfl
  | cons c rest ih =>
    obtain ⟨k, w⟩ := c
    have hk : a < k := h (k, w) (by simp)
    simp only [cellAt, if_neg (show ¬ k = a by omega)]
    exact ih fun c hc => h c (by simp [hc])

/-- The addresses after a write are those before it and the one written. -/
theorem mem_cellPut (cells : List Host.Cell) (a : Nat) (v : Byte) (c : Host.Cell) (h : c ∈ cellPut cells a v) :
    c ∈ cells ∨ (c = (a, v) ∧ v ≠ unlistedByte) := by
  induction cells with
  | nil =>
    simp only [cellPut] at h
    split at h
    · simp at h
    · rename_i hv
      exact .inr ⟨by simpa using h, hv⟩
  | cons d rest ih =>
    obtain ⟨k, w⟩ := d
    simp only [cellPut] at h
    split at h
    · split at h
      · exact .inl h
      · rename_i hv
        rcases List.mem_cons.mp h with h | h
        · exact .inr ⟨h, hv⟩
        · exact .inl h
    · split at h
      · split at h
        · exact .inl (by simp [h])
        · rename_i hv
          rcases List.mem_cons.mp h with h | h
          · exact .inr ⟨h, hv⟩
          · exact .inl (by simp [h])
      · rcases List.mem_cons.mp h with h | h
        · exact .inl (by simp [h])
        · rcases ih h with h | h
          · exact .inl (by simp [h])
          · exact .inr h

/-- A byte other than the one written reads as before, whatever form the cells are in. -/
theorem cellAt_cellPut_ne (cells : List Host.Cell) (a b : Nat) (v : Byte) (h : b ≠ a) :
    cellAt (cellPut cells a v) b = cellAt cells b := by
  induction cells with
  | nil =>
    simp only [cellPut]
    split
    · rfl
    · simp [cellAt, h.symm]
  | cons c rest ih =>
    obtain ⟨k, w⟩ := c
    simp only [cellPut]
    split
    · split
      · rfl
      · simp [cellAt, h.symm]
    · split
      · rename_i hk
        split <;> simp [cellAt, h.symm, ← hk]
      · simp only [cellAt, ih]

/-- The byte written is read back, where the addresses rise. -/
theorem cellAt_cellPut_eq (cells : List Host.Cell) (a : Nat) (v : Byte) (h : cells.Pairwise fun x y => x.1 < y.1) :
    cellAt (cellPut cells a v) a = v := by
  induction cells with
  | nil =>
    simp only [cellPut]
    split
    · rename_i hv
      simp [cellAt, hv]
    · simp [cellAt]
  | cons c rest ih =>
    obtain ⟨k, w⟩ := c
    have hr := List.pairwise_cons.mp h
    simp only [cellPut]
    split
    · rename_i hk
      split
      · rename_i hv
        rw [hv]
        refine cellAt_below _ _ fun c hc => ?_
        rcases List.mem_cons.mp hc with rfl | hc
        · exact hk
        · exact lt_trans hk (hr.1 c hc)
      · simp [cellAt]
    · split
      · rename_i hk
        split
        · rename_i hv
          rw [hv, hk]
          exact cellAt_below _ _ hr.1
        · simp [cellAt]
      · rename_i hk
        simp only [cellAt, if_neg (Ne.symm hk)]
        exact ih hr.2

/-- A write keeps the canonical form. -/
theorem cellPut_wf (cells : List Host.Cell) (a : Nat) (v : Byte) (h : memWf cells) (ha : a < memSize) : memWf (cellPut cells a v) := by
  refine ⟨?_, fun c hc => ?_⟩
  · have hp := h.1
    clear h
    induction cells with
    | nil =>
      simp only [cellPut]
      split <;> simp
    | cons d rest ih =>
      obtain ⟨k, w⟩ := d
      have hr := List.pairwise_cons.mp hp
      simp only [cellPut]
      split
      · rename_i hk
        split
        · exact hp
        · refine List.pairwise_cons.mpr ⟨fun c hc => ?_, hp⟩
          rcases List.mem_cons.mp hc with rfl | hc
          · exact hk
          · exact lt_trans hk (hr.1 c hc)
      · split
        · rename_i hk
          split
          · exact hr.2
          · subst hk
            exact List.pairwise_cons.mpr ⟨hr.1, hr.2⟩
        · rename_i hlt hne
          refine List.pairwise_cons.mpr ⟨fun c hc => ?_, ih hr.2⟩
          rcases mem_cellPut _ _ _ _ hc with hc | ⟨rfl, _⟩
          · exact hr.1 c hc
          · simp only
            omega
  · rcases mem_cellPut _ _ _ _ hc with hc | ⟨rfl, hv⟩
    · exact h.2 c hc
    · exact ⟨ha, hv⟩

/-! Bytes of the machine. -/

@[simp] theorem State.byte_putByte_ne (s : State) (a b : Nat) (v : Byte) (h : b ≠ a) : (s.putByte a v).byte b = s.byte b :=
  cellAt_cellPut_ne _ _ _ _ h

/-- What is not among the bytes stored to reads as before. -/
theorem State.byte_writeKeys_notMem (s : State) (keys : List Nat) (v : Word) (b : Nat) (h : b ∉ keys) :
    (s.writeKeys keys v).byte b = s.byte b := by
  induction keys generalizing s v with
  | nil => rfl
  | cons a rest ih =>
    have hb : b ≠ a ∧ b ∉ rest := by simpa using h
    show ((s.putByte a _).writeKeys rest _).byte b = s.byte b
    rw [ih _ _ hb.2, State.byte_putByte_ne _ _ _ _ hb.1]

/-- A store keeps the canonical form. -/
theorem State.writeKeys_memWf (s : State) (keys : List Nat) (v : Word) (hs : memWf s.mem) (hk : ∀ k ∈ keys, k < memSize) :
    memWf (s.writeKeys keys v).mem := by
  induction keys generalizing s v with
  | nil => exact hs
  | cons a rest ih =>
    refine ih (s.putByte a _) _ ?_ fun k h => hk k (by simp [h])
    exact cellPut_wf _ _ _ hs (hk a (by simp))

/-- Another bus master changes memory, and what the queues may hold, only. -/
theorem State.mastered_eq (s : State) (w : List (BitVec 24 × Byte)) :
    s.mastered w = { s with mem := (s.mastered w).mem, stale := (s.mastered w).stale } := by
  induction w generalizing s with
  | nil => rfl
  | cons a rest ih => exact ih (s.putByte a.1.toNat a.2)

/-- Another bus master keeps the canonical form. -/
theorem State.mastered_memWf (s : State) (w : List (BitVec 24 × Byte)) (hs : memWf s.mem) : memWf (s.mastered w).mem := by
  induction w generalizing s with
  | nil => exact hs
  | cons a rest ih => exact ih _ (cellPut_wf _ _ _ hs (BitVec.isLt _))

/-- A physical address names a byte of physical memory. -/
theorem State.physKey_lt (s : State) (pa : Word) : s.physKey pa < memSize := BitVec.isLt _

/-- The bytes of an access lie within physical memory, and are as many as asked for. -/
theorem State.physKeys_spec (s : State) (pa : Word) (nb : Nat) :
    (∀ k ∈ s.physKeys pa nb, k < memSize) ∧ (s.physKeys pa nb).length = nb := by
  refine ⟨fun k h => ?_, by simp [State.physKeys]⟩
  obtain ⟨i, _, rfl⟩ := List.mem_map.mp h
  exact s.physKey_lt _

/-- Memory right after reset has the canonical form. -/
theorem reset_memWf : memWf State.reset.mem := by decide

/-! What the queues may have read. -/

/-- A store adds a value that the queues may hold, and takes none away. -/
theorem State.putByte_heldBytes {s : State} {a k : Nat} {v b : Byte} (h : b ∈ s.heldBytes k) : b ∈ (s.putByte a v).heldBytes k := by
  rcases List.mem_cons.mp h with rfl | h
  · by_cases hk : k = a
    · subst hk
      simp [State.heldBytes, State.putByte]
    · exact List.mem_cons.mpr (.inl (State.byte_putByte_ne _ _ _ _ hk).symm)
  · refine List.mem_cons_of_mem _ ?_
    obtain ⟨c, hc, rfl⟩ := List.mem_map.mp h
    have hc := List.mem_filter.mp hc
    exact List.mem_map.mpr ⟨c, List.mem_filter.mpr ⟨List.mem_cons_of_mem _ hc.1, hc.2⟩, rfl⟩

theorem State.writeKeys_heldBytes {s : State} {keys : List Nat} {k : Nat} {v : Word} {b : Byte} (h : b ∈ s.heldBytes k) :
    b ∈ (s.writeKeys keys v).heldBytes k := by
  induction keys generalizing s v with
  | nil => exact h
  | cons a rest ih => exact ih (State.putByte_heldBytes h)

theorem State.mastered_heldBytes {s : State} {w : List (BitVec 24 × Byte)} {k : Nat} {b : Byte} (h : b ∈ s.heldBytes k) :
    b ∈ (s.mastered w).heldBytes k := by
  induction w generalizing s with
  | nil => exact h
  | cons a rest ih => exact ih (State.putByte_heldBytes h)

/-- The bytes read through an entry: those of the code that follows, in its page, if it lets the program read. -/
theorem State.mem_readThrough {s : State} {e : TlbEntry} {c : Host.Cell} :
    c ∈ s.readThrough e ↔ permits e.us e.rw false s.user = true ∧
      ∃ a ∈ s.queueWindow, pageOf a = e.vpn ∧ c.1 = a.toNat ∧ c.2 ∈ s.heldBytes (s.physKey (e.frame ++ a.extractLsb' 0 12)) := by
  unfold State.readThrough State.heldAt
  split
  · rename_i hp
    simp only [List.mem_flatMap, List.mem_filter, List.mem_map, hp, true_and, beq_iff_eq]
    constructor
    · rintro ⟨a, ⟨ha, hv⟩, b, hb, rfl⟩
      exact ⟨a, ha, hv, rfl, hb⟩
    · rintro ⟨a, ha, hv, h1, h2⟩
      exact ⟨a, ⟨ha, hv⟩, c.2, h2, by rw [← h1]⟩
  · rename_i hp
    simp [hp]

/-- The bytes the queues keep where the TLB gives up entries. -/
theorem State.mem_keepEntries {s : State} {gone : List TlbEntry} {c : Host.Cell} :
    c ∈ (s.keepEntries gone).queued ↔ (∃ e ∈ gone, c ∈ s.readThrough e) ∨ c ∈ s.queued := by
  simp [State.keepEntries]

/-- A new entry loses nothing that the queues may have read: an entry that it drives out leaves its bytes. -/
theorem State.mem_cacheEntry_queued {s : State} {e x : TlbEntry} {c : Host.Cell} (hx : x ∈ s.tlb) (hc : c ∈ s.readThrough x) :
    x ∈ (s.cacheEntry e).tlb ∨ c ∈ (s.cacheEntry e).queued := by
  by_cases h : x ∈ (s.cacheEntry e).tlb
  · exact .inl h
  · refine .inr (State.mem_keepEntries.mpr (.inl ⟨x, List.mem_filter.mpr ⟨hx, ?_⟩, hc⟩))
    rw [Bool.not_eq_true', ← Bool.not_eq_true, List.contains_iff_mem]
    exact h

end Sys2Proof.Machine
end

