-- ==== Sys2Proof/Laws/Monad.lean ====
section
/-!
SUPPORT. The monad of the machine: what a computation does is read off its first one, and a computation that succeeds comes apart.
-/
namespace Sys2Proof.Machine

open Sys2Proof

variable {α β : Type}

/-! Forward: the first computation is known. -/

@[simp] theorem M.pure_apply (a : α) (s : State) : (pure a : M α) s = .ok a s := rfl

@[simp] theorem M.get_apply (s : State) : (get : M State) s = .ok s s := rfl

@[simp] theorem M.modify_apply (k : State → State) (s : State) : (modify k : M Unit) s = .ok () (k s) := rfl

@[simp] theorem M.throw_apply (e : Stop) (s : State) : (throw e : M α) s = .error e s := rfl

@[simp] theorem raise_apply (v : Byte) (c : Option Half) (s : State) :
    (raise v c : M α) s = .error (.exc { vector := v, code := c } false) s := rfl

@[simp] theorem refuse_apply (r : Refusal) (s : State) : (refuse r : M α) s = .error (.refuse r) s := rfl

theorem M.bind_apply (x : M α) (f : α → M β) (s : State) :
    (x >>= f) s = match x s with | .ok a t => f a t | .error e t => .error e t := by
  show EStateM.bind x f s = _
  unfold EStateM.bind
  cases x s <;> rfl

theorem M.map_apply (f : α → β) (x : M α) (s : State) :
    (f <$> x) s = match x s with | .ok a t => .ok (f a) t | .error e t => .error e t := by
  show EStateM.map f x s = _
  unfold EStateM.map
  cases x s <;> rfl

theorem M.bind_of_ok {x : M α} {f : α → M β} {s t : State} {a : α} (h : x s = .ok a t) : (x >>= f) s = f a t := by
  rw [M.bind_apply, h]

theorem M.bind_of_error {x : M α} {f : α → M β} {s t : State} {e : Stop} (h : x s = .error e t) :
    (x >>= f) s = .error e t := by
  rw [M.bind_apply, h]

@[simp] theorem M.get_bind (f : State → M β) (s : State) : ((get : M State) >>= f) s = f s s := rfl

@[simp] theorem M.modify_bind (k : State → State) (f : Unit → M β) (s : State) :
    ((modify k : M Unit) >>= f) s = f () (k s) := rfl

@[simp] theorem M.pure_bind (a : α) (f : α → M β) (s : State) : ((pure a : M α) >>= f) s = f a s := rfl

@[simp] theorem M.throw_bind (e : Stop) (f : α → M β) (s : State) : ((throw e : M α) >>= f) s = .error e s := rfl

@[simp] theorem M.seqRight_apply (x : M α) (y : M β) (s : State) : (x *> y) s = (x >>= fun _ => y) s := rfl

@[simp] theorem raiseIf_false (x : M Unit) : raiseIf false x = pure () := rfl

@[simp] theorem raiseIf_true (x : M Unit) : raiseIf true x = x := rfl

theorem M.ite_apply (c : Prop) [Decidable c] (x y : M α) (s : State) : (if c then x else y) s = if c then x s else y s := by
  split <;> rfl

@[simp] theorem lockedIf_false (x : M α) : lockedIf false x = x := rfl

@[simp] theorem lockedIf_true (x : M α) : lockedIf true x = locked x := rfl

/-- With no other bus master a locked sequence is the same as another. -/
theorem locked_of_nil {s : State} (h : s.bus = []) (x : M α) : locked x s = x s := by
  have hs : s.withBus [] = s := by rw [← h]; rfl
  unfold locked
  rw [h, List.takeWhile_nil, List.dropWhile_nil, hs]
  cases hx : x s <;> simp only [List.append_nil] <;> rfl

/-- The same of one that is locked on a condition. -/
theorem lockedIf_of_nil {s : State} (h : s.bus = []) (c : Bool) (x : M α) : lockedIf c x s = x s := by
  cases c
  · rfl
  · exact locked_of_nil h x

/-! Backward: a computation that succeeds. -/

/-- What a locked sequence leaves is what its computation leaves, with what was held off still to come. -/
theorem locked_ok {x : M α} {s u : State} {a : α} :
    locked x s = .ok a u ↔ ∃ t, x (s.withBus (s.bus.takeWhile fun b => !b.heldOff)) = .ok a t ∧
      u = t.withBus (t.bus ++ s.bus.dropWhile fun b => !b.heldOff) := by
  unfold locked
  constructor
  · intro h
    split at h
    · rename_i hx
      cases h
      exact ⟨_, hx, rfl⟩
    · cases h
  · rintro ⟨t, hx, rfl⟩
    rw [hx]

theorem M.bind_ok {x : M α} {f : α → M β} {s u : State} {b : β} :
    (x >>= f) s = .ok b u ↔ ∃ a t, x s = .ok a t ∧ f a t = .ok b u := by
  rw [M.bind_apply]
  constructor
  · intro h
    split at h
    · exact ⟨_, _, by assumption, h⟩
    · cases h
  · rintro ⟨a, t, hx, hf⟩
    rw [hx]
    exact hf

/-- A check that is passed changes nothing. -/
theorem raiseIf_ok {c : Bool} {x : M Unit} {s t : State} (hx : ∀ u, x s ≠ .ok () u) :
    raiseIf c x s = .ok () t ↔ c = false ∧ t = s := by
  cases c
  · simp [eq_comm]
  · simp [hx]

/-- Where a computation stops, its first part stopped, or what follows it. -/
theorem M.bind_error {x : M α} {f : α → M β} {s u : State} {e : Stop} :
    (x >>= f) s = .error e u ↔ x s = .error e u ∨ ∃ a t, x s = .ok a t ∧ f a t = .error e u := by
  rw [M.bind_apply]
  constructor
  · intro h
    split at h
    · exact .inr ⟨_, _, by assumption, h⟩
    · rename_i hx
      cases h
      exact .inl hx
  · rintro (hx | ⟨a, t, hx, hf⟩)
    · rw [hx]
    · rw [hx]
      exact hf

/-! What is kept: a relation between the state before and after that every computation of a meaning has. -/

/-- The state a computation leaves, however it ends. -/
def endState (r : EStateM.Result Stop State α) : State :=
  match r with
  | .ok _ t => t
  | .error _ t => t

@[simp] theorem endState_ok (a : α) (t : State) : endState (.ok a t : EStateM.Result Stop State α) = t := rfl

@[simp] theorem endState_error (e : Stop) (t : State) : endState (.error e t : EStateM.Result Stop State α) = t := rfl

/-- The computation takes every state to one that is related to it. -/
def Keeps (R : State → State → Prop) (x : M α) : Prop := ∀ s, R s (endState (x s))

theorem Keeps.pure {R : State → State → Prop} (hr : ∀ s, R s s) (a : α) : Keeps R (pure a : M α) := fun s => hr s

theorem Keeps.get {R : State → State → Prop} (hr : ∀ s, R s s) : Keeps R (get : M State) := fun s => hr s

theorem Keeps.throw {R : State → State → Prop} (hr : ∀ s, R s s) (e : Stop) : Keeps R (throw e : M α) := fun s => hr s

theorem Keeps.raise {R : State → State → Prop} (hr : ∀ s, R s s) (v : Byte) (c : Option Half) :
    Keeps R (raise v c : M α) := fun s => hr s

theorem Keeps.modify {R : State → State → Prop} {k : State → State} (h : ∀ s, R s (k s)) : Keeps R (modify k : M Unit) :=
  fun s => h s

theorem Keeps.bind {R : State → State → Prop} (ht : ∀ s t u, R s t → R t u → R s u) {x : M α} {f : α → M β} (hx : Keeps R x)
    (hf : ∀ a, Keeps R (f a)) : Keeps R (x >>= f) := by
  intro s
  have h := hx s
  rw [M.bind_apply]
  revert h
  cases x s with
  | ok a t => exact fun h => ht _ _ _ h (hf a t)
  | error e t => exact fun h => h

theorem Keeps.ite {R : State → State → Prop} {c : Prop} [Decidable c] {x y : M α} (hx : Keeps R x) (hy : Keeps R y) :
    Keeps R (if c then x else y) := by
  split
  · exact hx
  · exact hy

/-- What holds of a computation whatever is to come on the bus holds of it as a locked sequence. -/
theorem Keeps.locked {R : State → State → Prop} (hb : ∀ s t b c, R (s.withBus b) t → R s (t.withBus c)) {x : M α} (hx : Keeps R x) :
    Keeps R (locked x) := by
  intro s
  have h := hx (s.withBus (s.bus.takeWhile fun b => !b.heldOff))
  unfold Machine.locked
  revert h
  cases x (s.withBus (s.bus.takeWhile fun b => !b.heldOff)) <;> exact fun h => hb _ _ _ _ h

theorem Keeps.lockedIf {R : State → State → Prop} (hb : ∀ s t b c, R (s.withBus b) t → R s (t.withBus c)) {c : Bool} {x : M α}
    (hx : Keeps R x) : Keeps R (lockedIf c x) := by
  cases c
  · exact hx
  · exact Keeps.locked hb hx

theorem Keeps.raiseIf {R : State → State → Prop} (hr : ∀ s, R s s) {c : Bool} {x : M Unit} (hx : Keeps R x) :
    Keeps R (raiseIf c x) := by
  cases c
  · exact Keeps.pure hr ()
  · exact hx

end Sys2Proof.Machine
end

