-- ==== Sys2Proof/Laws/Ops.lean ====
section
/-!
SUPPORT. The shared operations, one lemma each that says when it succeeds and what it leaves, and how the meaning of an instruction ends.
-/
namespace Sys2Proof.Machine

open Sys2Proof

/-! The end of an instruction. -/

theorem perform_ok {body : M Unit} {s t : State} (h : body s = .ok () t) : perform body s = .next t.complete := by
  unfold perform
  rw [h]

theorem perform_exc {body : M Unit} {s t : State} {x : Exc} {keep : Bool} (h : body s = .error (.exc x keep) t) :
    perform body s = takeException s t x keep := by
  unfold perform
  rw [h]
  rfl

theorem perform_refuse {body : M Unit} {s t : State} {r : Refusal} (h : body s = .error (.refuse r) t) :
    perform body s = .refused r := by
  unfold perform
  rw [h]
  rfl

/-- What a meaning answers comes from how its computation ended. -/
theorem perform_next {body : M Unit} {s t : State} (h : perform body s = .next t) :
    (∃ u, body s = .ok () u ∧ t = u.complete) ∨ ∃ u e, body s = .error e u ∧ stopped s u e = .next t := by
  unfold perform at h
  split at h
  · rename_i u hb
    cases h
    exact .inl ⟨u, hb, rfl⟩
  · rename_i e u hb
    exact .inr ⟨u, e, hb, h⟩

/-- Nothing to roll back. -/
@[simp] theorem State.rollback_self (s : State) : s.rollback s = s := rfl

/-- A check that fails at once leaves the state to the exception as it was. -/
theorem takeException_self (s : State) (x : Exc) : takeException s s x false = deliver x.event s.eip s := rfl

theorem noLock_apply (s : State) : noLock s = if s.pfx.lock then .error (.exc { vector := 6, code := none } false) s else .ok () s := by
  show (raiseIf s.pfx.lock raiseUD) s = _
  cases s.pfx.lock <;> rfl

theorem instr_of_noLock {body : M Unit} {s : State} (hl : s.pfx.lock = false) : instr body s = perform body s := by
  unfold instr perform
  rw [M.seqRight_apply, M.bind_of_ok (a := ()) (t := s) (by rw [noLock_apply, hl]; rfl)]

theorem instr_of_lock {body : M Unit} {s : State} (hl : s.pfx.lock = true) :
    instr body s = deliver { vector := 6, kind := .fault, code := none } s.eip s := by
  unfold instr
  rw [perform_exc (x := { vector := 6, code := none }) (keep := false) (t := s), takeException_self]
  · rfl
  · rw [M.seqRight_apply]
    exact M.bind_of_error (by rw [noLock_apply, hl]; rfl)

theorem lockable_mem (x : MemRef) (body : M Unit) (s : State) : lockable (.mem x) body s = perform body s := rfl

theorem lockable_reg (r : Reg) (body : M Unit) (s : State) : lockable (.reg r) body s = instr body s := rfl

theorem instr_ok {body : M Unit} {s t : State} (hl : s.pfx.lock = false) (h : body s = .ok () t) :
    instr body s = .next t.complete := by
  rw [instr_of_noLock hl, perform_ok h]

theorem lockable_reg_ok {r : Reg} {body : M Unit} {s t : State} (hl : s.pfx.lock = false) (h : body s = .ok () t) :
    lockable (.reg r) body s = .next t.complete := instr_ok hl h

theorem lockable_mem_ok {x : MemRef} {body : M Unit} {s t : State} (h : body s = .ok () t) :
    lockable (.mem x) body s = .next t.complete := perform_ok h

theorem instr_exc {body : M Unit} {s : State} {x : Exc} (hl : s.pfx.lock = false) (h : body s = .error (.exc x false) s) :
    instr body s = deliver x.event s.eip s := by
  rw [instr_of_noLock hl, perform_exc h, takeException_self]

@[simp] theorem advance_apply (s : State) : advance s = .ok () s.advance := rfl

/-! Checks. -/

theorem checkReg_ok {r : SegReg} {stack : Bool} {off : Word} {nb : Nat} {a : Access} {s t : State} :
    checkReg r stack off nb a s = .ok () t ↔
      (s.prot && (!r.valid || r.forbids a)) = false ∧ r.outside off nb s.prot = false ∧ t = s := by
  unfold checkReg
  rw [M.get_bind, M.bind_ok]
  constructor
  · rintro ⟨_, u, h1, h2⟩
    obtain ⟨h1, rfl⟩ := (raiseIf_ok (by intro u h; cases h)).mp h1
    obtain ⟨h2, rfl⟩ := (raiseIf_ok (by intro u h; split at h <;> cases h)).mp h2
    exact ⟨h1, h2, rfl⟩
  · rintro ⟨h1, h2, rfl⟩
    exact ⟨(), t, by rw [h1]; rfl, by rw [h2]; rfl⟩

theorem checkSeg_ok {g : Seg} {off : Word} {nb : Nat} {a : Access} {s t : State} :
    checkSeg g off nb a s = .ok () t ↔ s.rightsViolated g a = false ∧ s.limitViolated g off nb = false ∧ t = s := by
  unfold checkSeg
  rw [M.get_bind]
  exact checkReg_ok

/-- Without a change of PE that the queues have not seen, an instruction is decoded by the mode in force. -/
@[simp] theorem State.decodedProt_of_none {s : State} (h : s.queuedMode = none) : s.decodedProt = s.prot := by
  unfold State.decodedProt
  rw [h]

theorem checkTarget_ok {a : Word} {s t : State} : checkTarget a s = .ok () t ↔ a.toNat ≤ s.cs.limit.toNat ∧ t = s := by
  unfold checkTarget
  rw [M.get_bind, raiseIf_ok (by intro u h; cases h)]
  simp

theorem nearJump_ok {a : Word} {s t : State} : nearJump a s = .ok () t ↔ a.toNat ≤ s.cs.limit.toNat ∧ t = s.jump a := by
  unfold nearJump
  rw [M.bind_ok]
  constructor
  · rintro ⟨_, u, h1, h2⟩
    obtain ⟨h1, rfl⟩ := checkTarget_ok.mp h1
    cases h2
    exact ⟨h1, rfl⟩
  · rintro ⟨h1, rfl⟩
    exact ⟨(), s, checkTarget_ok.mpr ⟨h1, rfl⟩, rfl⟩

theorem checkRoom_ok {n w : Nat} {s t : State} : checkRoom n w s = .ok () t ↔ s.ss.hasRoom s.sp n w s.prot = true ∧ t = s := by
  unfold checkRoom
  rw [M.get_bind, raiseIf_ok (by intro u h; cases h)]
  simp

theorem checkStackTop_ok {n : Nat} {s t : State} : checkStackTop n s = .ok () t ↔ s.limitViolated .ss s.sp n = false ∧ t = s := by
  unfold checkStackTop
  rw [M.get_bind, raiseIf_ok (by intro u h; cases h)]
  rfl

theorem requireCpl0_ok {s t : State} : requireCpl0 s = .ok () t ↔ (s.v86 = false ∧ (s.prot = true → s.cpl = 0)) ∧ t = s := by
  unfold requireCpl0
  rw [M.get_bind, raiseIf_ok (by intro u h; cases h)]
  cases s.v86 <;> cases s.prot <;> simp

@[simp] theorem State.transferProt_of_none {s : State} (h : s.queuedMode = none) : s.transferProt = s.prot := by
  unfold State.transferProt
  rw [State.decodedProt_of_none h, Bool.and_self]

/-- Without a change of PE that the queues have not seen, every entry goes by the mode in force. -/
@[simp] theorem State.entryProt_of_none {s : State} {e : Event} (h : s.queuedMode = none) : s.entryProt e = s.pe := by
  unfold State.entryProt
  rw [State.decodedProt_of_none h]
  unfold State.v86 State.prot
  cases s.pe <;> cases s.flags.vm <;> simp

theorem requireProt_ok {s t : State} : requireProt s = .ok () t ↔ s.decodedProt = true ∧ t = s := by
  unfold requireProt
  rw [M.get_bind, raiseIf_ok (by intro u h; cases h)]
  simp

theorem requireIopl_ok {s t : State} :
    requireIopl s = .ok () t ↔ (s.pe = true → s.cpl.toNat ≤ s.flags.iopl.toNat) ∧ t = s := by
  unfold requireIopl
  rw [M.get_bind, raiseIf_ok (by intro u h; cases h)]
  cases s.pe <;> simp

theorem requireV86Iopl_ok {s t : State} : requireV86Iopl s = .ok () t ↔ (s.v86 = true → s.flags.iopl = 3) ∧ t = s := by
  unfold requireV86Iopl
  rw [M.get_bind, raiseIf_ok (by intro u h; cases h)]
  cases s.v86 <;> simp

/-! What other bus masters do. -/

theorem busTurn_nil {s : State} (h : s.bus = []) : busTurn s = .ok () s := by
  unfold busTurn
  rw [h]

/-- Where the processor goes on, the first entry of `bus` is taken, and the bytes it lists are written. -/
theorem busTurn_ok {s t : State} :
    busTurn s = .ok () t ↔ (s.bus = [] ∧ t = s) ∨
      ∃ w rest, s.bus = ⟨w, none⟩ :: rest ∧ t = (s.withBus rest).mastered w := by
  unfold busTurn
  cases hb : s.bus with
  | nil => exact ⟨fun h => .inl ⟨rfl, by cases h; rfl⟩, fun h => by
      rcases h with ⟨_, rfl⟩ | ⟨w, rest, h, _⟩
      · rfl
      · cases h⟩
  | cons x rest =>
    obtain ⟨w, o⟩ := x
    constructor
    · intro h
      cases o <;> cases h
      exact .inr ⟨w, rest, rfl, rfl⟩
    · rintro (⟨h, _⟩ | ⟨w', rest', h, rfl⟩)
      · cases h
      · cases h
        rfl

/-- What the environment does changes memory, and what the queues may hold, only. -/
theorem busTurn_fields {s t : State} (h : busTurn s = .ok () t) :
    t = { s with mem := t.mem, stale := t.stale, bus := t.bus } := by
  rcases busTurn_ok.mp h with ⟨_, rfl⟩ | ⟨w, rest, _, rfl⟩
  · rfl
  · have h := State.mastered_eq (s.withBus rest) w
    rw [h]
    rfl

/-- Between the cycles of a locked sequence nothing comes but RESET and a READY# that stays away. -/
theorem cycleTurn_nil {s : State} (h : s.bus = []) : cycleTurn s = .ok () s := by
  unfold cycleTurn
  rw [locked_of_nil h, busTurn_nil h]

theorem portRead_nil {port : Half} {nb : Nat} {s : State} (h : s.bus = []) : portRead port nb s = .ok (s.ioRead port nb) s := by
  unfold portRead
  rw [M.bind_of_ok (busTurn_nil h)]
  rfl

/-- The cycles of a write to ports are the write, where nothing comes between them. -/
theorem portWrite_nil {port : Half} {nb : Nat} {v : Word} {s : State} (hn : nb = 1 ∨ nb = 2 ∨ nb = 4) (h : s.bus = []) :
    portWrite port nb v s = .ok () (s.ioWrite port nb v) := by
  have hw (t : State) (ht : t.bus = []) (k : Unit → M Unit) : (cycleTurn >>= k) t = k () t := M.bind_of_ok (cycleTurn_nil ht)
  have hp (x : Half) : x + BitVec.ofNat 16 2 = x + 1 + 1 := by rw [BitVec.add_assoc]; rfl
  have hv (x : Word) : x >>> (8 * 2) = x >>> 8 >>> 8 := BitVec.shiftRight_add x 8 8
  unfold portWrite
  rw [M.bind_of_ok (busTurn_nil h)]
  cases port.getLsbD 0 <;> rcases hn with rfl | rfl | rfl <;>
    simp only [operandCycles, portCycles, M.modify_bind, M.modify_apply, hw, State.ioWrite, h, hp, hv] <;> rfl

/-- A cycle within a locked sequence leaves everything but the list of what is to come. -/
theorem cycleTurn_fields {s t : State} (h : cycleTurn s = .ok () t) : t = { s with mem := t.mem, stale := t.stale, bus := t.bus } := by
  obtain ⟨u, hu, rfl⟩ := locked_ok.mp h
  have h := busTurn_fields hu
  rw [h]
  rfl

/-- A walk updates an entry that it read without the bits due, after what the environment does, and leaves any other alone. -/
theorem updateEntry_ok {due : Bool} {pa bits : Word} {s t : State} :
    updateEntry due pa bits s = .ok () t ↔
      (due = false ∧ t = s) ∨ (due = true ∧ ∃ u, busTurn s = .ok () u ∧ t = u.markEntry pa bits) := by
  unfold updateEntry
  cases due
  · exact ⟨fun h => .inl ⟨rfl, by cases h; rfl⟩, by rintro (⟨_, rfl⟩ | ⟨h, _⟩) <;> [rfl; cases h]⟩
  · rw [if_pos rfl, M.bind_ok]
    constructor
    · rintro ⟨_, u, hu, h⟩
      cases h
      exact .inr ⟨rfl, u, hu, rfl⟩
    · rintro (⟨h, _⟩ | ⟨_, u, hu, rfl⟩)
      · cases h
      · exact ⟨(), u, hu, rfl⟩

@[simp] theorem State.between_nil {s : State} (h : s.bus = []) : s.between = s := by
  unfold State.between
  rw [h]
  simp

/-! Operands. -/

/-- What an access through a segment register needs, and what it leaves. -/
theorem regKeys_ok {r : SegReg} {stack user write : Bool} {off : Word} {nb : Nat} {keys : List Nat} {s t : State} :
    regKeys r stack user off nb write s = .ok keys t ↔
      (s.prot && (!r.valid || r.forbids (if write then .write else .read))) = false ∧ r.outside off nb s.prot = false ∧
      ∃ u, linKeys (r.base + off) nb write user s = .ok keys u ∧ t = u.noteData (r.base + off) nb write := by
  unfold regKeys
  rw [M.bind_ok]
  constructor
  · rintro ⟨_, u, h1, h2⟩
    obtain ⟨h1, h3, rfl⟩ := checkReg_ok.mp h1
    obtain ⟨k, v, h4, h5⟩ := M.bind_ok.mp h2
    cases h5
    exact ⟨h1, h3, v, h4, rfl⟩
  · rintro ⟨h1, h3, u, h4, rfl⟩
    refine ⟨(), s, checkReg_ok.mpr ⟨h1, h3, rfl⟩, ?_⟩
    rw [M.bind_of_ok h4]
    rfl

theorem memKeys_ok {g : Seg} {off : Word} {nb : Nat} {write : Bool} {keys : List Nat} {s t : State} :
    memKeys g off nb write s = .ok keys t ↔
      s.rightsViolated g (if write then .write else .read) = false ∧ s.limitViolated g off nb = false ∧
      ∃ u, linKeys (s.linear g off) nb write s.user s = .ok keys u ∧ t = u.noteData (s.linear g off) nb write := by
  unfold memKeys
  rw [M.get_bind]
  exact regKeys_ok

theorem memRead_ok {g : Seg} {off v : Word} {nb : Nat} {s t : State} :
    memRead g off nb s = .ok v t ↔ ∃ keys, memKeys g off nb false s = .ok keys t ∧ v = t.readKeys keys := by
  unfold memRead
  rw [M.bind_ok]
  constructor
  · rintro ⟨keys, u, h1, h2⟩
    cases h2
    exact ⟨keys, h1, rfl⟩
  · rintro ⟨keys, h1, rfl⟩
    exact ⟨keys, t, h1, rfl⟩

theorem memWrite_ok {g : Seg} {off v : Word} {nb : Nat} {s t : State} :
    memWrite g off nb v s = .ok () t ↔ ∃ keys u, memKeys g off nb true s = .ok keys u ∧ t = u.writeKeys keys v := by
  unfold memWrite
  rw [M.bind_ok]
  constructor
  · rintro ⟨keys, u, h1, h2⟩
    cases h2
    exact ⟨keys, u, h1, rfl⟩
  · rintro ⟨keys, u, h1, rfl⟩
    exact ⟨keys, u, h1, rfl⟩

@[simp] theorem writeRM_reg (w : Width) (r : Reg) (v : BitVec w.bits) (s : State) :
    writeRM w (.reg r) v s = .ok () (s.setReg w r v) := rfl

theorem writeRM_mem (w : Width) (x : MemRef) (v : BitVec w.bits) (s : State) :
    writeRM w (.mem x) v s = memWrite (s.ea x).1 (s.ea x).2 w.bytes (v.setWidth 32) s := rfl

@[simp] theorem updateRM_reg (w : Width) (r : Reg) (k : BitVec w.bits → Flags → BitVec w.bits × Flags) (s : State) :
    updateRM w (.reg r) k s = .ok () (s.updateReg w r k) := rfl

theorem updateRM_mem_ok {w : Width} {x : MemRef} {k : BitVec w.bits → Flags → BitVec w.bits × Flags} {s t : State} :
    updateRM w (.mem x) k s = .ok () t ↔
      ∃ keys u, memKeys (s.ea x).1 (s.ea x).2 w.bytes true s = .ok keys u ∧ t = u.updateKeys w keys k := by
  show ((memKeys (s.ea x).1 (s.ea x).2 w.bytes true >>= fun keys => modify fun t => t.updateKeys w keys k) : M Unit) s = _ ↔ _
  rw [M.bind_ok]
  constructor
  · rintro ⟨keys, u, h1, h2⟩
    cases h2
    exact ⟨keys, u, h1, rfl⟩
  · rintro ⟨keys, u, h1, rfl⟩
    exact ⟨keys, u, h1, rfl⟩

/-! The stack. -/

theorem State.ssz32_of_prot {s : State} (h : s.prot = true) : s.ssz32 = arD s.ss.ar := by
  unfold State.ssz32 SegReg.stackWide
  rw [h, Bool.true_or, Bool.and_true]

theorem State.ssz32_of_small {s : State} (h : arD s.ss.ar = false) : s.ssz32 = false := by
  unfold State.ssz32 SegReg.stackWide
  rw [h, Bool.false_and]

theorem push_ok {v : Word} {nb : Nat} {s t : State} :
    push v nb s = .ok () t ↔ ∃ keys u, memKeys .ss (stackSub s.ssz32 s.sp nb) nb true s = .ok keys u ∧
      t = (u.writeKeys keys v).setSp (stackSub s.ssz32 s.sp nb) := by
  unfold push
  rw [M.get_bind, M.bind_ok]
  constructor
  · rintro ⟨_, u, h1, h2⟩
    obtain ⟨keys, x, hk, rfl⟩ := memWrite_ok.mp h1
    cases h2
    exact ⟨keys, x, hk, rfl⟩
  · rintro ⟨keys, u, h1, rfl⟩
    exact ⟨(), _, memWrite_ok.mpr ⟨keys, u, h1, rfl⟩, rfl⟩

theorem stackRead_ok {d nb : Nat} {v : Word} {s t : State} :
    stackRead d nb s = .ok v t ↔
      ∃ keys, memKeys .ss (stackAdd s.ssz32 s.sp (BitVec.ofNat 32 d)) nb false s = .ok keys t ∧ v = t.readKeys keys := by
  unfold stackRead
  rw [M.get_bind]
  exact memRead_ok

/-! With paging off. -/

theorem linKeys_unpaged {la : Word} {nb : Nat} {write user : Bool} {s t : State} (h : s.pg = false) (ht : busTurn s = .ok () t) :
    linKeys la nb write user s = .ok (s.physKeys la nb) t := by
  unfold linKeys
  rw [M.bind_of_ok (a := s.physKeys la nb) (t := s) (by unfold linPages; rw [M.get_bind, h]; rfl), M.bind_of_ok ht]
  rfl

theorem linRead_unpaged {la : Word} {nb : Nat} {user : Bool} {s t : State} (h : s.pg = false) (ht : busTurn s = .ok () t) :
    linRead la nb user s = .ok (t.readKeys (s.physKeys la nb)) t := by
  unfold linRead
  rw [M.bind_of_ok (linKeys_unpaged h ht)]
  rfl

theorem linWrite_unpaged {la v : Word} {nb : Nat} {user : Bool} {s t : State} (h : s.pg = false) (ht : busTurn s = .ok () t) :
    linWrite la nb v user s = .ok () (t.writeKeys (s.physKeys la nb) v) := by
  unfold linWrite
  rw [M.bind_of_ok (linKeys_unpaged h ht)]
  rfl

end Sys2Proof.Machine
end

