-- ==== Sys2Proof/Tests/Slice0.lean ====
section
/-!
SUPPORT. Tests. Decoding: the bytes of every row of the opcode table, written out from its bit pattern with w = d = s = 1, the memory
operand [BX+DI+12H], register ECX, segment DS. Execution: worked examples of spec/95_test_vectors.md (their names) and of the instruction
rules. `witness_X`: a state and operands that meet the hypotheses of `Obligations.X`, clause by clause.
-/
namespace Sys2Proof.Tests

open Sys2Proof Sys2Proof.Machine

set_option Elab.async false

/-! Decoding. -/

/-- [BX+DI+12H]: mod 01, r/m 001. -/
def disp : RM := .mem (.based16 .bxdi (.d8 0x12))

/-- Each instruction is what its bytes decode to at operand and address size 16, to the last byte. -/
def decodesAll (rows : List (Instr × List Byte)) : Bool :=
  rows.all fun x => decide (decode Ctx.real x.2 = .instr x.1 x.2.length)

theorem test_decode_data_transfer_1 : decodesAll [
    (.movRmReg true disp .ecx, [0x89, 0x49, 0x12]), (.movRegRm true disp .ecx, [0x8B, 0x49, 0x12]),
    (.movRmImm true disp 0x1234, [0xC7, 0x41, 0x12, 0x34, 0x12]), (.movRegImm true .ecx 0x1234, [0xB9, 0x34, 0x12]),
    (.movAccMem true 0x1234, [0xA1, 0x34, 0x12]), (.movMemAcc true 0x1234, [0xA3, 0x34, 0x12]),
    (.movSegRm disp .ds, [0x8E, 0x59, 0x12]), (.movRmSeg disp .ds, [0x8C, 0x59, 0x12]),
    (.movsx true disp .ecx, [0x0F, 0xBF, 0x49, 0x12]), (.movzx true disp .ecx, [0x0F, 0xB7, 0x49, 0x12]),
    (.pushRm disp, [0xFF, 0x71, 0x12]), (.pushReg .ecx, [0x51]), (.pushSeg .ds, [0x1E]), (.pushImm true 0x85, [0x6A, 0x85]),
    (.popRm disp, [0x8F, 0x41, 0x12]), (.popReg .ecx, [0x59]), (.xchgRmReg true disp .ecx, [0x87, 0x49, 0x12]),
    (.xchgAccReg .ecx, [0x91]), (.inImm true 0x56, [0xE5, 0x56]), (.inDx true, [0xED]), (.outImm true 0x56, [0xE7, 0x56]),
    (.outDx true, [0xEF]), (.lea disp .ecx, [0x8D, 0x49, 0x12]), (.lds disp .ecx, [0xC5, 0x49, 0x12])] = true := by decide

theorem test_decode_data_transfer_2 : decodesAll [
    (.les disp .ecx, [0xC4, 0x49, 0x12]), (.lfs disp .ecx, [0x0F, 0xB4, 0x49, 0x12]), (.lgs disp .ecx, [0x0F, 0xB5, 0x49, 0x12]),
    (.lss disp .ecx, [0x0F, 0xB2, 0x49, 0x12]), (.pushFs, [0x0F, 0xA0]), (.pushGs, [0x0F, 0xA8]), (.pusha, [0x60]),
    (.popEs, [0x07]), (.popSs, [0x17]), (.popDs, [0x1F]), (.popFs, [0x0F, 0xA1]), (.popGs, [0x0F, 0xA9]), (.popa, [0x61])] = true := by decide

theorem test_decode_arithmetic_1 : decodesAll [
    (.addRmReg true true disp .ecx, [0x03, 0x49, 0x12]), (.addRmImm true true disp 0x85, [0x83, 0x41, 0x12, 0x85]),
    (.addAccImm true 0x1234, [0x05, 0x34, 0x12]), (.adcRmReg true true disp .ecx, [0x13, 0x49, 0x12]),
    (.adcRmImm true true disp 0x85, [0x83, 0x51, 0x12, 0x85]), (.adcAccImm true 0x1234, [0x15, 0x34, 0x12]),
    (.incRm true disp, [0xFF, 0x41, 0x12]), (.incReg .ecx, [0x41]), (.subRmReg true true disp .ecx, [0x2B, 0x49, 0x12]),
    (.subRmImm true true disp 0x85, [0x83, 0x69, 0x12, 0x85]), (.subAccImm true 0x1234, [0x2D, 0x34, 0x12]),
    (.sbbRmReg true true disp .ecx, [0x1B, 0x49, 0x12]), (.sbbRmImm true true disp 0x85, [0x83, 0x59, 0x12, 0x85]),
    (.sbbAccImm true 0x1234, [0x1D, 0x34, 0x12]), (.decRm true disp, [0xFF, 0x49, 0x12]), (.decReg .ecx, [0x49]),
    (.cmpRmReg true true disp .ecx, [0x3B, 0x49, 0x12]), (.cmpRmImm true true disp 0x85, [0x83, 0x79, 0x12, 0x85]),
    (.cmpAccImm true 0x1234, [0x3D, 0x34, 0x12]), (.negRm true disp, [0xF7, 0x59, 0x12]), (.mulRm true disp, [0xF7, 0x61, 0x12]),
    (.imulAcc true disp, [0xF7, 0x69, 0x12]), (.imulReg disp .ecx, [0x0F, 0xAF, 0x49, 0x12]),
    (.imulImm true disp .ecx 0x85, [0x6B, 0x49, 0x12, 0x85])] = true := by decide

theorem test_decode_arithmetic_2 : decodesAll [
    (.divRm true disp, [0xF7, 0x71, 0x12]), (.idivRm true disp, [0xF7, 0x79, 0x12]), (.aad 0x56, [0xD5, 0x56]),
    (.aam 0x56, [0xD4, 0x56]), (.aaa, [0x37]), (.aas, [0x3F]), (.daa, [0x27]), (.das, [0x2F]), (.cbw, [0x98]), (.cwd, [0x99])] = true := by decide

theorem test_decode_logic_1 : decodesAll [
    (.rolOne true disp, [0xD1, 0x41, 0x12]), (.rolCl true disp, [0xD3, 0x41, 0x12]),
    (.rolImm true disp 0x56, [0xC1, 0x41, 0x12, 0x56]), (.rorOne true disp, [0xD1, 0x49, 0x12]),
    (.rorCl true disp, [0xD3, 0x49, 0x12]), (.rorImm true disp 0x56, [0xC1, 0x49, 0x12, 0x56]),
    (.rclOne true disp, [0xD1, 0x51, 0x12]), (.rclCl true disp, [0xD3, 0x51, 0x12]),
    (.rclImm true disp 0x56, [0xC1, 0x51, 0x12, 0x56]), (.rcrOne true disp, [0xD1, 0x59, 0x12]),
    (.rcrCl true disp, [0xD3, 0x59, 0x12]), (.rcrImm true disp 0x56, [0xC1, 0x59, 0x12, 0x56]),
    (.shlOne true disp, [0xD1, 0x61, 0x12]), (.shlCl true disp, [0xD3, 0x61, 0x12]),
    (.shlImm true disp 0x56, [0xC1, 0x61, 0x12, 0x56]), (.shrOne true disp, [0xD1, 0x69, 0x12]),
    (.shrCl true disp, [0xD3, 0x69, 0x12]), (.shrImm true disp 0x56, [0xC1, 0x69, 0x12, 0x56]),
    (.sarOne true disp, [0xD1, 0x79, 0x12]), (.sarCl true disp, [0xD3, 0x79, 0x12]),
    (.sarImm true disp 0x56, [0xC1, 0x79, 0x12, 0x56]), (.shldImm disp .ecx 0x56, [0x0F, 0xA4, 0x49, 0x12, 0x56]),
    (.shldCl disp .ecx, [0x0F, 0xA5, 0x49, 0x12]), (.shrdImm disp .ecx 0x56, [0x0F, 0xAC, 0x49, 0x12, 0x56])] = true := by decide

theorem test_decode_logic_2 : decodesAll [
    (.shrdCl disp .ecx, [0x0F, 0xAD, 0x49, 0x12]), (.andRmReg true true disp .ecx, [0x23, 0x49, 0x12]),
    (.andRmImm true true disp 0x85, [0x83, 0x61, 0x12, 0x85]), (.andAccImm true 0x1234, [0x25, 0x34, 0x12]),
    (.testRmReg true disp .ecx, [0x85, 0x49, 0x12]), (.testRmImm true disp 0x1234, [0xF7, 0x41, 0x12, 0x34, 0x12]),
    (.testAccImm true 0x1234, [0xA9, 0x34, 0x12]), (.orRmReg true true disp .ecx, [0x0B, 0x49, 0x12]),
    (.orRmImm true true disp 0x85, [0x83, 0x49, 0x12, 0x85]), (.orAccImm true 0x1234, [0x0D, 0x34, 0x12]),
    (.xorRmReg true true disp .ecx, [0x33, 0x49, 0x12]), (.xorRmImm true true disp 0x85, [0x83, 0x71, 0x12, 0x85]),
    (.xorAccImm true 0x1234, [0x35, 0x34, 0x12]), (.notRm true disp, [0xF7, 0x51, 0x12])] = true := by decide

theorem test_decode_string : decodesAll [
    (.cmps true, [0xA7]), (.ins true, [0x6D]), (.lods true, [0xAD]), (.movs true, [0xA5]), (.outs true, [0x6F]),
    (.scas true, [0xAF]), (.stos true, [0xAB]), (.repeCmps true, [0xF3, 0xA7]), (.repneCmps true, [0xF2, 0xA7]),
    (.repIns true, [0xF3, 0x6D]), (.repLods true, [0xF3, 0xAD]), (.repMovs true, [0xF3, 0xA5]), (.repOuts true, [0xF3, 0x6F]),
    (.repeScas true, [0xF3, 0xAF]), (.repneScas true, [0xF2, 0xAF]), (.repStos true, [0xF3, 0xAB]), (.xlat, [0xD7])] = true := by decide

theorem test_decode_bit : decodesAll [
    (.bsf disp .ecx, [0x0F, 0xBC, 0x49, 0x12]), (.bsr disp .ecx, [0x0F, 0xBD, 0x49, 0x12]),
    (.btRmImm disp 0x56, [0x0F, 0xBA, 0x61, 0x12, 0x56]), (.btRmReg disp .ecx, [0x0F, 0xA3, 0x49, 0x12]),
    (.btcRmImm disp 0x56, [0x0F, 0xBA, 0x79, 0x12, 0x56]), (.btcRmReg disp .ecx, [0x0F, 0xBB, 0x49, 0x12]),
    (.btrRmImm disp 0x56, [0x0F, 0xBA, 0x71, 0x12, 0x56]), (.btrRmReg disp .ecx, [0x0F, 0xB3, 0x49, 0x12]),
    (.btsRmImm disp 0x56, [0x0F, 0xBA, 0x69, 0x12, 0x56]), (.btsRmReg disp .ecx, [0x0F, 0xAB, 0x49, 0x12])] = true := by decide

theorem test_decode_control_transfer_1 : decodesAll [
    (.callRel 0x1234, [0xE8, 0x34, 0x12]), (.callRm disp, [0xFF, 0x51, 0x12]),
    (.callFar 0x1234 0x5678, [0x9A, 0x34, 0x12, 0x78, 0x56]), (.callFarMem disp, [0xFF, 0x59, 0x12]),
    (.jmpShort 0xFE, [0xEB, 0xFE]), (.jmpRel 0x1234, [0xE9, 0x34, 0x12]), (.jmpRm disp, [0xFF, 0x61, 0x12]),
    (.jmpFar 0x1234 0x5678, [0xEA, 0x34, 0x12, 0x78, 0x56]), (.jmpFarMem disp, [0xFF, 0x69, 0x12]),
    (.retImm 0x1234, [0xC2, 0x34, 0x12]), (.retfImm 0x1234, [0xCA, 0x34, 0x12]), (.joShort 0xFE, [0x70, 0xFE]),
    (.jnoShort 0xFE, [0x71, 0xFE]), (.jbShort 0xFE, [0x72, 0xFE]), (.jnbShort 0xFE, [0x73, 0xFE]), (.jeShort 0xFE, [0x74, 0xFE]),
    (.jneShort 0xFE, [0x75, 0xFE]), (.jbeShort 0xFE, [0x76, 0xFE]), (.jnbeShort 0xFE, [0x77, 0xFE]),
    (.jsShort 0xFE, [0x78, 0xFE]), (.jnsShort 0xFE, [0x79, 0xFE]), (.jpShort 0xFE, [0x7A, 0xFE]), (.jnpShort 0xFE, [0x7B, 0xFE]),
    (.jlShort 0xFE, [0x7C, 0xFE])] = true := by decide

theorem test_decode_control_transfer_2 : decodesAll [
    (.jnlShort 0xFE, [0x7D, 0xFE]), (.jleShort 0xFE, [0x7E, 0xFE]), (.jnleShort 0xFE, [0x7F, 0xFE]),
    (.joNear 0x1234, [0x0F, 0x80, 0x34, 0x12]), (.jnoNear 0x1234, [0x0F, 0x81, 0x34, 0x12]),
    (.jbNear 0x1234, [0x0F, 0x82, 0x34, 0x12]), (.jnbNear 0x1234, [0x0F, 0x83, 0x34, 0x12]),
    (.jeNear 0x1234, [0x0F, 0x84, 0x34, 0x12]), (.jneNear 0x1234, [0x0F, 0x85, 0x34, 0x12]),
    (.jbeNear 0x1234, [0x0F, 0x86, 0x34, 0x12]), (.jnbeNear 0x1234, [0x0F, 0x87, 0x34, 0x12]),
    (.jsNear 0x1234, [0x0F, 0x88, 0x34, 0x12]), (.jnsNear 0x1234, [0x0F, 0x89, 0x34, 0x12]),
    (.jpNear 0x1234, [0x0F, 0x8A, 0x34, 0x12]), (.jnpNear 0x1234, [0x0F, 0x8B, 0x34, 0x12]),
    (.jlNear 0x1234, [0x0F, 0x8C, 0x34, 0x12]), (.jnlNear 0x1234, [0x0F, 0x8D, 0x34, 0x12]),
    (.jleNear 0x1234, [0x0F, 0x8E, 0x34, 0x12]), (.jnleNear 0x1234, [0x0F, 0x8F, 0x34, 0x12]), (.jcxz 0xFE, [0xE3, 0xFE]),
    (.loop 0xFE, [0xE2, 0xFE]), (.loopz 0xFE, [0xE1, 0xFE]), (.loopnz 0xFE, [0xE0, 0xFE]), (.ret, [0xC3])] = true := by decide

theorem test_decode_control_transfer_3 : decodesAll [
    (.retf, [0xCB])] = true := by decide

theorem test_decode_setcc_enter_leave : decodesAll [
    (.seto disp, [0x0F, 0x90, 0x41, 0x12]), (.setno disp, [0x0F, 0x91, 0x41, 0x12]), (.setb disp, [0x0F, 0x92, 0x41, 0x12]),
    (.setnb disp, [0x0F, 0x93, 0x41, 0x12]), (.sete disp, [0x0F, 0x94, 0x41, 0x12]), (.setne disp, [0x0F, 0x95, 0x41, 0x12]),
    (.setbe disp, [0x0F, 0x96, 0x41, 0x12]), (.setnbe disp, [0x0F, 0x97, 0x41, 0x12]), (.sets disp, [0x0F, 0x98, 0x41, 0x12]),
    (.setns disp, [0x0F, 0x99, 0x41, 0x12]), (.setp disp, [0x0F, 0x9A, 0x41, 0x12]), (.setnp disp, [0x0F, 0x9B, 0x41, 0x12]),
    (.setl disp, [0x0F, 0x9C, 0x41, 0x12]), (.setnl disp, [0x0F, 0x9D, 0x41, 0x12]), (.setle disp, [0x0F, 0x9E, 0x41, 0x12]),
    (.setnle disp, [0x0F, 0x9F, 0x41, 0x12]), (.enter 0x1234 0x56, [0xC8, 0x34, 0x12, 0x56]), (.leave, [0xC9])] = true := by decide

theorem test_decode_interrupt_instructions : decodesAll [
    (.intN 0x56, [0xCD, 0x56]), (.bound disp .ecx, [0x62, 0x49, 0x12]), (.int3, [0xCC]), (.into, [0xCE]), (.iret, [0xCF])] = true := by decide

theorem test_decode_system_1 : decodesAll [
    (.movCrReg .cr3 .ecx, [0x0F, 0x22, 0xD9]), (.movRegCr .cr3 .ecx, [0x0F, 0x20, 0xD9]),
    (.movDrReg .dr7 .ecx, [0x0F, 0x23, 0xF9]), (.movRegDr .dr7 .ecx, [0x0F, 0x21, 0xF9]),
    (.movTrReg .tr7 .ecx, [0x0F, 0x26, 0xF9]), (.movRegTr .tr7 .ecx, [0x0F, 0x24, 0xF9]), (.esc 5 2 disp, [0xDD, 0x51, 0x12]),
    (.arpl disp .ecx, [0x63, 0x49, 0x12]), (.lar disp .ecx, [0x0F, 0x02, 0x49, 0x12]), (.lgdt disp, [0x0F, 0x01, 0x51, 0x12]),
    (.lidt disp, [0x0F, 0x01, 0x59, 0x12]), (.lldt disp, [0x0F, 0x00, 0x51, 0x12]), (.lmsw disp, [0x0F, 0x01, 0x71, 0x12]),
    (.lsl disp .ecx, [0x0F, 0x03, 0x49, 0x12]), (.ltr disp, [0x0F, 0x00, 0x59, 0x12]), (.sgdt disp, [0x0F, 0x01, 0x41, 0x12]),
    (.sidt disp, [0x0F, 0x01, 0x49, 0x12]), (.sldt disp, [0x0F, 0x00, 0x41, 0x12]), (.smsw disp, [0x0F, 0x01, 0x61, 0x12]),
    (.str disp, [0x0F, 0x00, 0x49, 0x12]), (.verr disp, [0x0F, 0x00, 0x61, 0x12]), (.verw disp, [0x0F, 0x00, 0x69, 0x12]),
    (.hlt, [0xF4]), (.nop, [0x90])] = true := by decide

theorem test_decode_system_2 : decodesAll [
    (.wait, [0x9B])] = true := by decide

theorem test_decode_undefined_1 : decodesAll [
    (.und8F1 1 1, [0x8F, 0x49]), (.und8F2 1 1, [0x8F, 0x51]), (.und8F3 1 1, [0x8F, 0x59]), (.und8F4 1 1, [0x8F, 0x61]),
    (.und8F5 1 1, [0x8F, 0x69]), (.und8F6 1 1, [0x8F, 0x71]), (.und8F7 1 1, [0x8F, 0x79]), (.undC61 true 1 1, [0xC7, 0x49]),
    (.undC62 true 1 1, [0xC7, 0x51]), (.undC63 true 1 1, [0xC7, 0x59]), (.undC64 true 1 1, [0xC7, 0x61]),
    (.undC65 true 1 1, [0xC7, 0x69]), (.undC66 true 1 1, [0xC7, 0x71]), (.undC67 true 1 1, [0xC7, 0x79]),
    (.undFE2 1 1, [0xFE, 0x51]), (.undFE3 1 1, [0xFE, 0x59]), (.undFE4 1 1, [0xFE, 0x61]), (.undFE5 1 1, [0xFE, 0x69]),
    (.undFE6 1 1, [0xFE, 0x71]), (.undFE7 1 1, [0xFE, 0x79]), (.undFF7 1 1, [0xFF, 0x79]), (.und0F006 1 1, [0x0F, 0x00, 0x71]),
    (.und0F007 1 1, [0x0F, 0x00, 0x79]), (.und0F015 1 1, [0x0F, 0x01, 0x69])] = true := by decide

theorem test_decode_undefined_2 : decodesAll [
    (.und0F017 1 1, [0x0F, 0x01, 0x79]), (.und0FBA0 1 1, [0x0F, 0xBA, 0x41]), (.und0FBA1 1 1, [0x0F, 0xBA, 0x49]),
    (.und0FBA2 1 1, [0x0F, 0xBA, 0x51]), (.und0FBA3 1 1, [0x0F, 0xBA, 0x59]), (.undShift6 true true 1 1, [0xD3, 0x71]),
    (.undShiftImm6 true 1 1, [0xC1, 0x71]), (.undF61 true 1 1, [0xF7, 0x49]), (.undD6, [0xD6]), (.undF1, [0xF1]),
    (.und0F05, [0x0F, 0x05]), (.und0F07, [0x0F, 0x07]), (.und0FA6, [0x0F, 0xA6]), (.und0FA7, [0x0F, 0xA7])] = true := by decide

theorem test_decode_flag_control : decodesAll [
    (.clc, [0xF8]), (.cld, [0xFC]), (.cli, [0xFA]), (.clts, [0x0F, 0x06]), (.cmc, [0xF5]), (.lahf, [0x9F]), (.popf, [0x9D]),
    (.pushf, [0x9C]), (.sahf, [0x9E]), (.stc, [0xF9]), (.std, [0xFD]), (.sti, [0xFB])] = true := by decide

theorem test_decode_prefixes : decodesAll [
    (.pfxAddrSize, [0x67]), (.pfxLock, [0xF0]), (.pfxOpSize, [0x66]), (.pfxCs, [0x2E]), (.pfxDs, [0x3E]), (.pfxEs, [0x26]),
    (.pfxFs, [0x64]), (.pfxGs, [0x65]), (.pfxSs, [0x36]), (.pfxLock, [0xF0])] = true := by decide

theorem test_decode_repeat_prefix : decode Ctx.real [0xF3, 0x90] = .instr .pfxRep 1 ∧ decode Ctx.real [0xF2, 0x90] = .instr .pfxRepne 1 ∧
    decode Ctx.real [0xF3] = .more ∧ decode ⟨false, false, some .repne⟩ [0xA7] = .instr (.repneCmps true) 1 := by decide

theorem test_decode_wide : decode ⟨true, true, none⟩ [0x69, 0x84, 0xB5, 0x78, 0x56, 0x34, 0x12, 0xEF, 0xBE, 0xAD, 0xDE] =
    .instr (.imulImm false (.mem (.sib .ebp (some .esi) 2 (.full 0x12345678))) .eax 0xDEADBEEF) 11 := by decide

theorem test_decode_rejects : decode Ctx.real [0x0F, 0xFF] = .reject .undefinedOpcode ∧ decode Ctx.real [0x0F, 0x94, 0xC8] = .reject .setccField ∧
    decode Ctx.real [0x0F, 0x20, 0xC8] = .reject .cr1 ∧ decode Ctx.real [0x0F, 0x21, 0xE0] = .reject .dr45 ∧
    decode Ctx.real [0x0F, 0x20, 0x00] = .reject .specialMod ∧ decode Ctx.real [0x0F, 0x20, 0xE0] = .reject .specialCode ∧
    decode Ctx.real [0x0F, 0x24, 0xC0] = .reject .specialCode ∧ decode Ctx.real [0x8E, 0xF0] = .reject .undefinedOpcode := by decide

theorem test_decode_table_word : decodeTableWord 16 0x00D8 = some (.addRmReg false false (.reg .eax) .ebx) ∧
    decodeTableWord 8 0x90 = some .nop ∧ decodeTableWord 16 0x0FFF = none ∧
    decodeTableWord 16 0x8800 = some (.movRmReg false (.mem (.based16 .bxsi .none)) .eax) := by decide

/-! Well-formedness: an ill-formed term for each check. -/

theorem test_wf_refuses_wide_immediate : Instr.wf Ctx.real (.movRegImm true .eax 0x10000) = false ∧
    Instr.wf Ctx.real (.addAccImm false 0x100) = false ∧ Instr.wf Ctx.real (.addRmImm true true (.reg .eax) 0x100) = false ∧
    Instr.wf Ctx.real (.pushImm true 0x100) = false ∧ Instr.wf Ctx.real (.movAccMem true 0x10000) = false ∧
    Instr.wf Ctx.real (.jmpRel 0x10000) = false ∧ Instr.wf Ctx.real (.callFar 0x10000 0) = false := by decide

theorem test_wf_refuses_address : Instr.wf Ctx.real (.notRm true (.mem (.direct32 0))) = false ∧
    Instr.wf ⟨false, true, none⟩ (.notRm true (.mem (.direct16 0))) = false ∧
    Instr.wf Ctx.real (.notRm true (.mem (.based16 .bp .none))) = false ∧
    Instr.wf Ctx.real (.notRm true (.mem (.based16 .si (.full 0x10000)))) = false ∧
    Instr.wf ⟨false, true, none⟩ (.notRm true (.mem (.based32 .esp .none))) = false ∧
    Instr.wf ⟨false, true, none⟩ (.notRm true (.mem (.based32 .ebp .none))) = false ∧
    Instr.wf ⟨false, true, none⟩ (.notRm true (.mem (.sib .eax (some .esp) 0 .none))) = false ∧
    Instr.wf ⟨false, true, none⟩ (.notRm true (.mem (.sibNoBase (some .esp) 0 0))) = false := by decide

theorem test_wf_refuses_other_bytes : Instr.wf Ctx.real (.pushSeg .fs) = false ∧ Instr.wf Ctx.real (.xchgAccReg .eax) = false := by decide

/-! Machines. -/

def place : Nat → List Byte → List Host.Cell → List Host.Cell
  | _, [], m => m
  | a, b :: rest, m => place (a + 1) rest (cellPut m a b)

/-- Bytes in physical memory. -/
def poke (s : State) (a : Nat) (bs : List Byte) : State := { s with mem := place a bs s.mem }

/-- REAL mode: code at 1000:0100, data and stack at segment 2000H, SP = 100H, every handler at 0050:0400 but by its vector's entry. -/
def real : State :=
  poke { State.reset with
    cs := { SegReg.reset with sel := 0x1000, base := 0x10000 }, ss := { SegReg.reset with sel := 0x2000, base := 0x20000 }
    ds := { SegReg.reset with sel := 0x2000, base := 0x20000 }, es := { SegReg.reset with sel := 0x2000, base := 0x20000 }
    eip := 0x100, regs := { State.reset.regs with edx := 0, esp := 0x100 } }
    0 [0x00, 0x04, 0x50, 0x00]

/-- Protected Mode data, 64 Kbyte long, which REAL mode can be entered with. -/
def small : SegReg := { sel := 0x10, base := 0, limit := 0xFFFF, ar := 0x093, valid := true }

/-- A flat segment register. -/
def flat (ar : BitVec 12) (sel : Half) : SegReg := { sel := sel, base := 0, limit := 0xFFFFFFFF, ar := ar, valid := true }

/-- Selectors 08 code of level 0, 10 data, 18 data of level 3, 20 not present, 28 code of level 3, 30 the current TSS, 38 conforming
code, 40 a free TSS, 48 a call gate to 08:0200, 50 an LDT, 58 a stack of level 3. -/
def gdt : List Byte :=
  [0, 0, 0, 0, 0, 0, 0, 0, 0xFF, 0xFF, 0, 0, 0x0F, 0x9B, 0, 0, 0xFF, 0xFF, 0, 0, 0, 0x92, 0xCF, 0, 0xFF, 0xFF, 0, 0, 0, 0xF2, 0, 0,
   0xFF, 0xFF, 0, 0, 0, 0x12, 0, 0, 0xFF, 0xFF, 0, 0, 0x0F, 0xFB, 0, 0, 0x78, 0, 0, 0x20, 1, 0x8B, 0, 0, 0xFF, 0xFF, 0, 0, 0x0F, 0x9E, 0, 0,
   0x67, 0, 0, 0x30, 1, 0x89, 0, 0, 0, 2, 8, 0, 0, 0xEC, 0, 0, 0x0F, 0, 0, 0x40, 1, 0x82, 0, 0, 0xFF, 0xFF, 0, 0, 0, 0xF2, 0xCF, 0]

/-- Vectors 3 to 7: a gate of DPL 3, one not present, none, a gate of DPL 0, a 286 gate of DPL 3; and 13, 14 gates of DPL 0. -/
def idt : List Byte :=
  [0, 0x13, 8, 0, 0, 0xEE, 0, 0, 0, 0x14, 8, 0, 0, 0x0E, 0, 0, 0, 0, 0, 0, 0, 0, 0, 0, 0, 0x16, 8, 0, 0, 0x8E, 0, 0,
   0, 0x17, 8, 0, 0, 0xE6, 0, 0]

/-- Protected Mode at level `n` (0 or 3): 16-bit code at linear F0100H, ESP = 2000H. -/
def prot (n : BitVec 2) : State :=
  let s := { State.reset with
    cr0 := 0x11, cpl := n, eip := 0x100, cs := ⟨if n = 0 then 8 else 0x2B, 0xF0000, 0xFFFF, if n = 0 then 0x09B else 0x0FB, true⟩
    ss := if n = 0 then flat 0xC93 0x10 else flat 0xCF3 0x5B, ds := flat 0xCF3 0x5B, es := flat 0xCF3 0x5B
    gdtr := ⟨0x80000, 0x5F⟩, idtr := ⟨0x90000, 0x77⟩, tr := ⟨0x30, 0x12000, 0x78, 0x08B, true⟩
    regs := { State.reset.regs with edx := 0, esp := 0x2000 } }
  poke (poke (poke (poke (poke s 0x80000 gdt) 0x90018 idt) 0x90068 [0, 0x1D, 8, 0, 0, 0x8E, 0, 0, 0, 0x1E, 8, 0, 0, 0x8E, 0, 0])
    0x12004 [0, 0x80, 0, 0, 0x10, 0]) 0x12066 [0x68, 0]

/-- Protected Mode at level 0 with segments that REAL mode can be entered with. -/
def leaving : State := { prot 0 with ss := small, ds := small, es := small, fs := small, gs := small }

/-- Virtual 8086 mode with the IOPL given, SP = 100H. -/
def v86 (iopl : BitVec 2) : State :=
  { prot 3 with
    flags := { State.reset.flags with vm := true, iopl := iopl }, cs := v86Load 0x1000, ss := v86Load 0x2000, ds := v86Load 0x2000
    es := v86Load 0x2000, fs := v86Load 0x2000, gs := v86Load 0x2000, regs := { State.reset.regs with edx := 0, esp := 0x100 } }

/-- Paging on: linear 0 to 3FFFFFH through the table at 2000H, whose page 1 is the frame 5000H; page 2 is not present. -/
def paged : State :=
  poke (poke { prot 3 with cr0 := 0x80000011, cr3 := 0x1000 } 0x1000 [0x07, 0x20, 0, 0]) 0x2004 [0x05, 0x50, 0, 0]

/-- With Accessed set in the directory entry. -/
def walked : State := poke paged 0x1000 [0x27]

/-- Code at linear F0100H through the frame 60H, where a NOP stands; the TLB holds that page, not Dirty, as the tables say. -/
def pagedCode : State := { poke (poke walked 0x23C0 [0x27, 0, 6, 0]) 0x60100 [0x90] with tlb := [⟨0xF0, 0x60, true, true, false⟩] }

/-- With a task in the TSS of selector 40, at CS 08 and SS 10, and a task gate to it at selector 48. -/
def tasked : State := poke (poke (poke (prot 0) 0x1304C [8]) 0x13050 [0x10]) 0x80048 [0, 0, 0x40, 0, 0, 0x85]

/-- The answer is a next state that passes the check. -/
def ends (r : Result) (k : State → Bool) : Bool :=
  match r with
  | .next t => k t
  | _ => false

/-- One step of `s` with the code placed at CS:EIP ends in a state that passes the check. -/
def runs (s : State) (code : List Byte) (k : State → Bool) : Bool :=
  ends (step (poke s ((s.cs.base + s.eip).setWidth 24).toNat code)) k

def succeeds {α : Type} (x : M α) (s : State) : Bool :=
  match x s with
  | .ok _ _ => true
  | .error _ _ => false

/-- The selector's descriptor can be read, and passes the check in the state after it. -/
def reads (sel : Half) (s : State) (k : Descriptor → State → Bool) : Bool :=
  match readDescriptor sel s with
  | .ok (some d) t => k d t
  | _ => false

/-- An exception, with its vector. -/
def raises {α : Type} (x : M α) (s : State) (vector : Byte) : Bool :=
  match x s with
  | .error (.exc e keep) _ => e.vector == vector && !keep
  | _ => false

def refuses (r : Result) (x : Refusal) : Bool :=
  match r with
  | .refused y => y == x
  | _ => false

def r32 (s : State) (r : Reg) (v : Word) : State := s.setReg .b32 r v

/-! Execution. -/

/-- V42-1, V42-3: ADD AL, BL. -/
theorem test_add_flags :
    runs (r32 (r32 real .eax 0x7F) .ebx 1) [0x00, 0xD8] (fun t => t.regs.eax == 0x80 && t.flags.image == 0x892 && t.eip == 0x102) = true ∧
    runs (r32 (r32 real .eax 0x80) .ebx 0x80) [0x00, 0xD8] (fun t => t.regs.eax == 0 && t.flags.image == 0x847) = true := by decide

/-- R711: NEG of 80H; R706: SUB with a borrow. -/
theorem test_neg_sub : runs (r32 real .eax 0x80) [0xF6, 0xD8] (fun t => t.regs.eax == 0x80 && t.flags.off && t.flags.cf && t.flags.sf) = true ∧
    runs (r32 (r32 real .eax 0) .ebx 1) [0x29, 0xD8] (fun t => t.regs.eax == 0xFFFF && t.flags.cf && t.flags.sf && !t.flags.off) = true := by
  decide

/-- R703, R707: the carry goes in. -/
theorem test_adc_sbb : ends (exec (.adcAccImm false 0x00) { r32 real .eax 0xFF with flags := { real.flags with cf := true } })
      (fun t => t.regs.eax == 0 && t.flags.cf && t.flags.zf) = true ∧
    ends (exec (.sbbAccImm false 0xFF) { r32 real .eax 0 with flags := { real.flags with cf := true } })
      (fun t => t.regs.eax == 0 && t.flags.cf && t.flags.af) = true := by decide

/-- R704, R708: INC and DEC keep CF. -/
theorem test_inc_dec : runs { r32 real .eax 0x7FFF with flags := { real.flags with cf := true } } [0x40]
      (fun t => t.regs.eax == 0x8000 && t.flags.cf && t.flags.off) = true ∧
    runs (r32 real .eax 0) [0x48] (fun t => t.regs.eax == 0xFFFF && !t.flags.cf && t.flags.af) = true := by decide

/-- R717, R720: IMUL of FFH and 02H; DIV of 0105H by 10H; division by 0 enters vector 0. -/
theorem test_imul_div : runs (r32 (r32 real .eax 0xFF) .ebx 2) [0xF6, 0xEB] (fun t => t.regs.eax == 0xFFFE && !t.flags.cf) = true ∧
    runs (r32 (r32 real .eax 0x105) .ebx 0x10) [0xF6, 0xF3] (fun t => t.regs.eax == 0x0510) = true ∧
    runs (r32 real .eax 0x105) [0xF6, 0xF3] (fun t => t.cs.sel == 0x50 && t.eip == 0x400 && t.regs.eax == 0x105) = true := by decide

/-- R714, R722, R723: DAA after 79H + 35H; AAD and AAM of 10 by their second byte. -/
theorem test_decimal : runs (r32 real .eax 0xAE) [0x27] (fun t => t.regs.eax == 0x14 && t.flags.cf && t.flags.af) = true ∧
    runs (r32 real .eax 0x0507) [0xD5, 0x0A] (fun t => t.regs.eax == 57) = true ∧
    runs (r32 real .eax 57) [0xD4, 0x0A] (fun t => t.regs.eax == 0x0507) = true := by decide

/-- R724, R725: CBW and CWD of negative values. -/
theorem test_convert : runs (r32 real .eax 0x80) [0x98] (fun t => t.regs.eax == 0xFF80) = true ∧
    runs (r32 real .eax 0x8000) [0x99] (fun t => t.regs.edx == 0xFFFF) = true := by decide

/-- R765 to R767, R763: the last bit out is CF; SAR keeps the sign; RCL goes through CF. -/
theorem test_shifts : runs (r32 real .eax 0x81) [0xD0, 0xE0] (fun t => t.regs.eax == 0x02 && t.flags.cf && t.flags.off) = true ∧
    runs (r32 real .eax 0x81) [0xC0, 0xF8, 0x01] (fun t => t.regs.eax == 0xC0 && t.flags.cf) = true ∧
    runs { r32 real .eax 0x80 with flags := { real.flags with cf := true } } [0xD0, 0xD0] (fun t => t.regs.eax == 1 && t.flags.cf) = true ∧
    runs (r32 (r32 real .eax 0x1234) .ebx 0xABCD) [0x0F, 0xA4, 0xD8, 0x04] (fun t => t.regs.eax == 0x234A) = true := by decide

/-- R841, R844: BSF; BTC with a register offset beyond the operand. -/
theorem test_bits : runs (r32 real .ebx 0x0120) [0x0F, 0xBC, 0xC3] (fun t => t.regs.eax == 5 && !t.flags.zf) = true ∧
    runs (r32 (r32 real .ebx 0x40) .ecx 0xFFFF) [0x0F, 0xBB, 0x0F] (fun t => t.byte 0x2003F == 0x80 && !t.flags.cf) = true := by decide

/-- R72, V20-2: the highest real mode address; V20-4: a word at FFFFH raises exception 13. -/
theorem test_real_addresses : runs { poke (r32 real .ebx 0xFFFF) 0x10FFEF [0x5A] with ds := { real.ds with sel := 0xFFFF, base := 0xFFFF0 } }
      [0x8A, 0x07] (fun t => t.regs.eax == 0x5A) = true ∧
    runs (poke (r32 real .ebx 0xFFFF) 0x34 [0x00, 0x11, 0x50, 0x00]) [0x8B, 0x07]
      (fun t => t.cs.sel == 0x50 && t.eip == 0x1100 && t.byte 0x200FA == 0x00 && t.byte 0x200FB == 0x01) = true := by decide

/-- V40-1 to V40-4: PUSH SP pushes SP as it was; POP SP; a push at SP = 1 has no room and shuts down. -/
theorem test_stack : runs real [0x54] (fun t => t.regs.esp == 0xFE && t.byte 0x200FF == 0x01 && t.byte 0x200FE == 0) = true ∧
    runs (poke real 0x20100 [0x34, 0x12]) [0x5C] (fun t => t.regs.esp == 0x1234) = true ∧
    runs (r32 real .esp 1) [0x50] (fun t => t.run == .shutdown) = true := by decide

/-- V10-1, R610: a byte register keeps the rest; MOVSX of 80H. -/
theorem test_moves : runs (r32 real .eax 0x12345678) [0xB4, 0x09] (fun t => t.regs.eax == 0x12340978) = true ∧
    runs (r32 real .ebx 0x80) [0x0F, 0xBE, 0xC3] (fun t => t.regs.eax == 0xFF80) = true ∧
    runs (r32 (r32 real .eax 0x11) .ebx 0x22) [0x87, 0xC3] (fun t => t.regs.eax == 0x22 && t.regs.ebx == 0x11) = true := by decide

/-- R627, R629: IN takes what the port answers; OUT is recorded. -/
theorem test_ports : runs { real with ioIn := [(0x60, 0x5A)] } [0xE4, 0x60] (fun t => t.regs.eax == 0x5A) = true ∧
    runs (r32 real .eax 0x1234) [0xE7, 0x60] (fun t => t.ioOut == [(0x61, 0x12), (0x60, 0x34)]) = true := by decide

/-- R675, R677; V10-5: POPF in REAL mode. -/
theorem test_flags : runs { real with flags := { real.flags with cf := true, zf := true } } [0x9F] (fun t => t.regs.eax == 0x4300) = true ∧
    runs (r32 real .eax 0xD500) [0x9E] (fun t => t.flags.image == 0xD7) = true ∧
    runs (poke real 0x20100 [0xFF, 0xFF]) [0x9D] (fun t => t.flags.image == 0x7FD7 && t.regs.esp == 0x102) = true := by decide

/-- R808, R801: MOVSB down; one iteration of REP STOSB, and its end at CX = 0. -/
theorem test_strings : runs { r32 (r32 (poke real 0x20010 [0x77]) .esi 0x10) .edi 0x20 with flags := { real.flags with df := true } } [0xA4]
      (fun t => t.byte 0x20020 == 0x77 && t.regs.esi == 0x0F && t.regs.edi == 0x1F) = true ∧
    runs (r32 (r32 real .ecx 2) .eax 0x55) [0xF3, 0xAA] (fun t => t.regs.ecx == 1 && t.byte 0x20000 == 0x55 && t.eip == 0x100) = true ∧
    runs real [0xF3, 0xAA] (fun t => t.eip == 0x102 && t.regs.edi == 0) = true := by decide

/-- R866, R881, R877: backwards jumps and a condition not met. -/
theorem test_jumps : runs real [0xEB, 0xFE] (fun t => t.eip == 0x100) = true ∧
    runs (r32 real .ecx 2) [0xE2, 0xF0] (fun t => t.eip == 0xF2 && t.regs.ecx == 1) = true ∧ runs real [0x74, 0x10] (fun t => t.eip == 0x102) = true ∧
    runs (r32 real .ecx 1) [0xE2, 0xF0] (fun t => t.eip == 0x102 && t.regs.ecx == 0) = true := by decide

/-- R861, R873, R863: CALL pushes the next address; RET 2; a far CALL. -/
theorem test_calls : runs real [0xE8, 0x10, 0x00] (fun t => t.eip == 0x113 && t.byte 0x200FE == 0x03 && t.byte 0x200FF == 0x01) = true ∧
    runs (poke real 0x20100 [0x34, 0x12]) [0xC2, 0x02, 0x00] (fun t => t.eip == 0x1234 && t.regs.esp == 0x104) = true ∧
    runs real [0x9A, 0x00, 0x01, 0x00, 0xF0] (fun t => t.cs.base == 0xF0000 && t.eip == 0x100 && t.regs.esp == 0xFC) = true := by decide

/-- R900 to R902: SETE; ENTER 4,0; LEAVE. -/
theorem test_set_enter_leave : runs { real with flags := { real.flags with zf := true } } [0x0F, 0x94, 0xC0] (fun t => t.regs.eax == 1) = true ∧
    runs (r32 real .ebp 0x77) [0xC8, 0x04, 0x00, 0x00] (fun t => t.regs.ebp == 0xFE && t.regs.esp == 0xFA && t.byte 0x200FE == 0x77) = true ∧
    runs (r32 (poke real 0x20040 [0x34, 0x12]) .ebp 0x40) [0xC9] (fun t => t.regs.ebp == 0x1234 && t.regs.esp == 0x42) = true := by decide

/-- R920, R931: INT 21H saves the next address and clears IF; IRET takes three words. -/
theorem test_interrupts : runs { poke real 0x84 [0x00, 0x09, 0x60, 0x00] with flags := { real.flags with ifl := true } } [0xCD, 0x21]
      (fun t => t.cs.sel == 0x60 && t.eip == 0x900 && !t.flags.ifl && t.regs.esp == 0xFA && t.byte 0x200FA == 0x02) = true ∧
    runs (poke real 0x20100 [0x10, 0x00, 0x00, 0x20, 0x01, 0x02]) [0xCF]
      (fun t => t.cs.base == 0x20000 && t.eip == 0x10 && t.flags.ifl && t.flags.cf && t.regs.esp == 0x106) = true := by decide

/-- V21-9, V21-10: MOV DS loads a descriptor and marks it accessed; a null selector makes DS invalid. -/
theorem test_segment_loads : runs (r32 (prot 0) .eax 0x10) [0x8E, 0xD8]
      (fun t => t.ds == { sel := 0x10, base := 0, limit := 0xFFFFFFFF, ar := 0xC92, valid := true } && t.byte 0x80015 == 0x93) = true ∧
    runs (r32 (prot 0) .eax 3) [0x8E, 0xD8] (fun t => t.ds.sel == 3 && !t.ds.valid && t.eip == 0x102) = true := by decide +kernel

/-- V21-12, V49-1: exceptions in Protected Mode, with their error codes, at the same level and from level 3. -/
theorem test_protected_exceptions : runs (r32 (prot 0) .eax 0x13) [0x8E, 0xD8]
      (fun t => t.cs.sel == 8 && t.eip == 0x1D00 && t.byte t.regs.esp.toNat == 0x10) = true ∧
    runs (prot 3) [0xF4] (fun t => t.cpl == 0 && t.ss.sel == 0x10 && t.eip == 0x1D00 && t.regs.esp == 0x7FE8) = true := by decide +kernel

/-- R355: CALL through the gate at 48H to level 0; R387: CALL of the TSS at 40H. -/
theorem test_gates_and_tasks : runs (prot 3) [0x9A, 0x00, 0x00, 0x4B, 0x00]
      (fun t => t.cpl == 0 && t.cs.sel == 8 && t.eip == 0x200 && t.regs.esp == 0x7FF0) = true ∧
    runs (poke (prot 0) 0x13000 [0, 0, 0, 0, 0, 0, 0, 0, 0, 0, 0, 0, 0, 0, 0, 0, 0, 0, 0, 0, 0, 0, 0, 0, 0, 0, 0, 0, 0, 0, 0, 0, 0x00, 0x05,
        0, 0, 0, 0, 0, 0, 0, 0, 0, 0, 0, 0, 0, 0, 0, 0, 0, 0, 0, 0, 0, 0, 0, 0, 0, 0, 0, 0, 0, 0, 0, 0, 0, 0, 0, 0, 0, 0, 0, 0, 0, 0, 8, 0, 0, 0,
        0x10]) [0x9A, 0x00, 0x00, 0x40, 0x00]
      (fun t => t.tr.sel == 0x40 && t.ts && t.flags.nt && t.eip == 0x500 && t.byte 0x13000 == 0x30 && t.byte 0x80045 == 0x8B) = true := by
  decide +kernel

/-- V41-3, R405: CLI in Virtual 8086 mode. -/
theorem test_v86 : runs (v86 3) [0xFA] (fun t => t.eip == 0x101) = true ∧
    runs (v86 2) [0xFA] (fun t => t.cpl == 0 && !t.flags.vm && t.eip == 0x1D00 && t.regs.esp == 0x7FD8) = true := by decide +kernel

/-- R461, R476: a user read sets A; a user write of a read-only page raises exception 14 with code 7 in its low bits. -/
theorem test_paging : succeeds (do let k ← linKeys 0x1004 1 false true; raiseIf (k != [0x5004]) raiseGP0) paged = true ∧
    raises (linKeys 0x1004 1 true true) paged 14 = true ∧ raises (linKeys 0x2004 1 false false) walked 14 = true ∧
    ends (match linKeys 0x1004 1 false true paged with | .ok _ t => .next t | .error _ _ => .refused .cr1)
      (fun t => t.byte 0x1000 == 0x27 && t.byte 0x2004 == 0x25) = true := by decide +kernel

/-- V49-11, V49-14, R990: ARPL, LAR, LMSW does not clear PE. -/
theorem test_protection : runs (r32 (r32 (prot 0) .ebx 8) .eax 0x13) [0x63, 0xC3] (fun t => t.regs.ebx == 0x0B && t.flags.zf) = true ∧
    runs (r32 (prot 0) .ebx 8) [0x0F, 0x02, 0xC3] (fun t => t.regs.eax == 0x9B00 && t.flags.zf) = true ∧
    runs (prot 0) [0x0F, 0x01, 0xF0] (fun t => t.cr0 == 0x11) = true := by decide +kernel

/-- R508: LOCK; R955: CR3; R950: HLT; R1202: INTR after STI waits for the next boundary. -/
theorem test_system : runs { real with pfx := { Pfx.none with lock := true, count := 1 }, eip := 0x100 } [0xF0, 0x90]
      (fun t => t.cs.sel == 0) = true ∧
    runs (r32 real .eax 0x12345FFF) [0x0F, 0x22, 0xD8] (fun t => t.cr3 == 0x12345000) = true ∧
    runs real [0xF4] (fun t => t.run == .halted && t.eip == 0x101) = true ∧
    runs real [0xFB] (fun t => t.flags.ifl && t.inhibit) = true := by decide +kernel

/-- R801, R1086: an iteration of REP STOSB after STI keeps INTR off; R1084: NMI leaves IF clear; R950: one halt cycle. -/
theorem test_inhibit_and_cycles :
    (let s := { r32 real .ecx 2 with inhibit := true, pins := { real.pins with intr := true }, flags := { real.flags with ifl := true } }
     runs s [0xF3, 0xAA] (fun t => t.inhibit && t.regs.ecx == 1 && t.eip == 0x100 && !t.intrReady) = true) ∧
    runs { real with nmiPending := true, flags := { real.flags with ifl := true } } [0x90] (fun t => !t.flags.ifl && t.nmiInService) = true ∧
    runs real [0xF4] (fun t => t.cycles == [.halt]) = true := by decide

/-- R976, R977, R979: PEREQ stores an item of a coprocessor operand at [10H], or reads it; beyond the limit a later item raises exception 9,
the first one exception 13, with the address of the ESC instruction saved. -/
theorem test_operand_transfers :
    let c (off : Word) (stores started : Bool) : EscCommand := ⟨1, 7, real.ds, false, off, false, stores, started, { real.cs with sel := 0x77 }, 0xF8⟩
    let s (off : Word) (stores started : Bool) : State := { poke (poke real 0x24 [0x00, 0x09, 0x60, 0x00]) 0x34 [0x00, 0x0D, 0x60, 0x00] with
      escCommand := some (c off stores started), stimuli := [[.pereq false 0x1234]] }
    runs (s 0x10 true false) [0x90] (fun t => t.byte 0x20010 == 0x34 && t.byte 0x20011 == 0x12 && t.escCommand == some (c 0x12 true true)) = true ∧
    runs (poke (s 0x10 false false) 0x20010 [0x56, 0x78]) [0x90] (fun t => t.ioOut == [(0x8000FD, 0x78), (0x8000FC, 0x56)]) = true ∧
    runs (s 0xFFFF true true) [0x90] (fun t => t.cs.sel == 0x60 && t.eip == 0x900 && t.escCommand == none && t.escDue == none &&
      t.byte 0x200FA == 0x00 && t.byte 0x200FC == 0x00) = true ∧
    runs (s 0xFFFF true false) [0x90] (fun t => t.cs.sel == 0x60 && t.eip == 0xD00 && t.escCommand == none && t.escDue == none &&
      t.byte 0x200FA == 0xF8 && t.byte 0x200FC == 0x77) = true := by decide +kernel

/-- R238, R1200: another master's write comes before a bus operation; RESET ends an instruction, or a stalled machine, at once. -/
theorem test_bus :
    ends (exec (.movRegRm false (.mem (.direct16 0)) .eax) { real with bus := [⟨[(0x20000, 0x77)], none⟩] }) (fun t => t.regs.eax == 0x77) =
      true ∧
    runs { real with bus := [⟨[], some .reset⟩] } [0x90] (fun t => t.eip == 0xFFF0 && t.cs.sel == 0xF000) = true ∧
    ends (step { real with run := .stalled, stimuli := [[.reset]] }) (fun t => t.run == .running && t.eip == 0xFFF0) = true := by decide

/-- R343, R234: a master's write of a descriptor waits until its Accessed bit is written. R251, R1200: RESET between the cycles of OUT DX, EAX. -/
theorem test_bus_cycles :
    ends (exec (.movSegRm (.reg .eax) .ds) { r32 (prot 0) .eax 0x10 with bus := [⟨[], none⟩, ⟨[], none⟩, ⟨[(0x80015, 0xF2)], none⟩] })
      (fun t => t.byte 0x80015 == 0x93 && t.bus.length == 1) = true ∧
    ends (exec (.outDx true) { r32 real .eax 0x12345678 with
        pfx := { Pfx.none with opSize := true, count := 1 }, bus := [⟨[], none⟩, ⟨[], some .reset⟩] })
      (fun t => t.ioOut == [(1, 0x56), (0, 0x78)] && t.cs.sel == 0xF000) = true := by decide +kernel

/-- R1142: NMI does not end shutdown in REAL mode with IDTR.limit below 000FH, or with SP = 5. -/
theorem test_shutdown :
    let s : State := { real with run := .shutdown, stimuli := [[.nmi]] }
    ends (step { s with idtr := ⟨0, 0xE⟩ }) (fun t => t.run == .shutdown) = true ∧ ends (step (r32 s .esp 5)) (fun t => t.run == .shutdown) = true ∧
    ends (step { r32 s .esp 6 with idtr := ⟨0, 0xF⟩ }) (fun t => t.run == .running && t.nmiInService) = true := by decide

/-- R484: a write to the page of the code gives up its TLB entry, here of another frame than the tables name by then; what the queues have
read through it stays. -/
theorem test_queues_keep_old_page :
    (let s := poke pagedCode 0x23C0 [0x27, 0x10, 6, 0]
     (0xF0100, 0x90) ∈ (s.dropEntry 0xF0200).queued ∧ (s.dropEntry 0xF0200).tlb = [] ∧
     (0xF0100, 0x90) ∈ (s.setCreg .cr3 0x1000).queued ∧ (s.dropEntry 0x1000).queued = []) := by decide +kernel

/-- R113, R957: the exception by GD reports the execution breakpoint at the MOV, which is not enabled, beside BD. -/
theorem test_gd_reports_breakpoint : runs { real with dr7 := 0x2000, dr0 := 0x10100 } [0x0F, 0x21, 0xF8]
    (fun t => t.dr6 == 0x2001 && t.dr7 == 0) = true := by decide +kernel

/-- R1058: a JMP to a TSS on a page that is not present can be restarted: nothing but CR2 has changed. -/
theorem test_absent_tss :
    let d : Descriptor := ⟨0x30000067, 0x00408900⟩
    raises (taskSwitch 0x40 d .jmp 0x100 2) { walked with cpl := 0, tr := ⟨0x30, 0x1000, 0x67, 0x08B, true⟩ } 14 = true := by decide +kernel

/-- R624: POPA. -/
theorem test_popa :
    runs (poke (r32 real .esp 0xF0) 0x200F0 [1, 0, 2, 0, 3, 0, 4, 0, 5, 0, 6, 0, 7, 0, 8, 0]) [0x61] (fun t =>
      t.regs.edi == 1 && t.regs.esi == 2 && t.regs.ebp == 3 && t.regs.esp == 0x100 && t.regs.ebx == 5 && t.regs.edx == 6 && t.regs.ecx == 7 &&
      t.regs.eax == 8) = true := by decide +kernel

/-- R955, R957: the privilege check comes before what else is wrong with CR1 and DR4; R987: LGDT [0100H] above level 0; D38. -/
theorem test_privilege_first : runs (prot 3) [0x0F, 0x20, 0xC8] (fun t => t.eip == 0x1D00) = true ∧
    runs (prot 3) [0x0F, 0x21, 0xE0] (fun t => t.eip == 0x1D00) = true ∧ runs (prot 3) [0x0F, 0x01, 0x16, 0, 1] (fun t => t.eip == 0x1D00) = true ∧
    refuses (exec (.movCrReg .cr0 .eax) (prot 0)) .realCaches = true := by decide +kernel

/-- The first step after reset fetches at FFFFF0H (R162), and runs what `withFetchWord` places. -/
theorem test_first_instruction : ends (step (State.reset.withFetchWord 16 0x00D8)) (fun t => t.eip == 0xFFF2) = true ∧
    (State.reset.withFetchWord 16 0x00D8).byte 0xFFFFF1 = 0xD8 := by decide +kernel

/-! Witnesses. -/

def add : Instr := .addRmReg false false (.reg .eax) .ebx

/-- The operand at [BX+DI+12H], as data. -/
def dispRef : MemRef := .based16 .bxdi (.d8 0x12)

def direct (off : Half) : MemRef := .direct16 off

/-- A next instruction of `len` bytes. -/
def at_ (s : State) (len : Nat) : State := s.begin len

theorem witness_DecodeReadsEncodedInstruction : Instr.wf Ctx.real (.movRmImm true disp 0xFFFF) = true ∧
    Instr.wf Ctx.real .pfxRep = true ∧ repeated .rep 0x90 = none ∧ Instr.wf ⟨true, true, some .repne⟩ (.repneScas true) = true := by decide

/-- Two bytes after 13 prefixes: 15 in all. -/
theorem witness_FetchReadsInstructionBytes :
    let s := poke { real with pfx := { Pfx.none with count := 13 } } 0x1010D [0x00, 0xD8]
    s.pg = false ∧ s.stale = [] ∧ s.queued = [] ∧ s.bus = [] ∧ Instr.wf s.ctx add = true ∧ s.pfx.count + (encode s.ctx add).length ≤ maxLength ∧
    s.rightsViolated .cs .execute = false ∧ encode s.ctx add = [0x00, 0xD8] ∧
    s.limitViolated .cs (s.fetchOffset + 0) 1 = false ∧ s.byte (s.physKey (s.linear .cs (s.fetchOffset + 0))) = 0x00 ∧
    s.limitViolated .cs (s.fetchOffset + 1) 1 = false ∧ s.byte (s.physKey (s.linear .cs (s.fetchOffset + 1))) = 0xD8 := by decide

theorem witness_StepRunsFetchedInstruction :
    let s := poke real 0x10100 [0x00, 0xD8]
    s.quiet ∧ s.run ≠ .stalled ∧ ∃ t, fetch s.fetchState = .ok (.instr add 2) t := ⟨by unfold State.quiet; decide, by decide, _, rfl⟩

theorem witness_MemoryReadsLastWrite : memWf real.mem ∧ real.platform.a20Wrap = false ∧ memSize - 1 < memSize ∧
    (∀ k ∈ [memSize - 1, 0, 1, 2], k < memSize) ∧ [memSize - 1, 0, 1, 2].Nodup ∧
    real.physKeys 0xFFFFFF 4 = [memSize - 1, 0, 1, 2] := by decide

theorem witness_StepKeepsMemoryCanonical : memWf real.mem ∧ ends (step real) (fun _ => true) = true := by decide

theorem witness_StepKeepsModesLegal : (real.modeLegal ∧ (v86 3).modeLegal ∧ (prot 3).modeLegal) ∧ ends (step (v86 3)) (fun _ => true) = true := by
  unfold State.modeLegal; decide +kernel

theorem witness_StepKeepsTranslationState : paged.translationLegal ∧ { real with pfx := { Pfx.none with count := 15 } }.prefixLegal ∧
    ends (step { paged with run := .halted }) (fun _ => true) = true := by
  unfold State.translationLegal State.prefixLegal; decide +kernel

theorem witness_UnprivilegedKeepsSystemRegisters : (v86 3).unprivileged ∧ { prot 0 with cpl := 1 }.unprivileged ∧
    (v86 3).unstopped ∧ ends (exec (.movRegImm true .eax 1) (v86 3)) (fun _ => true) = true := by
  unfold State.unprivileged State.unstopped; decide +kernel

theorem witness_ModeChangesHaveOneSource :
    ends (exec (.movCrReg .cr0 .eax) leaving) (fun t => !t.pe) = true ∧ leaving.pe = true ∧ leaving.unstopped ∧ real.unstopped ∧
    ends (exec .iret { real with nmiInService := true }) (fun t => !t.nmiInService) = true ∧
    ends (exec .hlt real) (fun t => t.run == .halted) = true ∧ real.run = .running := by
  unfold State.unstopped; decide +kernel

theorem witness_ExecRefusesOnlyDeclared : refuses (exec .undD6 real) .undocumentedOpcode = true ∧
    refuses (exec (.movTrReg .tr6 .eax) { paged with cpl := 0 }) .testRegisterWithPaging = true ∧
    refuses (exec (.esc 0 0 (.reg .eax)) real) .coprocessorAbsent = true ∧ refuses (exec (.movCrReg .cr0 .eax) (prot 0)) .realCaches = true ∧
    refuses (exec (.intN 7) (v86 3)) .gate286FromV86 = true := by decide +kernel

theorem witness_UnpagedAccess : real.pg = false ∧ real.limitViolated .ds 0xFFFF 1 = false ∧ real.limitViolated .ds 0xFFFF 2 = true ∧
    real.limitViolated .ss 0xFFFF 2 = true ∧ real.bus = [] ∧
    succeeds busTurn { real with bus := [⟨[(0, 1)], none⟩] } = true ∧ (prot 0).rightsViolated .fs .write = false ∧ (prot 0).rightsViolated .cs .write = true := by
  decide +kernel

/-- R222: at the limit and one past it, of code, of expand-down data of 64 Kbytes, and of 4 Gbytes; a read of code that is not readable. -/
theorem test_segment_bounds :
    let s (ar : BitVec 12) : State := { prot 0 with fs := ⟨0x10, 0, 0xFFF, ar, true⟩ }
    let past (ar : BitVec 12) : List (Word × Nat) → List Bool := List.map fun x => (s ar).limitViolated .fs x.1 x.2
    past 0x09B [(0xFFF, 1), (0xFFF, 2), (0x1000, 1)] = [false, true, true] ∧
    past 0x097 [(0xFFF, 1), (0xFFF, 2), (0x1000, 1), (0xFFFF, 1), (0xFFFF, 2)] = [true, true, false, false, true] ∧
    past 0x497 [(0xFFF, 1), (0x1000, 1), (0xFFFFFFFF, 1), (0xFFFFFFFF, 2)] = [true, false, false, true] ∧
    (s 0x099).rightsViolated .fs .read = true ∧ (s 0x09B).rightsViolated .fs .read = false ∧ (s 0x091).rightsViolated .fs .write = true := by
  decide

/-- R530: [BP+SI-1] wraps within 16 bits, in SS; R531: [ESP+ECX*8+10H], in SS and, with an override, in FS. -/
theorem test_effective_address :
    (r32 (r32 real .ebp 0xFFFF) .esi 3).ea (.based16 .bpsi (.d8 0xFF)) = (.ss, 1) ∧
    (let s := r32 (r32 real .esp 0xFFFFFFF0) .ecx 2
     s.ea (.sib .esp (some .ecx) 3 (.d8 0x10)) = (.ss, 0x10) ∧
     { s with pfx := { Pfx.none with seg := some .fs } }.ea (.sib .esp (some .ecx) 3 (.d8 0x10)) = (.fs, 0x10)) := by decide

theorem witness_OperandAccess : real.bus = [] ∧ paged.bus = [] ∧ memWf real.mem ∧ memWf paged.mem ∧ succeeds (memKeys .ds 0xFFFE 2 true) real = true ∧ real.pg = false ∧
    succeeds (memKeys .ds 0x1FFF 1 false) paged = true ∧ succeeds (memKeys (real.ea dispRef).1 (real.ea dispRef).2 2 false) real = true := by
  decide +kernel

theorem witness_PageWalk : paged.bus = [] ∧ memWf paged.mem ∧
    (let pde (a : Word) := paged.pageEntry (pdeAddr paged.cr3 a)
     let pte (a : Word) := paged.pageEntry (pteAddr (pde a) a)
    entryP (pde 0x400000) = false ∧ (entryP (pde 0x2000) = true ∧ entryP (pte 0x2000) = false) ∧
    (entryP (pde 0x1000) = true ∧ entryP (pte 0x1000) = true ∧
      permits (entryUS (pde 0x1000) && entryUS (pte 0x1000)) (entryRW (pde 0x1000) && entryRW (pte 0x1000)) true true = false) ∧
    succeeds (walk 0x1FFF false true) paged = true ∧ succeeds (walk 0x1000 true false) paged = true ∧
    (let s := poke (poke paged 0x1000 [0x27]) 0x2004 [0x65]
     entryA (s.pageEntry (pdeAddr s.cr3 0x1000)) = true ∧ entryA (s.pageEntry (pteAddr (s.pageEntry (pdeAddr s.cr3 0x1000)) 0x1000)) = true ∧
     entryD (s.pageEntry (pteAddr (s.pageEntry (pdeAddr s.cr3 0x1000)) 0x1000)) = true ∧ s.bus = [] ∧ memWf s.mem ∧
     succeeds (walk 0x1000 true false) s = true)) ∧
    (let e : TlbEntry := ⟨1, 5, true, false, false⟩
     let s := { poke walked 0x2004 [0x25] with tlb := [e] }
     let pde := s.pageEntry (pdeAddr s.cr3 0x1004)
     let pte := s.pageEntry (pteAddr pde 0x1004)
     s.tlb.find? (fun x => x.vpn == pageOf 0x1004) = some e ∧ s.tlb.find? (fun x => x.vpn == pageOf 0x2000) = none ∧
     (entryP pde = true ∧ entryP pte = true ∧ entryA pde = true ∧ entryA pte = true ∧
       e = { vpn := pageOf 0x1004, frame := pte.extractLsb' 12 20, us := entryUS pde && entryUS pte, rw := entryRW pde && entryRW pte,
             d := entryD pte }) ∧
     permits e.us e.rw true true = false ∧ permits e.us e.rw true false = true ∧ e.d = false) ∧
    (let keys (s : State) (a : Word) : Bool :=
       decide (s.physKeys (pdeAddr s.cr3 a) 4 = s.physKeys (pteAddr (s.pageEntry (pdeAddr s.cr3 a)) a) 4)
     let one := poke paged 0x1FFC [0x07, 0x10, 0, 0]
     keys paged 0x1000 = false ∧ keys one 0xFFFFF000 = true ∧ memWf one.mem ∧ one.bus = [] ∧ succeeds (walk 0xFFFFF000 true true) one = true) ∧
    (pagedCode.tlb.all fun e => permits e.us e.rw false pagedCode.user && pagedCode.queueWindow.any fun a => pageOf a == e.vpn) = true ∧
    (match translate 0xF0200 true true pagedCode with
     | .ok _ t => pagedCode.tlb.all fun e => !t.tlb.contains e && t.queued.contains (0xF0100, 0x90)
     | .error _ _ => false) = true := by
  decide +kernel

theorem witness_RegisterLoads : real.pfx.lock = false ∧ raises (readRM .b16 (.mem (.direct16 0xFFFF))) real 13 = true ∧
    raises (readRM .b16 (.mem (.direct16 0x2000))) walked 14 = true ∧ succeeds (readRM (real.width true) disp) real = true ∧
    succeeds (memRead real.dataSeg 0xFFFE (real.width true).bytes) real = true ∧ succeeds (readRM (extendSource true) disp) real = true ∧
    succeeds (memRead real.dataSeg (real.offsetAdd (real.addrReg .ebx) ((real.reg .b8 .eax).setWidth 32)) 1) real = true := by decide +kernel

theorem witness_Stores : real.pfx.lock = false ∧ succeeds (memKeys (real.ea dispRef).1 (real.ea dispRef).2 2 true) real = true ∧
    succeeds (memKeys real.dataSeg 0xFFFE 2 true) real = true ∧ (prot 0).decodedProt = true ∧ (prot 0).pfx.lock = false ∧
    succeeds (memKeys ((prot 0).ea dispRef).1 ((prot 0).ea dispRef).2 2 true) (prot 0) = true := by decide +kernel

theorem witness_SegmentLoads : (prot 0).pfx.lock = false ∧
    succeeds (do let sel ← readRM .b16 (.reg .eax); loadSeg .ds sel) (r32 (prot 0) .eax 0x18) = true ∧
    succeeds (do let v ← stackRead 0 2; loadSeg .ss (v.setWidth 16)) (poke (prot 0) 0x2000 [0x10, 0]) = true ∧
    succeeds (do let p ← farPointer (direct 0x100); loadSeg .gs p.2) real = true ∧
    succeeds (do let p ← farPointer (direct 0x100); loadSeg .ss p.2) (poke (prot 0) 0x100 [0, 0, 0x10, 0]) = true ∧
    (let s := poke (poke real 0x2FFFE [0, 1]) 0x20000 [0, 0x30]
     s.asz32 = false ∧ (s.ea (direct 0xFFFE)).2 + 2 = 0x10000 ∧
     succeeds (do let p ← farPointer (direct 0xFFFE); raiseIf (p != (0x100, 0x3000)) raiseGP0) s = true) := by decide +kernel

/-- A selector beyond the table; DPL below CPL; a segment not present; RPL = CPL = DPL, 0 and 3. -/
theorem witness_SegmentLoadByMode : real.decodedProt = false ∧ real.v86 = false ∧ (v86 3).decodedProt = false ∧ (v86 3).v86 = true ∧
    (prot 3).decodedProt = true ∧ (prot 3).queuedMode = none ∧ selNull 3 = true ∧ selNull 0x63 = false ∧ selNull 0x20 = false ∧
    succeeds (do let x ← readDescriptor 0x63; raiseIf (x != none) raiseGP0) (prot 3) = true ∧
    reads 0x13 (prot 3) (fun d t => !d.conforming && decide ((arDpl d.ar).toNat < t.cpl.toNat)) = true ∧
    reads 0x20 (prot 0) (fun d _ => d.isWritable && rpl 0x20 == 0 && arDpl d.ar == 0 && !arP d.ar) = true ∧
    reads 0x10 (prot 0) (fun d t => d.isWritable && arDpl d.ar == 0 && arP d.ar && succeeds (markAccessed 0x10 d) t) = true ∧
    reads 0x1B (prot 3) (fun d t => arP d.ar && arDpl d.ar == 3 && succeeds (markAccessed 0x1B d) t) = true ∧
    (prot 0).pg = false ∧ (prot 0).bus = [] ∧ (prot 0).gdtr.limit.toNat = 0x58 + 7 ∧ reads 0x58 (prot 0) (fun d _ => d.hi == 0xCFF200) = true ∧
    (prot 0).ldtr.valid = false ∧ succeeds (do let x ← readDescriptor 0x0C; raiseIf (x != none) raiseGP0) (prot 0) = true := by decide +kernel

/-- The item at offset 0 of the stack segment. -/
theorem witness_PushInstructions :
    let s := r32 real .esp 2
    s.pg = false ∧ succeeds busTurn s = true ∧ s.bus = [] ∧ s.rightsViolated .ss .write = false ∧ s.limitViolated .ss (stackSub s.ssz32 s.sp 2) 2 = false ∧ s.pfx.lock = false ∧
    succeeds (do let v ← readRM s.osz disp; push (v.setWidth 32) 2) s = true ∧ succeeds (push (s.flags.image &&& 0x00FCFFFF) 2) s = true ∧
    (v86 3).flags.iopl = 3 ∧
    (prot 0).prot = true ∧ real.ss.ar.getLsbD 10 = false ∧
    succeeds (push ((v86 3).flags.image &&& 0x00FCFFFF) 2) (v86 3) = true ∧ succeeds (push (undefHigh 0 0x2000) 2) s = true ∧
    succeeds (pushAll 2 [0, 0, 0, 0, 0x10, 0, 0, 0]) (r32 real .esp 0x10) = true := by decide +kernel

theorem witness_PopInstructions :
    let s := r32 real .esp 0xFFFE
    s.pfx.lock = false ∧ succeeds (stackRead 0 s.osz.bytes) s = true ∧
    succeeds (memKeys ((s.dropStack 2).ea dispRef).1 ((s.dropStack 2).ea dispRef).2 2 true) (s.dropStack 2) = true ∧
    succeeds (stackItems 2 0 8) (r32 real .esp 0xFFF0) = true ∧ (v86 3).v86 = true ∧ (v86 3).flags.iopl = 3 ∧
    succeeds (stackRead 0 2) (v86 3) = true ∧ real.pe = false ∧ (prot 0).prot = true ∧ (prot 0).cpl = 0 ∧
    ((prot 3).prot = true ∧ (prot 3).flags.iopl.toNat < (prot 3).cpl.toNat ∧ (prot 3).cpl ≠ 0) ∧ (v86 3).cpl.toNat ≤ 3 := by decide +kernel

theorem witness_Exchanges : real.pfx.lock = false ∧
    succeeds (memKeys (real.ea dispRef).1 (real.ea dispRef).2 2 true) { real with pfx := { Pfx.none with lock := true } } = true := by decide

/-- In Protected Mode with CPL = IOPL, and through the permission map at CPL above IOPL. -/
theorem witness_PortInputOutput : real.pfx.lock = false ∧ real.pe = false ∧
    (let s := { prot 3 with flags := { real.flags with iopl := 3 } }; s.prot = true ∧ s.cpl.toNat ≤ s.flags.iopl.toNat ∧ s.pfx.lock = false) ∧
    succeeds (ioPermitted 0 1) (poke (prot 3) 0x12068 [0, 0, 0]) = true ∧ (prot 3).flags.iopl.toNat < (prot 3).cpl.toNat ∧
    raises (ioPermitted 0x80 1) (prot 3) 13 = true ∧ (prot 3).prot = true ∧ (v86 3).v86 = true ∧ (prot 3).pg = false ∧ (prot 3).bus = [] ∧
    succeeds (ioPermitted 0x77 1) (prot 3) = true ∧ real.bus = [] ∧
    (let s := { real with bus := [⟨[(0, 1)], none⟩, ⟨[(0, 2)], none⟩, ⟨[], none⟩] }
     (0x60 : Half).getLsbD 0 = false ∧ (0x61 : Half).getLsbD 0 = true ∧ succeeds (portWrite 0x60 4 0) s = true ∧
     succeeds (do busTurn; modify fun a => a.ioWrite 0x61 1 0; cycleTurn; modify fun b => b.ioWrite 0x62 2 0; cycleTurn) s = true) := by
  decide +kernel

theorem witness_FlagInstructions : real.pfx.lock = false := by decide

theorem witness_InterruptFlagControl :
    (let s := { prot 3 with flags := { real.flags with iopl := 3 } }; s.pfx.lock = false ∧ s.pe = true ∧ s.cpl.toNat ≤ s.flags.iopl.toNat) ∧
    (prot 0).prot = true ∧ (prot 0).cpl = 0 ∧ real.pe = false ∧ real.pfx.lock = false := by decide +kernel

theorem witness_ArithmeticAndLogicForms : real.pfx.lock = false ∧ succeeds (readRM (real.width true) disp) real = true ∧
    succeeds (memKeys (real.ea dispRef).1 (real.ea dispRef).2 2 true) { real with pfx := { Pfx.none with lock := true } } = true ∧
    succeeds (memKeys (real.ea dispRef).1 (real.ea dispRef).2 (real.width false).bytes true) real = true := by decide

theorem witness_CompareAndTest : real.pfx.lock = false ∧ succeeds (readRM (real.width true) disp) real = true := by decide

theorem witness_IncrementDecrementNegateNot : real.pfx.lock = false ∧
    succeeds (memKeys (real.ea dispRef).1 (real.ea dispRef).2 (real.width true).bytes true) real = true := by decide

theorem witness_Multiplication : real.pfx.lock = false ∧ succeeds (readRM (real.width true) disp) real = true ∧
    succeeds (readRM real.osz (.reg .ebx)) real = true := by decide

theorem witness_Division : real.pfx.lock = false ∧ succeeds (readRM (real.width true) (.reg .ebx)) real = true ∧
    divide (n := 8) 0xFFFF 0xFF = none ∧ divide (n := 8) 0xFEFF 0xFF = some (0xFF, 0xFE) ∧ divide (n := 8) 5 0 = none ∧
    idivide (n := 8) (-0x80) 0x01 = some (0x80, 0) ∧ idivide (n := 8) 0x80 0x01 = none := by decide

theorem witness_DecimalAdjustAndConvert : real.pfx.lock = false ∧ (1 : Byte) ≠ 0 := by decide

theorem witness_ShiftInstructions : real.pfx.lock = false ∧ maskedCount 0x20 = 0 ∧ maskedCount 0xFF = 31 ∧
    real.rightsViolated (real.ea dispRef).1 .write = false ∧ real.limitViolated (real.ea dispRef).1 (real.ea dispRef).2 2 = false ∧
    succeeds (linKeys (real.linear (real.ea dispRef).1 (real.ea dispRef).2) 2 true real.user) real = true ∧
    succeeds (memKeys (real.ea dispRef).1 (real.ea dispRef).2 (real.width true).bytes true) real = true := by decide

theorem witness_ShiftResults : 0 < 1 ∧ 0 < 31 ∧ 31 ≤ 31 ∧ 16 ≤ Width.b16.bits ∧ Width.b16.bits < 17 ∧ ¬ 31 ≤ Width.b16.bits := by decide

theorem witness_BitInstructions : real.pfx.lock = false ∧ succeeds (readRM real.osz disp) real = true ∧
    succeeds (memKeys (real.ea dispRef).1 (real.ea dispRef).2 real.osz.bytes true) { real with pfx := { Pfx.none with lock := true } } = true ∧
    (let s := r32 real .ecx 0xFFF0
     succeeds (memKeys (s.bitAddress s.osz (direct 2) (s.reg s.osz .ecx)).1 (s.bitAddress s.osz (direct 2) (s.reg s.osz .ecx)).2 s.osz.bytes
       false) s = true) ∧
    15 < Width.b16.bits := by decide

theorem witness_StringElements :
    let s := r32 (r32 real .esi 0xFFFF) .edi 0xFFFE
    let port : Half := s.regs.edx.setWidth 16
    succeeds (memRead s.dataSeg (s.addrReg .esi) 1) s = true ∧
    succeeds (do let _ ← memRead s.dataSeg (s.addrReg .esi) 1; memKeys .es (s.addrReg .edi) 1 true) s = true ∧
    succeeds (do let _ ← memRead s.dataSeg (s.addrReg .esi) 1; memRead .es (s.addrReg .edi) 1) s = true ∧
    succeeds (memRead .es (s.addrReg .edi) 2) s = true ∧ succeeds (memKeys .es (s.addrReg .edi) 2 true) s = true ∧
    succeeds (do ioPermitted port 2; let _ ← memKeys .es (s.addrReg .edi) 2 true; busTurn) s = true ∧
    succeeds (do ioPermitted port 1; let _ ← memRead s.dataSeg (s.addrReg .esi) 1; portWrite port 1 0) s = true := by decide

theorem witness_StringInstructions : real.pfx.lock = false ∧ real.addrReg .ecx = 0 ∧ (r32 real .ecx 1).addrReg .ecx = 1 ∧
    succeeds (movsElement (real.width true)) (r32 real .ecx 1) = true ∧ succeeds (lodsElement (real.width true)) (r32 real .ecx 2) = true ∧
    succeeds (stosElement (real.width true)) (r32 real .ecx 2) = true ∧ succeeds (cmpsElement (real.width true)) (r32 real .ecx 2) = true ∧
    succeeds (scasElement (real.width true)) (r32 real .ecx 2) = true ∧ succeeds (insElement (real.width true)) (r32 real .ecx 2) = true ∧
    succeeds (outsElement (real.width true)) (r32 real .ecx 2) = true := by decide

/-- Targets at the limit of CS, and one past it. -/
theorem witness_NearTransfers :
    let s := { real with cs := { real.cs with limit := 0x1FF }, eipNext := 0x180 }
    let target8 (s : State) (d : Byte) : Word := (s.eipNext + d.signExtend 32) &&& 0xFFFF
    let target (d : Word) : Word := (s.eipNext + (d.setWidth 16).signExtend 32) &&& 0xFFFF
    s.pfx.lock = false ∧ s.osz32 = false ∧ (target8 s 0x7F).toNat ≤ s.cs.limit.toNat ∧ (target 0x7F).toNat = s.cs.limit.toNat ∧
    (s.ss.hasRoom s.sp 1 s.osz.bytes s.prot = true ∧ succeeds (push s.eipNext s.osz.bytes) s = true) ∧
    succeeds (readRM s.osz (.reg .ebx)) s = true ∧ s.limitViolated .ss s.sp s.osz.bytes = false ∧ succeeds (stackRead 0 s.osz.bytes) s = true ∧
    s.cs.limit.toNat + 1 = (target8 (at_ s 0x81) 0x7F).toNat ∧ s.cs.limit.toNat < (target 0x80).toNat ∧
    { s with flags := { s.flags with zf := true } }.flags.cond 4 = true ∧ s.flags.zf = false ∧ s.addrReg .ecx = 0 ∧
    s.cs.limit.toNat < ((0x200 : Half).setWidth 32).toNat ∧ (s.eipNext.toNat ≤ s.cs.limit.toNat) := by decide

theorem witness_ConditionalAndCountedJumps :
    let s := { real with cs := { real.cs with limit := 0x1FF }, eipNext := 0x180 }
    let target8 (s : State) (d : Byte) : Word := (s.eipNext + d.signExtend 32) &&& 0xFFFF
    let target (d : Word) : Word := (s.eipNext + (d.setWidth 16).signExtend 32) &&& 0xFFFF
    s.pfx.lock = false ∧ s.osz32 = false ∧ (target8 s 0x7F).toNat ≤ s.cs.limit.toNat ∧ (target 0x7F).toNat ≤ s.cs.limit.toNat ∧
    (r32 s .ecx 1).addrReg .ecx = 1 ∧ (r32 s .ecx 2).addrReg .ecx ≠ 1 ∧ s.addrReg .ecx = 0 := by decide

theorem witness_FarTransfers : real.pfx.lock = false ∧ real.prot = false ∧ (v86 3).prot = false ∧ (0xFFFF : Word).toNat ≤ real.cs.limit.toNat ∧
    (real.ss.hasRoom real.sp 2 2 false = true ∧ succeeds (pushReturn (undefHigh 0 real.cs.sel) 2) real = true) ∧
    succeeds (farPointer dispRef) real = true ∧ real.limitViolated .ss real.sp 4 = false ∧
    succeeds (do let _ ← stackRead 0 2; stackRead 2 2) real = true ∧
    (let d : Descriptor := ⟨0x0000FFFF, 0x00009B0F⟩
     let s := poke (poke (prot 0) 0x100 [0, 1, 8, 0]) 0x2000 [0, 1, 8, 0]
     let same (p : Word × Half) : M Unit := raiseIf (p != (0x100, 8)) raiseGP0
     let found : M Unit := do let x ← readDescriptor 8; raiseIf (x != some d) raiseGP0
     s.pfx.lock = false ∧ s.prot = true ∧ arA d.ar = true ∧ s.bus = [] ∧ selNull 8 = false ∧ s.entersCode 8 d ∧ d.returnable 8 ∧ rpl 8 = s.cpl ∧
     s.osz32 = false ∧ ((0xFFFF : Word) &&& 0xFFFF).toNat ≤ d.limit.toNat ∧ s.ss.hasRoom s.sp 2 2 true = true ∧ s.limitViolated .ss s.sp 4 = false ∧
     succeeds (do found; pushReturn (s.cs.sel.setWidth 32) 2; markAccessed 8 d) s = true ∧ succeeds (do found; markAccessed 8 d) s = true ∧
     succeeds (do let p ← farPointer (direct 0x100); same p; found; markAccessed 8 d) s = true ∧
     succeeds (do let o ← stackRead 0 2; let c ← stackRead 2 2; same (o, c.setWidth 16); found; markAccessed 8 d) s = true) ∧
    (let d : Descriptor := ⟨0x0000FFFF, 0x0000FB0F⟩
     let s := poke (prot 0) 0x2000 [0, 1, 0x2B, 0, 0, 0x10, 0x5B, 0]
     let found (frame : Nat) (imm : Word) : M Unit := do
       let o ← stackRead 0 2
       let c ← stackRead 2 2
       let x ← readDescriptor 0x2B
       raiseIf (o != 0x100 || c != 0x2B || x != some d) raiseGP0
       untilMarked d (returnOuter 0x2B d 0x100 2 frame imm)
     s.limitViolated .ss s.sp 4 = false ∧ s.cpl.toNat < (rpl 0x2B).toNat ∧ d.returnable 0x2B ∧ arA d.ar = true ∧ s.bus = [] ∧
     succeeds (found 4 0) s = true ∧ succeeds (found 6 2) (poke s 0x2006 [0, 0x10, 0x5B, 0]) = true) ∧
    (let g : Descriptor := ⟨0x00080200, 0x0000EC00⟩
     let s := poke (prot 0) 0x100 [0, 0, 0x48, 0]
     let found : M Unit := do let x ← readDescriptor 0x48; raiseIf (x != some g) raiseGP0
     s.prot = true ∧ selNull 0x48 = false ∧ g.system = some 12 ∧
     succeeds (do found; throughGate true 0x48 g) s = true ∧ succeeds (do found; throughGate false 0x48 g) s = true ∧
     succeeds (do let p ← farPointer (direct 0x100); raiseIf (p != (0, 0x48)) raiseGP0; found; throughGate true 0x48 g) s = true) := by
  unfold State.entersCode Descriptor.returnable; decide +kernel

/-- The modes of the states of `witness_FarTransfers`, and a state in which instructions decoded before Protected Mode was set may be left. -/
theorem witness_FarTransfers_modes : real.transferProt = false ∧ (v86 3).transferProt = false ∧ real.queuedMode = none ∧
    (prot 0).transferProt = true ∧ (∀ s a bs, (poke s a bs).transferProt = s.transferProt) ∧
    { prot 0 with queuedMode := some false }.queuedMode = some false ∧ { prot 0 with queuedMode := some false }.prot = true :=
  ⟨by decide, by decide, by decide, by decide, fun _ _ _ => rfl, by decide, by decide⟩

/-- To the TSS at selector 40, and through the task gate at 48. -/
theorem witness_FarTransfers_tasks :
    let d : Descriptor := ⟨0x30000067, 0x00008901⟩
    let g : Descriptor := ⟨0x00400000, 0x00008500⟩
    let s := tasked
    let found (sel : Half) (d : Descriptor) : M Unit := do let x ← readDescriptor sel; raiseIf (x != some d) raiseGP0
    let task (kind : SwitchKind) : M Unit := do found 0x40 d; taskSwitch 0x40 d kind s.eipNext s.flags.image
    let gate (kind : SwitchKind) : M Unit := do found 0x48 g; task kind
    let from_ (sel : Half) : M Unit := do let p ← farPointer (direct 0x100); raiseIf (p != (0, sel)) raiseGP0
    s.pfx.lock = false ∧ s.prot = true ∧ s.transferProt = true ∧ selNull 0x40 = false ∧ selTI 0x40 = false ∧ s.cpl.toNat ≤ (arDpl d.ar).toNat ∧
    (rpl 0x40).toNat ≤ (arDpl d.ar).toNat ∧ arP d.ar = true ∧ d.isFreeTss = true ∧ selNull 0x48 = false ∧ g.system = some 5 ∧
    s.cpl.toNat ≤ (arDpl g.ar).toNat ∧ (rpl 0x48).toNat ≤ (arDpl g.ar).toNat ∧ arP g.ar = true ∧ g.gateSel = 0x40 ∧
    ([SwitchKind.jmp, .call].all fun k => succeeds (task k) s && succeeds (gate k) s) = true ∧
    succeeds (do from_ 0x40; task .jmp) (poke s 0x100 [0, 0, 0x40, 0]) = true ∧
    succeeds (do from_ 0x48; gate .call) (poke s 0x100 [0, 0, 0x48, 0]) = true := by decide +kernel

/-- Through the gate at 48H from level 3, and out again; by JMP and CALL to code of the same level, and to conforming code from level 3,
whose Accessed bit is clear. -/
theorem witness_LevelChangesByGateAndReturn : (prot 3).prot = true ∧ succeeds (throughGate true 0x4B ⟨0x00080200, 0x0000EC00⟩) (prot 3) = true ∧
    succeeds (gateEntry ⟨13, .fault, some 0⟩ 0x100 ⟨0x00081D00, 0x00008E00⟩) (prot 3) = true ∧
    succeeds (farReturn 0) (poke (prot 0) 0x2000 [0, 1, 0x2B, 0, 0, 0x10, 0x5B, 0]) = true ∧
    succeeds (iretCode 0x100 0x2B 2 2) (poke (prot 0) 0x2006 [0, 0x10, 0x5B, 0]) = true ∧ succeeds (iretCode 0x100 8 2 2) (prot 0) = true ∧
    (let c : Descriptor := ⟨0x0000FFFF, 0x0000FB0F⟩
     let d : Descriptor := ⟨0x0000FFFF, 0x00CFF200⟩
     let s := poke (prot 0) 0x2000 [0, 1, 0x2B, 0, 0, 0x10, 0x5B, 0]
     s.limitViolated .ss s.sp 8 = false ∧ selNull 0x5B = false ∧ rpl 0x5B = rpl 0x2B ∧ d.isWritable = true ∧ arDpl d.ar = rpl 0x2B ∧
     arP d.ar = true ∧ c.limit.toNat = 0xFFFF ∧
     succeeds (do
       let e ← stackRead 4 2
       let i ← stackRead 6 2
       let x ← readDescriptor 0x5B
       raiseIf (e != 0x1000 || i != 0x5B || x != some d) raiseGP0
       markAccessed 0x2B c
       modify fun t => t.withCode 0x2B c 3
       markAccessed 0x5B d) s = true) ∧
    (let g : Descriptor := ⟨0x00080200, 0x0000EC02⟩
     let c : Descriptor := ⟨0x0000FFFF, 0x00009B0F⟩
     let s := prot 3
     g.gateCount = 2 ∧ s.cpl.toNat ≤ (arDpl g.ar).toNat ∧ (rpl 0x4B).toNat ≤ (arDpl g.ar).toNat ∧ arP g.ar = true ∧ selNull g.gateSel = false ∧
     c.isCode = true ∧ arP c.ar = true ∧ arC c.ar = false ∧ (arDpl c.ar).toNat < s.cpl.toNat ∧ arA c.ar = true ∧ (0x200 : Word).toNat ≤ c.limit.toNat ∧
     succeeds (do
       let x ← readDescriptor 8
       raiseIf (x != some c) raiseGP0
       let i ← innerStack 0
       raiseIf (!(i.2.1.toSegReg i.1).hasRoom (if arD i.2.1.ar then i.2.2 else low16 i.2.2) 6 4 true) raiseGP0
       loadStack i.1 i.2.1
       modify fun b => { b.setReg .b32 .esp i.2.2 with cpl := 0 }
       pushAll 4 [s.ss.sel.setWidth 32, s.regs.esp]
       copyParams s.ss s.user s.sp 4 2
       pushAll 4 [s.cs.sel.setWidth 32, s.eipNext]
       markAccessed 8 c) s = true ∧
     s.pg = false ∧ s.bus = [] ∧ s.tr.isTss386 = true ∧ 9 ≤ s.tr.limit.toNat ∧
     reads 0x10 s (fun d _ => d.isWritable && arDpl d.ar == 0 && arP d.ar) = true ∧ rpl 0x10 = 0 ∧
     s.readKeys (s.physKeys (s.tr.base + 8) 2) = 0x10) ∧
    (let same (s : State) (gsel : Half) (g c : Descriptor) : Bool :=
       let found : M Unit := do let x ← readDescriptor g.gateSel; raiseIf (x != some c) raiseGP0
       decide (s.cpl.toNat ≤ (arDpl g.ar).toNat) && decide ((rpl gsel).toNat ≤ (arDpl g.ar).toNat) && arP g.ar && !selNull g.gateSel &&
       c.isCode && arP c.ar && (if arC c.ar then decide ((arDpl c.ar).toNat ≤ s.cpl.toNat) else arDpl c.ar == s.cpl) && s.bus.isEmpty &&
       decide ((g.gateOffset true).toNat ≤ c.limit.toNat) && g.system == some 12 && s.ss.hasRoom s.sp 2 4 s.prot &&
       succeeds (do found; markAccessed g.gateSel c) s &&
       succeeds (do found; pushAll 4 [s.cs.sel.setWidth 32, s.eipNext]; markAccessed g.gateSel c) s
     same (prot 0) 0x48 ⟨0x00080200, 0x0000EC00⟩ ⟨0x0000FFFF, 0x00009B0F⟩ = true ∧
     same (prot 3) 0x4B ⟨0x0038FFFF, 0x0000EC00⟩ ⟨0x0000FFFF, 0x00009E0F⟩ = true) := by
  decide +kernel

theorem witness_TaskSwitchState :
    let d : Descriptor := ⟨0x30000067, 0x00008901⟩
    let s := poke (poke (prot 0) 0x1304C [8]) 0x13050 [0x10]
    succeeds (taskSwitch 0x40 d .call 0x100 2) s = true ∧ succeeds (taskSwitch 0x40 d .jmp 0x100 2) s = true ∧
    s.pg = false ∧ s.bus = [] ∧ memWf s.mem ∧ s.tr.isTss286 = false ∧ d.isTss386 = true ∧ succeeds (saveTask 0x100 2) s = true ∧
    succeeds (enterTask 0x40 d .int) s = true ∧ s.descriptorAt 0x40 = some 0x80040 ∧ succeeds (writeAccessByte 0x40 2 0) s = true ∧
    paged.pg = true ∧ succeeds (linRead (0x1000 + 0x1C) 4 false) paged = true ∧
    ([SwitchKind.jmp, .iret, .call, .int].all fun k => succeeds (leaveTask 0x40 d k 0x100 2) s) = true ∧
    (let d : Descriptor := ⟨0x20000067, 0x00008900⟩
     walked.bus = [] ∧ tssTooSmall d.isTss386 d.limit.toNat = false ∧ raises (linRead d.base 2 false) walked 14 = true) := by decide +kernel

/-- R382: from a task with a 286 TSS at 12000H to one with a 286 TSS at 13000H. -/
theorem witness_TaskSwitchState_286 :
    let d : Descriptor := ⟨0x3000002C, 0x00008101⟩
    let old := r32 (prot 0) .edi 0xABCD1234
    let s := poke (poke (poke { old with tr := { old.tr with ar := 0x083 }, fs := flat 0xCF3 0x5B } 0x1300E [0, 5, 2, 0, 0x78, 0x56]) 0x13024 [8])
      0x13026 [0x10]
    let after (x : M Unit) (k : State → Bool) : Bool := match x s with
      | .ok _ t => k t
      | .error _ _ => false
    s.pg = false ∧ s.bus = [] ∧ memWf s.mem ∧ s.tr.isTss286 = true ∧ d.isTss386 = false ∧
    after (saveTask 0x10100 0x10002) (fun t => (t.byte 0x1200E, t.byte 0x1200F) == (0, 1) && (t.byte 0x12020, t.byte 0x12021) == (0x34, 0x12) &&
      t.byte 0x12022 == 0x5B && t.byte 0x12024 == 8 && t.byte 0x1202A == s.byte 0x1202A) = true ∧
    after (enterTask 0x40 d .int) (fun t => t.eip == 0x500 && t.regs.eax == 0x5678 && t.cs.sel == 8 && t.ss.sel == 0x10 && !t.fs.valid &&
      t.flags.nt && t.cr3 == s.cr3) = true := by decide +kernel

theorem witness_ByteSetOnCondition : real.pfx.lock = false ∧ succeeds (memKeys (real.ea dispRef).1 (real.ea dispRef).2 1 true) real = true := by
  decide

theorem witness_EnterAndLeave : real.pfx.lock = false ∧ succeeds (push real.regs.ebp real.osz.bytes) real = true ∧
    (0x20 : Byte).toNat % 32 = 0 ∧ (0x1F : Byte).toNat % 32 ≠ 0 ∧
    succeeds (do push real.regs.ebp 2; copyDisplay 2 30 real.bp; push 0xFE 2) (r32 real .ebp 0x400) = true ∧
    succeeds (memRead .ss real.bp real.osz.bytes) real = true := by decide +kernel

/-- The index of BOUND is both bounds. -/
theorem witness_SoftwareInterrupts : real.pfx.lock = false ∧ (v86 3).v86 = true ∧ (v86 3).flags.iopl = 3 ∧
    succeeds (entry ⟨0xFF, .software, none⟩ real.eipNext) real = true ∧ succeeds (entry ⟨3, .software, none⟩ 0x101) (v86 3) = true ∧
    succeeds (entry ⟨4, .software, none⟩ real.eipNext) { real with flags := { real.flags with off := true } } = true ∧ real.flags.off = false ∧
    succeeds (memRead (real.ea dispRef).1 (real.ea dispRef).2 2) real = true ∧
    succeeds (memRead (real.ea dispRef).1 (real.offsetAdd (real.ea dispRef).2 2) 2) real = true ∧
    ((0 : Word).setWidth 16).toInt ≤ (real.reg .b16 .eax).toInt ∧ (real.reg .b16 .eax).toInt ≤ ((0 : Word).setWidth 16).toInt ∧
    ¬ ((r32 real .eax 1).reg .b16 .eax).toInt ≤ ((0 : Word).setWidth 16).toInt := by decide +kernel

theorem witness_InterruptReturns : real.pfx.lock = false ∧ real.transferProt = false ∧ (v86 3).transferProt = false ∧
    (prot 0).transferProt = true ∧ (v86 3).flags.iopl = 3 ∧
    (let s := r32 real .esp 0xFFFA
     s.limitViolated .ss s.sp 6 = false ∧ succeeds (do let _ ← stackRead 0 2; let _ ← stackRead 2 2; stackRead 4 2) s = true) ∧
    (0 : Word).toNat ≤ real.cs.limit.toNat ∧
    (let s := { poke (prot 0) 0x2008 [2, 0, 2, 0] with pfx := { Pfx.none with opSize := true, count := 1 } }
     s.transferProt = true ∧ s.flags.nt = false ∧ s.cpl = 0 ∧ s.osz32 = true ∧ s.limitViolated .ss s.sp 36 = false ∧
     succeeds (do let x ← stackItems 4 0 9; raiseIf (x != [0, 0, 0x20002, 0, 0, 0, 0, 0, 0]) raiseGP0) s = true ∧
     (0x20002 : Word).getLsbD 17 = true) ∧
    (let c : Descriptor := ⟨0x0000FFFF, 0x0000FB0F⟩
     let d : Descriptor := ⟨0x0000FFFF, 0x00009B0F⟩
     let s := poke (prot 0) 0x2000 [0, 1, 8, 0, 2, 0, 0, 0x10, 0x5B, 0]
     let reaches (sel : Half) (d : Descriptor) (k : M Unit) : M Unit := do
       let x ← stackItems 2 0 3
       raiseIf (x != [0x100, sel.setWidth 32, 2]) raiseGP0
       let y ← readDescriptor sel
       raiseIf (y != some d) raiseGP0
       k
     s.transferProt = true ∧ s.osz32 = false ∧ s.limitViolated .ss s.sp 6 = false ∧ rpl 8 = s.cpl ∧ d.returnable 8 ∧ rpl 0x2B ≠ s.cpl ∧ c.returnable 0x2B ∧
     succeeds (reaches 8 d (markAccessed 8 d)) s = true ∧
     succeeds (reaches 0x2B c (untilMarked c (returnOuter 0x2B c 0x100 2 6 0))) (poke s 0x2002 [0x2B]) = true ∧ arA c.ar = true ∧ s.bus = []) ∧
    (let d : Descriptor := ⟨0x30000067, 0x00008B01⟩
     let s := poke (poke (poke (poke { prot 0 with flags := { real.flags with nt := true } } 0x80045 [0x8B]) 0x12000 [0x40, 0]) 0x1304C [8])
       0x13050 [0x10]
     s.transferProt = true ∧ s.flags.nt = true ∧ selTI 0x40 = false ∧ selNull 0x40 = false ∧ d.isBusyTss = true ∧ arP d.ar = true ∧
     succeeds (do
       let link ← linRead s.tr.base 2 false
       raiseIf (link != 0x40) raiseGP0
       let y ← readDescriptor 0x40
       raiseIf (y != some d) raiseGP0
       taskSwitch 0x40 d .iret s.eipNext s.flags.image) s = true) ∧
    (real.pe = false ∧ ((prot 0).prot = true ∧ (prot 0).cpl = 0) ∧ (v86 3).v86 = true ∧ (v86 3).cpl.toNat ≤ 3 ∧
     ((prot 3).prot = true ∧ (prot 3).flags.iopl.toNat < (prot 3).cpl.toNat ∧ (prot 3).cpl ≠ 0)) := by
  unfold Descriptor.returnable; decide +kernel

/-- Vector FFH with the table's last byte at the limit, and SP = 6. -/
theorem witness_RealModeEntry :
    let s := r32 real .esp 6
    s.pe = false ∧ s.entryProt ⟨0xFF, .software, none⟩ = false ∧ s.pg = false ∧ s.bus = [] ∧
    (0xFF : Byte).toNat * 4 + 3 = s.idtr.limit.toNat ∧ s.ss.hasRoom s.sp 3 2 s.prot = true ∧ s.rightsViolated .ss .write = false := by decide

/-- Vectors 14 and 15 at the limit of the IDT; 5 without a gate, 6 of DPL 0, 4 not present. -/
theorem witness_GateEntry : (prot 3).pe = true ∧ (v86 3).pe = true ∧ (prot 3).queuedMode = none ∧
    (prot 3).entryProt ⟨3, .software, none⟩ = true ∧ (v86 3).entryProt ⟨3, .software, none⟩ = true ∧
    succeeds (gateEntry ⟨3, .software, none⟩ 0x101 ⟨0x00081300, 0x0000EE00⟩) (v86 3) = true ∧
    (prot 3).idtr.limit.toNat < 15 * 8 + 7 ∧ 14 * 8 + 7 ≤ (prot 3).idtr.limit.toNat ∧
    (let gate (n : Nat) := linDescriptor ((prot 3).idtr.base + BitVec.ofNat 32 (n * 8))
     succeeds (do let g ← gate 5; raiseIf g.isIdtGate raiseGP0) (prot 3) = true ∧
     succeeds (do let g ← gate 6; raiseIf (!g.isIdtGate || !decide ((arDpl g.ar).toNat < 3)) raiseGP0) (prot 3) = true ∧
     succeeds (do let g ← gate 4; raiseIf (!g.isIdtGate || arP g.ar) raiseGP0) (prot 3) = true ∧
     succeeds (do let g ← gate 3; raiseIf (!g.isIdtGate || !decide (3 ≤ (arDpl g.ar).toNat) || !arP g.ar) raiseGP0) (prot 3) = true) ∧
    (let g : Descriptor := ⟨0x00400000, 0x00008500⟩
     let d : Descriptor := ⟨0x30000067, 0x00008901⟩
     let entered : M Unit := do
       let x ← readDescriptor 0x40
       raiseIf (x != some d) raiseGP0
       taskSwitch 0x40 d .int 0x100 tasked.flags.image
     g.gateSel = 0x40 ∧ selTI 0x40 = false ∧ selNull 0x40 = false ∧ d.isFreeTss = true ∧ arP d.ar = true ∧ d.isTss386 = true ∧
     succeeds entered tasked = true ∧
     succeeds (do entered; let u ← get; raiseIf (!u.ss.hasRoom u.sp 1 4 u.prot) raiseSS0; push 0 4) tasked = true) ∧
    (let c : Descriptor := ⟨0x0000FFFF, 0x00009B0F⟩
     let found : M Unit := do let x ← readDescriptor 8; raiseIf (x != some c) raiseGP0
     let stack (n : Nat) (flags : Flags) : M Word := do
       let x ← innerStack 0
       raiseIf (!(x.2.1.toSegReg x.1).hasRoom (if arD x.2.1.ar then x.2.2 else low16 x.2.2) n 4 true) raiseGP0
       modify fun a => { a with flags := flags, cpl := if a.v86 then 0 else a.cpl }
       loadStack x.1 x.2.1
       pure x.2.2
     let frame (s : State) : List Word := [{ s.flags with rf := true }.image, s.cs.sel.setWidth 32, 0x100, 0]
     let outer (s : State) : List Word := [s.ss.sel.setWidth 32, s.regs.esp] ++ frame s
     let done (items : List Word) : M Unit := do pushAll 4 items; markAccessed 8 c
     selNull 8 = false ∧ c.isCode = true ∧ arP c.ar = true ∧ arA c.ar = true ∧ arC c.ar = false ∧ arDpl c.ar = (prot 0).cpl ∧
     (arDpl c.ar).toNat < (prot 3).cpl.toNat ∧ (0x1D00 : Word).toNat ≤ c.limit.toNat ∧ (prot 0).ss.hasRoom (prot 0).sp 4 4 true = true ∧
     succeeds (do found; done (frame (prot 0))) (prot 0) = true ∧
     succeeds (do
       found
       let e ← stack 6 (prot 3).flags
       modify fun b => { b.setReg .b32 .esp e with cpl := 0 }
       done (outer (prot 3))) (prot 3) = true ∧
     succeeds (do
       found
       let e ← stack 10 ((v86 3).flags.entered true)
       modify fun b => b.setReg .b32 .esp e
       pushAll 4 [0x2000, 0x2000, 0x2000, 0x2000]
       modify fun x => { x with gs := x.gs.nulled, fs := x.fs.nulled, ds := x.ds.nulled, es := x.es.nulled }
       done (outer (v86 3))) (v86 3) = true) := by decide +kernel

theorem witness_DoubleFaults :
    raises (entry doubleFault 0) { real with idtr := ⟨0, 0x22⟩ } 8 = true ∧ doubleFault.isDoubleFault = true ∧ (⟨9, .abort, none⟩ : Event).isDoubleFault = false ∧
    raises (entry ⟨13, .fault, some 0⟩ 0) walked 14 = true ∧ raises (entry ⟨0, .fault, none⟩ 0) walked 14 = true ∧
    raises (entry ⟨14, .fault, some 0⟩ 0) { prot 0 with idtr := ⟨0x90000, 0x76⟩ } 13 = true ∧
    raises (entry ⟨13, .fault, some 0⟩ 0) { real with idtr := ⟨0, 0x36⟩ } 8 = true ∧
    raises (entry ⟨5, .software, none⟩ 0) (prot 0) 13 = true ∧ raises (entry ⟨6, .fault, none⟩ 0) { prot 0 with idtr := ⟨0x90000, 0x36⟩ } 13 = true := by
  decide +kernel

theorem witness_BoundaryOrder : real.pfx.count = 0 ∧ real.stimuli = [] ∧ real.run ≠ .shutdown ∧ real.run ≠ .stalled ∧ real.escDue = none ∧ { real with escDue := some ⟨9, none⟩ }.escDue = some ⟨9, none⟩ ∧ real.escCommand = none ∧
    succeeds acknowledge { real with bus := [⟨[(0, 1)], none⟩, ⟨[], none⟩] } = true ∧
    ({ real with pend := { Pend.none with bs := true } }.trapPending && !real.inhibit) = true ∧ (real.trapPending && !real.inhibit) = false ∧
    { real with nmiPending := true }.nmiReady = true ∧ real.nmiReady = false ∧
    { real with pins := { real.pins with intr := true }, flags := { real.flags with ifl := true } }.intrReady = true ∧ real.intrReady = false ∧
    { real with run := .halted }.run = .halted ∧ { real with inhibit := true }.inhibit = true ∧
    (let s : State := { real with dr0 := 0x10100, dr7 := 1 }
     s.run = .running ∧ s.flags.rf = false ∧ s.dr7.getLsbD 0 = true ∧ (s.dr7 >>> 16).toNat % 4 = 0 ∧ s.dr0 = s.cs.base + s.eip ∧
     s.bus = [] ∧ { s.flags with rf := true }.rf = true) ∧
    (let s : State := { real with dr0 := 0x20002, dr7 := 0x000F0001 }
     s.dr7.getLsbD 0 = true ∧ (s.dr7 >>> 16).toNat % 4 = 3 ∧ (s.dr7 >>> 18).toNat % 4 = 3 ∧
     (∀ i, i < 4 → (s.dr7 >>> (16 + 4 * i)).toNat % 4 ≠ 2 ∧ (s.dr7 >>> (18 + 4 * i)).toNat % 4 ≠ 2) ∧
     (s.noteData 0x1FFFC 4 false).pend.fire = false ∧ (s.noteData 0x1FFFD 4 false).pend.fire = true ∧
     (s.noteData 0x20003 1 true).pend.fire = true ∧ (s.noteData 0x20004 1 true).pend.fire = false) := by decide +kernel

theorem witness_UndefinedEncodings : succeeds (entry ⟨6, .fault, none⟩ real.eip) real = true ∧ real.pfx.lock = false ∧
    succeeds (entry ⟨6, .fault, none⟩ 0x100) (prot 3) = true ∧
    (let rejects (s : State) (code : List Byte) (r : Reject) : Bool :=
       match fetch (poke s ((s.cs.base + s.eip).setWidth 24).toNat code).fetchState with
       | .ok (.reject x) t => x == r && t.pfx.lock == s.pfx.lock && t.cpl == s.cpl && t.v86 == s.v86
       | _ => false
     let lock : State := { real with pfx := { Pfx.none with lock := true, count := 1 } }
     rejects real [0x0F, 0xFF] .undefinedOpcode = true ∧ rejects real [0x0F, 0x94, 0xC8] .setccField = true ∧
     rejects real [0x0F, 0x20, 0xE0] .specialCode = true ∧ rejects real [0x0F, 0x20, 0x00] .specialMod = true ∧
     rejects real [0x0F, 0x20, 0xC8] .cr1 = true ∧ rejects real [0x0F, 0x21, 0xE0] .dr45 = true ∧
     rejects (prot 3) [0x0F, 0x20, 0xC8] .cr1 = true ∧ rejects lock [0xF0, 0x0F, 0x94, 0xC8] .setccField = true ∧
     real.run ≠ .stalled ∧ real.pfx.count = 0 ∧ real.stimuli = [] ∧ real.pe = false ∧ (prot 3).prot = true ∧ (prot 3).cpl = 3) := by
  decide +kernel

theorem witness_LockOnlyBeforeListedForms :
    let s := { real with pfx := { Pfx.none with lock := true } }
    s.pfx.lock = true ∧ (LockForm (.movRmReg true disp .eax) = false ∧ IsPrefix (.movRmReg true disp .eax) = false) ∧
    LockForm (.addRmReg true true disp .eax) = false ∧ LockForm (.addRmReg false true (.reg .eax) .ebx) = false ∧ LockForm .undD6 = false ∧
    succeeds (memKeys (s.ea dispRef).1 (s.ea dispRef).2 (s.width true).bytes true) s = true ∧
    succeeds (memKeys (s.ea dispRef).1 (s.ea dispRef).2 (s.width false).bytes true) s = true ∧
    succeeds (memKeys (s.bitAddress s.osz dispRef (s.reg s.osz .ecx)).1 (s.bitAddress s.osz dispRef (s.reg s.osz .ecx)).2 s.osz.bytes true) s =
      true := by decide

/-- CPL one above what is allowed. -/
theorem witness_PrivilegedInstructionsTrap : { prot 0 with cpl := 1 }.unprivileged ∧ (v86 3).unprivileged ∧ (prot 3).pfx.lock = false ∧
    { prot 0 with cpl := 1 }.decodedProt = true ∧ { prot 0 with cpl := 1 }.cpl ≠ 0 ∧ Instr.lgdt (.reg .eax) ∈ [Instr.lgdt (.reg .eax), .lidt (.reg .eax)] ∧
    (let s := { prot 3 with flags := { real.flags with iopl := 2 } }; s.pe = true ∧ s.flags.iopl.toNat < s.cpl.toNat) ∧
    (v86 2).v86 = true ∧ (v86 2).flags.iopl ≠ 3 := by
  unfold State.unprivileged; decide +kernel

theorem witness_InvalidFormsTrap : real.pfx.lock = false ∧ { prot 0 with queuedMode := some false }.queuedMode = some false ∧ real.queuedMode = none ∧ real.decodedProt = false ∧ (v86 3).decodedProt = false ∧
    (v86 3).pfx.lock = false ∧ real.pe = false ∧ (prot 0).prot = true ∧ (prot 0).cpl = 0 := by decide +kernel

theorem witness_WaitAndEscape : real.pfx.lock = false ∧ real.pe = false ∧ real.ts = false ∧ real.pins.busy = false ∧ real.pins.error = false ∧
    { real with pins := { real.pins with busy := true } }.pins.busy = true ∧ { real with pins := { real.pins with error := true } }.pins.error = true ∧
    ({ real with cr0 := 0x1A }.ts = true ∧ { real with cr0 := 0x1A }.mp = true) ∧ { real with cr0 := 0x14 }.em = true ∧
    (let s := { real with platform := { real.platform with has387 := true } }
     s.em = false ∧ s.ts = false ∧ s.platform.has387 = true ∧ succeeds (escOperand 0 0 disp) s = true ∧ escNoWait 7 4 (.reg .eax) = true) ∧
    (let c (off : Word) : EscCommand := ⟨1, 7, real.ds, false, off, false, true, false, real.cs, 0x100⟩
     real.bus = [] ∧ real.escDue = none ∧ { real with escDue := some ⟨9, none⟩ }.escDue ≠ none ∧ { c 0 with started := true }.started = true ∧
     escStoresAx 7 4 (.reg .eax) = true ∧
     (let s := { real with bus := [⟨[(0, 1)], none⟩, ⟨[(0, 2)], none⟩] }; succeeds (do busTurn; cycleTurn) s = true) ∧
     { real with escCommand := some (c 0) }.escCommand = some (c 0) ∧ real.escCommand = none ∧
     succeeds (regKeys real.ds false real.user 0xFFFC 4 true) real = true ∧ raises (regKeys real.ds false real.user 0xFFFD 4 true) real 13 = true) := by
  decide

theorem witness_SpecialRegisterMoves : (prot 0).pfx.lock = false ∧ (prot 0).prot = true ∧ (prot 0).cpl = 0 ∧ real.pe = false ∧
    ¬ ((r32 (prot 0) .eax 0x80000001).regs.eax.getLsbD 31 = true ∧ (r32 (prot 0) .eax 0x80000001).regs.eax.getLsbD 0 = false) ∧
    (r32 real .eax 0x80000010).regs.eax.getLsbD 31 = true ∧ (r32 real .eax 0x80000010).regs.eax.getLsbD 0 = false ∧ real.gd = false ∧
    (leaving.pe = true ∧ leaving.regs.eax.getLsbD 0 = false ∧ leaving.realReady = true) ∧
    ((prot 0).pe = true ∧ (prot 0).regs.eax.getLsbD 0 = false ∧ (prot 0).regs.eax.getLsbD 31 = false ∧ (prot 0).realReady = false) ∧
    { real with dr7 := 0x2000 }.gd = true ∧ (prot 0).pg = false ∧
    (let s : State := { real with dr7 := 0xD2000, dr0 := 0x10100, dr1 := 0x10100 }
     s.gd = true ∧ s.dr0 = s.cs.base + s.eip ∧ (s.dr7 >>> 16).toNat % 4 ≠ 0 ∧ s.dr1 = s.cs.base + s.eip ∧ (s.dr7 >>> 20).toNat % 4 = 0) ∧
    (let s := { pagedCode with cpl := 0 }
     s.pfx.lock = false ∧ s.prot = true ∧ s.pg = true ∧
     (s.tlb.all fun e => permits e.us e.rw false s.user && s.queueWindow.any fun a => pageOf a == e.vpn) = true) := by decide +kernel

theorem witness_SelectorTests : (prot 0).pfx.lock = false ∧ (prot 0).decodedProt = true ∧
    succeeds (probeKeys ((prot 0).ea dispRef).1 ((prot 0).ea dispRef).2 2) (prot 0) = true ∧ succeeds (readRM .b16 disp) (prot 0) = true ∧
    (∃ t, testDescriptor 0 (prot 0) = .ok none t) ∧ (∃ t, testDescriptor 0x60 (prot 0) = .ok none t) ∧
    (∃ t, testDescriptor 0x0C (prot 0) = .ok none t) ∧ (∃ d t, testDescriptor 0x58 (prot 0) = .ok (some d) t) ∧
    (selNull 3 = true ∧ selNull 4 = false ∧ (prot 0).gdtr.limit.toNat = 0x5F ∧ (prot 0).ldtr.valid = false) :=
  ⟨by decide +kernel, by decide +kernel, by decide +kernel, by decide +kernel, ⟨_, rfl⟩, ⟨_, rfl⟩, ⟨_, rfl⟩, ⟨_, _, rfl⟩, by decide +kernel⟩

theorem witness_SystemTableLoads : real.pfx.lock = false ∧ real.pe = false ∧ (prot 0).pfx.lock = false ∧ (prot 0).prot = true ∧ (prot 0).cpl = 0 ∧
    (prot 0).decodedProt = true ∧ ¬ (prot 0).unprivileged ∧
    (let g := (real.ea dispRef).1
     let a := (real.ea dispRef).2
     succeeds (do let _ ← memRead g a 2; memRead g (real.offsetAdd a 2) 4) real = true ∧
     succeeds (do let _ ← memKeys g a 2 true; memKeys g (real.offsetAdd a 2) 4 true) real = true) ∧
    succeeds (readRM .b16 (.reg .eax)) (prot 0) = true ∧ selNull 3 = true ∧ selNull 0x50 = false ∧ selTI 0x50 = false ∧
    succeeds (do let d ← needDescriptor 0x50 raiseGP0; raiseIf (!arP d.ar || d.system != some 2) raiseGP0) (prot 0) = true ∧
    succeeds (do let d ← needDescriptor 0x40 raiseGP0; raiseIf (!arP d.ar || d.system != some 9) raiseGP0; writeAccessByte 0x40 2 0) (prot 0) = true := by
  unfold State.unprivileged; decide +kernel

end Sys2Proof.Tests
end

section
/-!
What the ordinary work of an instruction leaves alone. A computation is `Ordinary` if, however it ends, it keeps the control registers, the
privilege level, VM and the other parts of the state that only a few named instructions and the deliveries change.
-/
namespace Sys2Proof.Machine

open Sys2Proof

/-! The relation. -/

/-- What only the deliveries, the far transfers and IRET, HLT, the prefixes, and the instructions that load CR0, CR3, GDTR, IDTR, a
breakpoint register or a test register change. -/
structure State.SystemKept (s t : State) : Prop where
  cr0 : t.cr0 = s.cr0
  cr3 : t.cr3 = s.cr3
  cpl : t.cpl = s.cpl
  vm : t.flags.vm = s.flags.vm
  gdtr : t.gdtr = s.gdtr
  idtr : t.idtr = s.idtr
  dr0 : t.dr0 = s.dr0
  dr1 : t.dr1 = s.dr1
  dr2 : t.dr2 = s.dr2
  dr3 : t.dr3 = s.dr3
  tr6 : t.tr6 = s.tr6
  tr7 : t.tr7 = s.tr7
  nmiInService : t.nmiInService = s.nmiInService
  run : t.run = s.run
  pfx : t.pfx = s.pfx

protected theorem State.SystemKept.refl (s : State) : s.SystemKept s := by constructor <;> rfl

protected theorem State.SystemKept.trans {s t u : State} (h : s.SystemKept t) (k : t.SystemKept u) : s.SystemKept u where
  cr0 := k.cr0.trans h.cr0
  cr3 := k.cr3.trans h.cr3
  cpl := k.cpl.trans h.cpl
  vm := k.vm.trans h.vm
  gdtr := k.gdtr.trans h.gdtr
  idtr := k.idtr.trans h.idtr
  dr0 := k.dr0.trans h.dr0
  dr1 := k.dr1.trans h.dr1
  dr2 := k.dr2.trans h.dr2
  dr3 := k.dr3.trans h.dr3
  tr6 := k.tr6.trans h.tr6
  tr7 := k.tr7.trans h.tr7
  nmiInService := k.nmiInService.trans h.nmiInService
  run := k.run.trans h.run
  pfx := k.pfx.trans h.pfx

theorem State.SystemKept.withBus (s : State) (b : List BusTurn) : s.SystemKept (s.withBus b) := by constructor <;> rfl

theorem State.SystemKept.of_withBus {s t : State} {b : List BusTurn} (h : (s.withBus b).SystemKept t) : s.SystemKept t :=
  (State.SystemKept.withBus s b).trans h

/-! The updates of the state that computations share. -/

section
variable {s : State}

theorem State.SystemKept.setReg {w : Width} {r : Reg} {v : BitVec w.bits} : s.SystemKept (s.setReg w r v) := by constructor <;> rfl

theorem State.SystemKept.setAddrReg {r : Reg} {v : Word} : s.SystemKept (s.setAddrReg r v) := by constructor <;> simp

theorem State.SystemKept.setSp {v : Word} : s.SystemKept (s.setSp v) := by constructor <;> simp

theorem State.SystemKept.dropStack {d : Word} : s.SystemKept (s.dropStack d) := .setSp

theorem State.SystemKept.setSeg {g : Seg} {r : SegReg} : s.SystemKept (s.setSeg g r) := by constructor <;> simp

theorem State.SystemKept.writeKeys {keys : List Nat} {v : Word} : s.SystemKept (s.writeKeys keys v) := by constructor <;> simp

theorem State.SystemKept.ioWrite {port : Half} {n : Nat} {v : Word} : s.SystemKept (s.ioWrite port n v) := by constructor <;> simp

theorem State.SystemKept.cacheEntry {e : TlbEntry} : s.SystemKept (s.cacheEntry e) := by constructor <;> rfl

theorem State.SystemKept.dropEntry {la : Word} : s.SystemKept (s.dropEntry la) := by constructor <;> rfl

theorem State.SystemKept.jump {t : Word} : s.SystemKept (s.jump t) := by constructor <;> rfl

end

/-- What an operand's update keeps, where its flags keep VM. -/
theorem State.SystemKept.updateReg {s : State} {w : Width} {r : Reg} {k : BitVec w.bits → Flags → BitVec w.bits × Flags}
    (hk : ∀ a f, (k a f).2.vm = f.vm) : s.SystemKept (s.updateReg w r k) := by
  constructor <;> simp [State.updateReg, hk]

theorem State.SystemKept.updateKeys {s : State} {w : Width} {keys : List Nat} {k : BitVec w.bits → Flags → BitVec w.bits × Flags}
    (hk : ∀ a f, (k a f).2.vm = f.vm) : s.SystemKept (s.updateKeys w keys k) := by
  constructor <;> simp [State.updateKeys, hk]

theorem State.SystemKept.setFlags {s : State} {f : Flags} (h : f.vm = s.flags.vm) : s.SystemKept { s with flags := f } :=
  ⟨rfl, rfl, rfl, h, rfl, rfl, rfl, rfl, rfl, rfl, rfl, rfl, rfl, rfl, rfl⟩

/-! Computations. -/

variable {α β : Type}

/-- However the computation ends, it has kept the system state. -/
structure Ordinary (x : M α) : Prop where
  keeps : Keeps State.SystemKept x

protected theorem Ordinary.bind {x : M α} {f : α → M β} (hx : Ordinary x) (hf : ∀ a, Ordinary (f a)) : Ordinary (x >>= f) :=
  ⟨Keeps.bind (fun _ _ _ => .trans) hx.keeps fun a => (hf a).keeps⟩

theorem Ordinary.seq {x : M α} {y : M β} (hx : Ordinary x) (hy : Ordinary y) : Ordinary (x >>= fun _ => y) := hx.bind fun _ => hy

theorem Ordinary.seqRight {x : M α} {y : M β} (hx : Ordinary x) (hy : Ordinary y) : Ordinary (x *> y) := hx.seq hy

protected theorem Ordinary.pure (a : α) : Ordinary (pure a : M α) := ⟨Keeps.pure .refl a⟩

/-- The state that is read may be any. -/
theorem Ordinary.get_bind {f : State → M α} (h : ∀ s, Ordinary (f s)) : Ordinary (get >>= f) := ⟨fun s => (h s).keeps s⟩

protected theorem Ordinary.raise (v : Byte) (c : Option Half) : Ordinary (raise v c : M α) := ⟨Keeps.raise .refl v c⟩

protected theorem Ordinary.refuse (r : Refusal) : Ordinary (refuse r : M α) := ⟨Keeps.throw .refl _⟩

protected theorem Ordinary.modify {k : State → State} (h : ∀ s : State, s.SystemKept (k s)) : Ordinary (modify k : M Unit) :=
  ⟨Keeps.modify h⟩

protected theorem Ordinary.ite {c : Prop} [Decidable c] {x y : M α} (hx : Ordinary x) (hy : Ordinary y) :
    Ordinary (if c then x else y) := ⟨Keeps.ite hx.keeps hy.keeps⟩

protected theorem Ordinary.raiseIf {c : Bool} {x : M Unit} (hx : Ordinary x) : Ordinary (raiseIf c x) :=
  ⟨Keeps.raiseIf .refl hx.keeps⟩

/-- A check that raises an exception at once. -/
theorem Ordinary.check {c : Bool} {v : Byte} {e : Option Half} : Ordinary (Machine.raiseIf c (Machine.raise v e)) := .raiseIf (.raise v e)

protected theorem Ordinary.locked {x : M α} (hx : Ordinary x) : Ordinary (locked x) :=
  ⟨Keeps.locked (fun _ _ _ c h => h.of_withBus.trans (.withBus _ c)) hx.keeps⟩

protected theorem Ordinary.lockedIf {c : Bool} {x : M α} (hx : Ordinary x) : Ordinary (lockedIf c x) :=
  ⟨Keeps.lockedIf (fun _ _ _ c h => h.of_withBus.trans (.withBus _ c)) hx.keeps⟩

/-! Memory and ports. -/

protected theorem Ordinary.busTurn : Ordinary busTurn := ⟨by
  intro s
  unfold Machine.busTurn
  cases s.bus with
  | nil => exact .refl s
  | cons x rest =>
    obtain ⟨writes, stop⟩ := x
    cases stop <;> constructor <;> simp⟩

protected theorem Ordinary.cycleTurn : Ordinary cycleTurn := .locked .busTurn

protected theorem Ordinary.pageFault (la : Word) (p w u : Bool) : Ordinary (pageFault la p w u : M α) :=
  .seq (.modify fun _ => by constructor <;> rfl) <| .get_bind fun _ => .raise ..

theorem State.SystemKept.markEntry (s : State) (pa bits : Word) : s.SystemKept (s.markEntry pa bits) := by
  unfold State.markEntry
  dsimp only
  split
  · exact .refl s
  · constructor <;> simp

protected theorem Ordinary.updateEntry (due : Bool) (pa bits : Word) : Ordinary (updateEntry due pa bits) :=
  .ite (.seq .busTurn (.modify fun s => .markEntry s pa bits)) (.pure _)

protected theorem Ordinary.walk (la : Word) (w u : Bool) : Ordinary (walk la w u) :=
  .seq .busTurn <| .get_bind fun _ => .seq (.raiseIf (.pageFault ..)) <| .seq .busTurn <| .get_bind fun _ =>
    .ite (.seq (.updateEntry ..) (.pageFault ..)) <|
      .seq (.raiseIf (.pageFault ..)) <| .seq (.updateEntry ..) <| .seq (.updateEntry ..) <| .seq (.modify fun _ => .cacheEntry) (.pure _)

protected theorem Ordinary.translate (la : Word) (w u : Bool) : Ordinary (translate la w u) :=
  .seq (.modify fun _ => by constructor <;> rfl) <| .get_bind fun s => by
    cases s.tlbHit la with
    | some e => exact .seq (.raiseIf (.pageFault ..)) (.ite (.seq (.modify fun _ => .dropEntry) (.walk ..)) (.pure _))
    | none => exact .walk ..

protected theorem Ordinary.linPages (la : Word) (nb : Nat) (w u : Bool) : Ordinary (linPages la nb w u) :=
  .get_bind fun _ => .ite (.pure _) <| .bind (.translate ..) fun _ =>
    .ite (.get_bind fun _ => .pure _) (.bind (.translate ..) fun _ => .get_bind fun _ => .pure _)

protected theorem Ordinary.linKeys (la : Word) (nb : Nat) (w u : Bool) : Ordinary (linKeys la nb w u) :=
  .bind (.linPages ..) fun _ => .seq .busTurn (.pure _)

protected theorem Ordinary.linRead (la : Word) (nb : Nat) (u : Bool) : Ordinary (linRead la nb u) :=
  .bind (.linKeys ..) fun _ => .get_bind fun _ => .pure _

protected theorem Ordinary.linWrite (la : Word) (nb : Nat) (v : Word) (u : Bool) : Ordinary (linWrite la nb v u) :=
  .bind (.linKeys ..) fun _ => .modify fun _ => .writeKeys

protected theorem Ordinary.checkReg (r : SegReg) (stack : Bool) (off : Word) (nb : Nat) (a : Access) :
    Ordinary (checkReg r stack off nb a) :=
  .get_bind fun _ => .seq .check (.raiseIf (.ite (.raise ..) (.raise ..)))

protected theorem Ordinary.checkSeg (g : Seg) (off : Word) (nb : Nat) (a : Access) : Ordinary (checkSeg g off nb a) :=
  .get_bind fun _ => .checkReg ..

protected theorem Ordinary.regKeys (r : SegReg) (stack u : Bool) (off : Word) (nb : Nat) (w : Bool) :
    Ordinary (regKeys r stack u off nb w) :=
  .seq (.checkReg ..) <| .bind (.linKeys ..) fun _ => .seq (.modify fun _ => by constructor <;> rfl) (.pure _)

protected theorem Ordinary.memKeys (g : Seg) (off : Word) (nb : Nat) (w : Bool) : Ordinary (memKeys g off nb w) :=
  .get_bind fun _ => .regKeys ..

protected theorem Ordinary.probeKeys (g : Seg) (off : Word) (nb : Nat) : Ordinary (probeKeys g off nb) :=
  .seq (.checkSeg ..) <| .get_bind fun _ => .bind (.linKeys ..) fun _ => .seq (.modify fun _ => by constructor <;> rfl) (.pure _)

protected theorem Ordinary.memRead (g : Seg) (off : Word) (nb : Nat) : Ordinary (memRead g off nb) :=
  .bind (.memKeys ..) fun _ => .get_bind fun _ => .pure _

protected theorem Ordinary.memWrite (g : Seg) (off : Word) (nb : Nat) (v : Word) : Ordinary (memWrite g off nb v) :=
  .bind (.memKeys ..) fun _ => .modify fun _ => .writeKeys

protected theorem Ordinary.fetchByte (off : Word) : Ordinary (fetchByte off) :=
  .seq (.checkSeg ..) <| .get_bind fun s => by
    cases s.queuedByte (s.linear .cs off) with
    | some b => exact .pure b
    | none => exact .bind (.linKeys ..) fun _ => .get_bind fun _ => .pure _

protected theorem Ordinary.portCycles (ns : List Nat) (port : Half) (v : Word) : Ordinary (portCycles ns port v) := by
  induction ns generalizing port v with
  | nil => exact .pure _
  | cons n rest ih =>
    cases rest with
    | nil => exact .modify fun _ => .ioWrite
    | cons m rest => exact .seq (.modify fun _ => .ioWrite) (.seq .cycleTurn (ih ..))

protected theorem Ordinary.portWrite (port : Half) (nb : Nat) (v : Word) : Ordinary (portWrite port nb v) := .seq .busTurn (.portCycles ..)

protected theorem Ordinary.portRead (port : Half) (nb : Nat) : Ordinary (portRead port nb) := .seq .busTurn (.get_bind fun _ => .pure _)

/-! Operands, the stack, and the end of an instruction. -/

protected theorem Ordinary.readRM (w : Width) (m : RM) : Ordinary (readRM w m) := by
  cases m with
  | reg r => exact .get_bind fun _ => .pure _
  | mem x => exact .get_bind fun _ => .bind (.memRead ..) fun _ => .pure _

protected theorem Ordinary.writeRM (w : Width) (m : RM) (v : BitVec w.bits) : Ordinary (writeRM w m v) := by
  cases m with
  | reg r => exact .modify fun _ => .setReg
  | mem x => exact .get_bind fun _ => .memWrite ..

protected theorem Ordinary.updateRM {w : Width} {m : RM} {k : BitVec w.bits → Flags → BitVec w.bits × Flags}
    (hk : ∀ a f, (k a f).2.vm = f.vm) : Ordinary (updateRM w m k) := by
  cases m with
  | reg r => exact .modify fun _ => .updateReg hk
  | mem x => exact .get_bind fun _ => .bind (.memKeys ..) fun _ => .modify fun _ => .updateKeys hk

protected theorem Ordinary.memOperand (m : RM) : Ordinary (memOperand m) := by
  cases m with
  | reg r => exact .raise ..
  | mem x => exact .pure x

protected theorem Ordinary.push (v : Word) (nb : Nat) : Ordinary (push v nb) :=
  .get_bind fun _ => .seq (.memWrite ..) (.modify fun _ => .setSp)

protected theorem Ordinary.stackRead (d nb : Nat) : Ordinary (stackRead d nb) := .get_bind fun _ => .memRead ..

protected theorem Ordinary.checkRoom (n w : Nat) : Ordinary (checkRoom n w) := .get_bind fun _ => .check

protected theorem Ordinary.checkStackTop (n : Nat) : Ordinary (checkStackTop n) := .get_bind fun _ => .check

protected theorem Ordinary.advance : Ordinary advance := .modify fun _ => by constructor <;> rfl

protected theorem Ordinary.checkTarget (t : Word) : Ordinary (checkTarget t) := .get_bind fun _ => .check

protected theorem Ordinary.nearJump (t : Word) : Ordinary (nearJump t) := .seq (.checkTarget t) (.modify fun _ => .jump)

protected theorem Ordinary.requireCpl0 : Ordinary requireCpl0 := .get_bind fun _ => .check

protected theorem Ordinary.requireProt : Ordinary requireProt := .get_bind fun _ => .check

protected theorem Ordinary.requireIopl : Ordinary requireIopl := .get_bind fun _ => .check

protected theorem Ordinary.requireV86Iopl : Ordinary requireV86Iopl := .get_bind fun _ => .check

protected theorem Ordinary.ioMapCheck (port : Half) (nb : Nat) : Ordinary (ioMapCheck port nb) :=
  .get_bind fun _ => .seq .check <| .seq .check <| .bind (.linRead ..) fun _ => .seq .check <| .bind (.linRead ..) fun _ => .check

protected theorem Ordinary.ioPermitted (port : Half) (nb : Nat) : Ordinary (ioPermitted port nb) :=
  .get_bind fun _ => .ite (.ioMapCheck ..) (.pure _)

/-! Descriptors and the loads of segment registers other than CS. -/

protected theorem Ordinary.linDescriptor (la : Word) : Ordinary (linDescriptor la) :=
  .bind (.linKeys ..) fun _ => .get_bind fun _ => .pure _

protected theorem Ordinary.readDescriptor (sel : Half) : Ordinary (readDescriptor sel) :=
  .get_bind fun s => by
    cases s.descriptorAt sel with
    | none => exact .pure _
    | some la => exact .bind (.linDescriptor la) fun _ => .pure _

protected theorem Ordinary.needDescriptor {sel : Half} {fail : M Unit} (hf : Ordinary fail) : Ordinary (needDescriptor sel fail) :=
  .bind (.readDescriptor sel) fun d => by
    cases d with
    | some d => exact .pure d
    | none => exact hf.seq (.pure _)

protected theorem Ordinary.writeAccessByte (sel : Half) (set clear : Word) : Ordinary (writeAccessByte sel set clear) :=
  .get_bind fun s => by
    cases s.descriptorAt sel with
    | none => exact .pure _
    | some la => exact .locked (.bind (.linKeys ..) fun _ => (.modify fun _ => .writeKeys))

protected theorem Ordinary.markAccessed (sel : Half) (d : Descriptor) : Ordinary (markAccessed sel d) :=
  .ite (.pure _) (.writeAccessByte ..)

protected theorem Ordinary.loadDataSeg {g : Seg} {sel : Half} {fail : Half → M Unit} (hf : ∀ x, Ordinary (fail x)) :
    Ordinary (loadDataSeg g sel fail) :=
  .ite (.modify fun _ => .setSeg) <| .bind (.needDescriptor (hf _)) fun _ => .get_bind fun _ => .seq (.raiseIf (hf _)) <|
    .seq (.raiseIf (hf _)) <|
    .seq (.raiseIf (hf _)) <| .seq .check <| .seq (.markAccessed ..) (.modify fun _ => .setSeg)

protected theorem Ordinary.stackDescriptor {sel : Half} {n : BitVec 2} {nullFail : M Unit} {fail : Half → M Unit} (hn : Ordinary nullFail)
    (hf : ∀ x, Ordinary (fail x)) : Ordinary (stackDescriptor sel n nullFail fail) :=
  .seq (.raiseIf hn) <| .bind (.needDescriptor (hf _)) fun _ => .seq (.raiseIf (hf _)) <| .seq (.raiseIf (hf _)) <|
    .seq (.raiseIf (hf _)) <| .seq .check (.pure _)

protected theorem Ordinary.loadStack (sel : Half) (d : Descriptor) : Ordinary (loadStack sel d) :=
  .seq (.markAccessed ..) (.modify fun _ => .setSeg)

protected theorem Ordinary.loadSS (sel : Half) : Ordinary (loadSS sel) :=
  .get_bind fun _ => .bind (.stackDescriptor (.raise ..) fun _ => .raise ..) fun d => .loadStack sel d

protected theorem Ordinary.loadSeg (g : Seg) (sel : Half) : Ordinary (loadSeg g sel) :=
  .get_bind fun _ => .ite (.modify fun _ => .setSeg) (.ite (.loadSS sel) (.loadDataSeg fun _ => .raise ..))

protected theorem Ordinary.checkOffset (d : Descriptor) (off : Word) : Ordinary (checkOffset d off) := .check

protected theorem Ordinary.pushReturn (csImage : Word) (w : Nat) : Ordinary (pushReturn csImage w) :=
  .get_bind fun _ => .seq (.push ..) (.push ..)

protected theorem Ordinary.innerStack (n : BitVec 2) : Ordinary (innerStack n) :=
  .get_bind fun _ => .seq .check <| .seq .check <| .bind (.linRead ..) fun _ => .bind (.linRead ..) fun _ =>
    .bind (.stackDescriptor (.raise ..) fun _ => .raise ..) fun _ => .pure _

protected theorem Ordinary.pushAll (w : Nat) (items : List Word) : Ordinary (pushAll w items) := by
  induction items with
  | nil => exact .pure _
  | cons v rest ih => exact .seq (.push ..) ih

protected theorem Ordinary.copyParams (r : SegReg) (u : Bool) (sp : Word) (w k : Nat) : Ordinary (copyParams r u sp w k) := by
  induction k with
  | zero => exact .pure _
  | succ k ih => exact .bind (.regKeys ..) fun _ => .get_bind fun _ => .seq (.push ..) ih

protected theorem Ordinary.returnDescriptor (sel : Half) : Ordinary (returnDescriptor sel) :=
  .get_bind fun _ => .seq .check <| .seq .check <| .bind (.needDescriptor (.raise ..)) fun _ => .seq .check <| .seq .check <|
    .seq .check <| .seq .check (.pure _)

/-! Arithmetic, logic, shifts and bits: no result's flags touch VM. -/

theorem alu_vm {n : Nat} (op : AluOp) (f : Flags) (idx : Nat) (a b : BitVec n) : (alu op f idx a b).2.vm = f.vm := by
  cases op <;> rfl

theorem cmpFlags_vm {n : Nat} (f : Flags) (a b : BitVec n) : (cmpFlags f a b).vm = f.vm := alu_vm .cmp f 0 a b

theorem shift_vm {n : Nat} (op : ShiftOp) (f : Flags) (idx : Nat) (a : BitVec n) (c : Nat) : (shift op f idx a c).2.vm = f.vm := by
  cases op <;> rfl

theorem doubleShift_vm {n : Nat} (right : Bool) (f : Flags) (idx : Nat) (a b : BitVec n) (c : Nat) :
    (doubleShift right f idx a b c).2.vm = f.vm := by
  unfold doubleShift
  split
  · rfl
  · split <;> rfl

protected theorem Ordinary.readOnly {w : Width} {m : RM} {k : BitVec w.bits → Flags → Flags} (hk : ∀ a f, (k a f).vm = f.vm) :
    Ordinary (readOnly w m k) :=
  .bind (.readRM w m) fun _ => .seq (.modify fun _ => .setFlags (hk ..)) .advance

protected theorem Ordinary.readWrite {w : Width} {m : RM} {k : BitVec w.bits → Flags → BitVec w.bits × Flags}
    (hk : ∀ a f, (k a f).2.vm = f.vm) : Ordinary (readWrite w m k) := .seq (.updateRM hk) .advance

protected theorem Ordinary.aluTo (op : AluOp) (w : Width) (m : RM) (b : BitVec w.bits) : Ordinary (aluTo op w m b) :=
  .get_bind fun _ => .readWrite fun _ _ => alu_vm ..

protected theorem Ordinary.aluFrom (op : AluOp) (w : Width) (m : RM) (r : Reg) : Ordinary (aluFrom op w m r) :=
  .get_bind fun _ => .bind (.readRM w m) fun _ => .seq (.modify fun _ => .updateReg fun _ _ => alu_vm ..) .advance

protected theorem Ordinary.testBody (w : Width) (m : RM) (b : BitVec w.bits) : Ordinary (testBody w m b) :=
  .get_bind fun _ => .readOnly fun _ _ => rfl

protected theorem Ordinary.probeRM (w : Width) (m : RM) : Ordinary (probeRM w m) := by
  cases m with
  | reg r => exact .pure _
  | mem x => exact .get_bind fun _ => .bind (.probeKeys ..) fun _ => .pure _

protected theorem Ordinary.shiftBody {w : Width} {m : RM} {c : Nat} {k : BitVec w.bits → Flags → BitVec w.bits × Flags}
    (hk : ∀ a f, (k a f).2.vm = f.vm) : Ordinary (shiftBody w m c k) :=
  .ite (.seq (.probeRM w m) .advance) (.seq (.updateRM hk) .advance)

protected theorem Ordinary.asciiAdjust (k : Half → Bool → Half) : Ordinary (asciiAdjust k) :=
  .seq (.modify fun _ => by constructor <;> rfl) .advance

protected theorem Ordinary.decimalAdjust (k : Byte → Flags → Byte × Bool) : Ordinary (decimalAdjust k) :=
  .seq (.modify fun _ => by constructor <;> rfl) .advance

protected theorem Ordinary.multiplyAcc (w : Width) (m : RM) (lo hi : BitVec w.bits → BitVec w.bits → BitVec w.bits)
    (significant : BitVec w.bits → BitVec w.bits → Bool) : Ordinary (multiplyAcc w m lo hi significant) :=
  .bind (.readRM w m) fun _ => .seq (.modify fun _ => by constructor <;> rfl) .advance

protected theorem Ordinary.imulTo (w : Width) (m : RM) (r : Reg) (other : State → BitVec w.bits) : Ordinary (imulTo w m r other) :=
  .bind (.readRM w m) fun _ => .seq (.modify fun _ => by constructor <;> rfl) .advance

protected theorem Ordinary.divideAcc (w : Width) (m : RM) (k : State → BitVec w.bits → Option (BitVec w.bits × BitVec w.bits)) :
    Ordinary (divideAcc w m k) :=
  .bind (.readRM w m) fun d => .get_bind fun s => by
    cases k s d with
    | none => exact .raise ..
    | some x => exact .seq (.modify fun _ => by constructor <;> rfl) .advance

protected theorem Ordinary.aadBody (base : Byte) : Ordinary (aadBody base) := .seq (.modify fun _ => by constructor <;> rfl) .advance

protected theorem Ordinary.aamBody (base : Byte) : Ordinary (aamBody base) :=
  .seq .check <| .seq (.modify fun _ => by constructor <;> rfl) .advance

protected theorem Ordinary.change {k : State → State} (hk : ∀ s : State, s.SystemKept (k s)) : Ordinary (change k) :=
  .seq (.modify hk) .advance

theorem State.SystemKept.convertLow (s : State) : s.SystemKept s.convertLow := by
  unfold State.convertLow
  split <;> constructor <;> rfl

protected theorem Ordinary.scanBits (w : Width) (m : RM) (r : Reg) (find : BitVec w.bits → Option Nat) : Ordinary (scanBits w m r find) :=
  .bind (.readRM w m) fun _ => .seq (.modify fun _ => by constructor <;> rfl) .advance

protected theorem Ordinary.bitAt (op : BitOp) (w : Width) (g : Seg) (off : Word) (i : Nat) : Ordinary (bitAt op w g off i) :=
  .bind (.memKeys ..) fun _ => .modify fun s => by
    dsimp only
    split
    · exact .setFlags rfl
    · constructor <;> simp [bitFlags, Flags.undefOSAP]

protected theorem Ordinary.bitImm (op : BitOp) (w : Width) (m : RM) (imm : Byte) : Ordinary (bitImm op w m imm) :=
  .get_bind fun _ => by
    cases m with
    | reg q => exact .seq (.modify fun _ => by constructor <;> rfl) .advance
    | mem x => exact .seq (.bitAt ..) .advance

protected theorem Ordinary.bitReg (op : BitOp) (w : Width) (m : RM) (r : Reg) : Ordinary (bitReg op w m r) :=
  .get_bind fun _ => by
    cases m with
    | reg q => exact .seq (.modify fun _ => by constructor <;> rfl) .advance
    | mem x => exact .seq (.bitAt ..) .advance

/-! Data transfer. -/

protected theorem Ordinary.storeReg (w : Bool) (m : RM) (r : Reg) : Ordinary (storeReg w m r) :=
  .get_bind fun _ => .seq (.writeRM ..) .advance

protected theorem Ordinary.loadReg (w : Bool) (m : RM) (r : Reg) : Ordinary (loadReg w m r) :=
  .get_bind fun _ => .bind (.readRM ..) fun _ => .seq (.modify fun _ => .setReg) .advance

protected theorem Ordinary.storeImm (w : Bool) (m : RM) (imm : Word) : Ordinary (storeImm w m imm) :=
  .get_bind fun _ => .seq (.writeRM ..) .advance

protected theorem Ordinary.loadAcc (w : Bool) (off : Word) : Ordinary (loadAcc w off) :=
  .get_bind fun _ => .bind (.memRead ..) fun _ => .seq (.modify fun _ => .setReg) .advance

protected theorem Ordinary.storeAcc (w : Bool) (off : Word) : Ordinary (storeAcc w off) :=
  .get_bind fun _ => .seq (.memWrite ..) .advance

protected theorem Ordinary.moveToSeg (m : RM) (g : Seg) : Ordinary (moveToSeg m g) :=
  .seq .check <| .bind (.readRM ..) fun _ => .seq (.loadSeg ..) <| .seq (.modify fun _ => by constructor <;> rfl) .advance

protected theorem Ordinary.storeHalf (m : RM) (v : Half) : Ordinary (storeHalf m v) :=
  .get_bind fun s => by
    cases m with
    | reg r => exact .modify fun _ => by cases s.osz32 <;> constructor <;> rfl
    | mem x => exact .memWrite ..

protected theorem Ordinary.moveFromSeg (m : RM) (g : Seg) : Ordinary (moveFromSeg m g) :=
  .get_bind fun _ => .seq (.storeHalf ..) .advance

protected theorem Ordinary.extendReg (signed w : Bool) (m : RM) (r : Reg) : Ordinary (extendReg signed w m r) :=
  .get_bind fun _ => .bind (.readRM ..) fun _ => .seq (.modify fun _ => .setReg) .advance

protected theorem Ordinary.pushValue (v : Word) : Ordinary (pushValue v) := .get_bind fun _ => .seq (.push ..) .advance

protected theorem Ordinary.pushOperand (m : RM) : Ordinary (pushOperand m) :=
  .get_bind fun _ => .bind (.readRM ..) fun _ => .pushValue _

protected theorem Ordinary.pushSelector (g : Seg) : Ordinary (pushSelector g) := .get_bind fun _ => .pushValue _

protected theorem Ordinary.pushImmediate (signed8 : Bool) (imm : Word) : Ordinary (pushImmediate signed8 imm) :=
  .get_bind fun _ => .pushValue _

protected theorem Ordinary.pushAllRegs : Ordinary pushAllRegs := .get_bind fun _ => .seq (.pushAll ..) .advance

protected theorem Ordinary.popOperand (m : RM) : Ordinary (popOperand m) :=
  .get_bind fun _ => .bind (.stackRead ..) fun _ => .seq (.modify fun _ => .dropStack) <| .seq (.writeRM ..) .advance

protected theorem Ordinary.popSelector (g : Seg) : Ordinary (popSelector g) :=
  .get_bind fun _ => .bind (.stackRead ..) fun _ => .seq (.loadSeg ..) <| .seq (.modify fun _ => by constructor <;> simp) .advance

protected theorem Ordinary.stackItems (w i k : Nat) : Ordinary (stackItems w i k) := by
  induction k generalizing i with
  | zero => exact .pure _
  | succ k ih => exact .bind (.stackRead ..) fun _ => .bind (ih _) fun _ => .pure _

protected theorem Ordinary.popAll : Ordinary popAll :=
  .get_bind fun _ => .bind (.stackItems ..) fun _ => .seq (.modify fun _ => by constructor <;> simp [State.popAllRegs]) .advance

protected theorem Ordinary.exchange (w : Width) (m : RM) (r : Reg) : Ordinary (exchange w m r) :=
  .get_bind fun _ => by
    cases m with
    | reg q => exact .seq (.modify fun _ => by constructor <;> rfl) .advance
    | mem x => exact .bind (.memKeys ..) fun _ => .seq (.modify fun _ => by constructor <;> simp) .advance

protected theorem Ordinary.inPort (w : Bool) (port : Half) : Ordinary (inPort w port) :=
  .get_bind fun _ => .seq (.ioPermitted ..) <| .bind (.portRead ..) fun _ => .seq (.modify fun _ => .setReg) .advance

protected theorem Ordinary.outPort (w : Bool) (port : Half) : Ordinary (outPort w port) :=
  .get_bind fun _ => .seq (.ioPermitted ..) <| .seq (.portWrite ..) .advance

protected theorem Ordinary.leaBody (m : RM) (r : Reg) : Ordinary (leaBody m r) :=
  .bind (.memOperand m) fun _ => .seq (.modify fun _ => .setReg) .advance

protected theorem Ordinary.farPointer (x : MemRef) : Ordinary (farPointer x) :=
  .get_bind fun _ => .bind (.memRead ..) fun _ => .bind (.memRead ..) fun _ => .pure _

protected theorem Ordinary.loadFarPtr (g : Seg) (m : RM) (r : Reg) : Ordinary (loadFarPtr g m r) :=
  .bind (.memOperand m) fun x => .bind (.farPointer x) fun _ => .seq (.loadSeg ..) <| .seq (.modify fun _ => .setReg) .advance

/-! Near transfers, loops, SETcc, ENTER, LEAVE, BOUND. -/

protected theorem Ordinary.nearCall (t : Word) : Ordinary (nearCall t) :=
  .get_bind fun _ => .seq (.checkRoom ..) <| .seq (.checkTarget t) <| .seq (.push ..) (.nearJump t)

protected theorem Ordinary.indirect {m : RM} {k : Word → M Unit} (hk : ∀ t, Ordinary (k t)) : Ordinary (indirect m k) :=
  .get_bind fun _ => .bind (.readRM ..) fun _ => hk _

protected theorem Ordinary.nearRet (imm : Word) : Ordinary (nearRet imm) :=
  .get_bind fun _ => .seq (.checkStackTop _) <| .bind (.stackRead ..) fun _ =>
    .seq (.checkTarget _) (.modify fun _ => by constructor <;> simp)

protected theorem Ordinary.jumpIf (c : Bool) (t : Word) : Ordinary (jumpIf c t) := .ite (.nearJump t) .advance

protected theorem Ordinary.loopBody (c : Bool) (t : Word) : Ordinary (loopBody c t) :=
  .get_bind fun _ => .seq (.modify fun _ => .setAddrReg) (.jumpIf ..)

protected theorem Ordinary.setByte (m : RM) (c : Bool) : Ordinary (setByte m c) := .seq (.writeRM ..) .advance

protected theorem Ordinary.copyDisplay (w k : Nat) (bp : Word) : Ordinary (copyDisplay w k bp) := by
  induction k generalizing bp with
  | zero => exact .pure _
  | succ k ih => exact .get_bind fun _ => .bind (.memRead ..) fun _ => .seq (.push ..) (ih _)

protected theorem Ordinary.enterBody (size : Half) (level : Byte) : Ordinary (enterBody size level) :=
  .get_bind fun _ => .seq (.push ..) <| .get_bind fun _ =>
    .ite (.seq (.modify fun _ => by constructor <;> simp) .advance) <| .seq (.copyDisplay ..) <| .seq (.push ..) <|
      .seq (.modify fun _ => by constructor <;> simp) .advance

protected theorem Ordinary.leaveBody : Ordinary leaveBody :=
  .get_bind fun _ => .bind (.memRead ..) fun _ => .seq (.modify fun _ => by constructor <;> simp) .advance

protected theorem Ordinary.boundBody (m : RM) (r : Reg) : Ordinary (boundBody m r) :=
  .bind (.memOperand m) fun _ => .get_bind fun _ => .bind (.memRead ..) fun _ => .bind (.memRead ..) fun _ => .seq .check .advance

/-! Flag control. -/

protected theorem Ordinary.setFlags {k : Flags → Flags} (hk : ∀ f, (k f).vm = f.vm) : Ordinary (setFlags k) :=
  .seq (.modify fun _ => .setFlags (hk _)) .advance

protected theorem Ordinary.clearInterrupt : Ordinary clearInterrupt := .seq .requireIopl (.setFlags fun _ => rfl)

protected theorem Ordinary.setInterrupt : Ordinary setInterrupt :=
  .seq .requireIopl <| .seq (.modify fun _ => by constructor <;> rfl) (.setFlags fun _ => rfl)

protected theorem Ordinary.flagsToAh : Ordinary flagsToAh := .seq (.modify fun _ => .setReg) .advance

protected theorem Ordinary.ahToFlags : Ordinary ahToFlags := .seq (.modify fun _ => .setFlags rfl) .advance

/-- A load of EFLAGS within a level leaves VM alone (41_flag_control.md R678). -/
theorem State.loadFlags_vm (s : State) (image : Word) (rfOk : Bool) : (s.loadFlags image rfOk).vm = s.flags.vm := by
  simp [State.loadFlags, Flags.load]

protected theorem Ordinary.popFlags : Ordinary popFlags :=
  .get_bind fun _ => .seq .requireV86Iopl <| .bind (.stackRead ..) fun _ =>
    .modify fun _ => by constructor <;> simp [State.loadFlags_vm]

protected theorem Ordinary.pushFlags : Ordinary pushFlags := .get_bind fun _ => .seq .requireV86Iopl <| .seq (.push ..) .advance

/-! String instructions. -/

theorem State.SystemKept.stepIndex (s : State) (r : Reg) (w : Width) : s.SystemKept (s.stepIndex r w) := by
  constructor <;> simp [State.stepIndex]

protected theorem Ordinary.readSource (w : Width) : Ordinary (readSource w) := .get_bind fun _ => .bind (.memRead ..) fun _ => .pure _

protected theorem Ordinary.readDest (w : Width) : Ordinary (readDest w) := .get_bind fun _ => .bind (.memRead ..) fun _ => .pure _

protected theorem Ordinary.writeDest (w : Width) (v : BitVec w.bits) : Ordinary (writeDest w v) := .get_bind fun _ => .memWrite ..

protected theorem Ordinary.cmpsElement (w : Width) : Ordinary (cmpsElement w) :=
  .bind (.readSource w) fun _ => .bind (.readDest w) fun _ => .modify fun _ =>
    .trans (.setFlags (cmpFlags_vm ..)) (.trans (.stepIndex ..) (.stepIndex ..))

protected theorem Ordinary.scasElement (w : Width) : Ordinary (scasElement w) :=
  .bind (.readDest w) fun _ => .modify fun _ => .trans (.setFlags (cmpFlags_vm ..)) (.stepIndex ..)

protected theorem Ordinary.insElement (w : Width) : Ordinary (insElement w) :=
  .get_bind fun _ => .seq (.ioPermitted ..) <| .bind (.memKeys ..) fun _ => .bind (.portRead ..) fun _ =>
    .modify fun _ => by constructor <;> simp [State.stepIndex]

protected theorem Ordinary.lodsElement (w : Width) : Ordinary (lodsElement w) :=
  .bind (.readSource w) fun _ => .modify fun _ => by constructor <;> simp [State.stepIndex]

protected theorem Ordinary.movsElement (w : Width) : Ordinary (movsElement w) :=
  .bind (.readSource w) fun _ => .seq (.writeDest ..) (.modify fun _ => .trans (.stepIndex ..) (.stepIndex ..))

protected theorem Ordinary.outsElement (w : Width) : Ordinary (outsElement w) :=
  .get_bind fun _ => .seq (.ioPermitted ..) <| .bind (.readSource w) fun _ => .seq (.portWrite ..) (.modify fun _ => .stepIndex ..)

protected theorem Ordinary.stosElement (w : Width) : Ordinary (stosElement w) :=
  .get_bind fun _ => .seq (.writeDest ..) (.modify fun _ => .stepIndex ..)

protected theorem Ordinary.once {element : M Unit} (h : Ordinary element) : Ordinary (once element) := .seq h .advance

protected theorem Ordinary.repStep {stop : Flags → Bool} {element : M Unit} (h : Ordinary element) : Ordinary (repStep stop element) :=
  .get_bind fun _ => .ite .advance <| .seq h <| .seq (.modify fun _ => .setAddrReg) <| .get_bind fun _ =>
    .ite .advance (.modify fun _ => by constructor <;> rfl)

protected theorem Ordinary.xlatBody : Ordinary xlatBody :=
  .get_bind fun _ => .bind (.memRead ..) fun _ => .seq (.modify fun _ => .setReg) .advance

/-! Protection control. -/

theorem State.SystemKept.adjustKeys (s : State) (keys : List Nat) (la : Word) (src : Half) : s.SystemKept (s.adjustKeys keys la src) := by
  unfold State.adjustKeys State.setZf
  dsimp only
  split <;> constructor <;> simp

protected theorem Ordinary.arplBody (m : RM) (r : Reg) : Ordinary (arplBody m r) :=
  .seq .requireProt <| .get_bind fun _ => by
    cases m with
    | reg q => exact .seq (.modify fun _ => by constructor <;> rfl) .advance
    | mem x => exact .bind (.probeKeys ..) fun _ => .seq (.modify fun _ => .adjustKeys ..) .advance

protected theorem Ordinary.testDescriptor (sel : Half) : Ordinary (testDescriptor sel) := .ite (.pure _) (.readDescriptor sel)

protected theorem Ordinary.loadTested (m : RM) (r : Reg) (types : List Nat) (value : Descriptor → Word) :
    Ordinary (loadTested m r types value) :=
  .seq .requireProt <| .bind (.readRM ..) fun _ => .bind (.testDescriptor _) fun x => .seq (.modify fun s => by
    cases x with
    | none => constructor <;> rfl
    | some d => dsimp only; split <;> constructor <;> rfl) .advance

protected theorem Ordinary.verify (m : RM) (k : State → Half → Descriptor → Bool) : Ordinary (verify m k) :=
  .seq .requireProt <| .bind (.readRM ..) fun _ => .bind (.testDescriptor _) fun _ =>
    .seq (.modify fun _ => by constructor <;> rfl) .advance

protected theorem Ordinary.storeTable (m : RM) (k : State → TableReg) : Ordinary (storeTable m k) :=
  .bind (.memOperand m) fun _ => .get_bind fun _ => .bind (.memKeys ..) fun _ => .bind (.memKeys ..) fun _ =>
    .seq (.modify fun _ => .trans .writeKeys .writeKeys) .advance

protected theorem Ordinary.lldtBody (m : RM) : Ordinary (lldtBody m) :=
  .seq .requireProt <| .seq .requireCpl0 <| .bind (.readRM ..) fun _ => .ite (.seq (.modify fun _ => by constructor <;> rfl) .advance) <|
    .seq .check <| .bind (.needDescriptor (.raise ..)) fun _ => .seq .check <| .seq .check <|
    .seq (.modify fun _ => by constructor <;> rfl) .advance

protected theorem Ordinary.ltrBody (m : RM) : Ordinary (ltrBody m) :=
  .seq .requireProt <| .seq .requireCpl0 <| .bind (.readRM ..) fun _ => .seq .check <| .seq .check <|
    .bind (.needDescriptor (.raise ..)) fun _ => .seq .check <| .seq .check <| .seq (.writeAccessByte ..) <|
      .seq (.modify fun _ => by constructor <;> rfl) .advance

protected theorem Ordinary.storeSystem (m : RM) (k : State → Half) : Ordinary (storeSystem m k) :=
  .get_bind fun _ => .seq (.storeHalf ..) .advance

protected theorem Ordinary.storeSelector (m : RM) (k : State → SegReg) : Ordinary (storeSelector m k) :=
  .seq .requireProt (.storeSystem ..)

/-! Reads of the special registers, WAIT and ESC. -/

protected theorem Ordinary.moveFromCr (c : CReg) (r : Reg) : Ordinary (moveFromCr c r) :=
  .seq .requireCpl0 (.change fun _ => by constructor <;> rfl)

protected theorem Ordinary.debugAccess : Ordinary debugAccess :=
  .get_bind fun _ => .ite (.seq (.modify fun _ => by constructor <;> rfl) (.raise ..)) (.pure _)

protected theorem Ordinary.moveFromDr (d : DReg) (r : Reg) : Ordinary (moveFromDr d r) :=
  .seq .requireCpl0 <| .seq .debugAccess (.change fun _ => by constructor <;> rfl)

protected theorem Ordinary.moveFromTr (x : TReg) (r : Reg) : Ordinary (moveFromTr x r) :=
  .seq .requireCpl0 (.change fun _ => by constructor <;> rfl)

protected theorem Ordinary.afterBusy {k : M Unit} (hk : Ordinary k) : Ordinary (afterBusy k) :=
  .get_bind fun _ => .ite (.modify fun _ => by constructor <;> rfl) (.seq .check hk)

protected theorem Ordinary.waitBody : Ordinary waitBody := .get_bind fun _ => .seq .check (.afterBusy .advance)

protected theorem Ordinary.escOperand (ttt lll : BitVec 3) (m : RM) : Ordinary (escOperand ttt lll m) := by
  cases m with
  | reg r => exact .modify fun _ => by constructor <;> rfl
  | mem x => exact .get_bind fun _ => .seq (.checkReg ..) <| .bind (.linKeys ..) fun _ => .modify fun _ => by constructor <;> rfl

protected theorem Ordinary.escAnswer : Ordinary escAnswer := .seq .busTurn (.modify fun _ => .setReg)

protected theorem Ordinary.escHandOver (ttt lll : BitVec 3) (m : RM) : Ordinary (escHandOver ttt lll m) :=
  .seq (.escOperand ..) <| .seq .busTurn <| .seq (.modify fun _ => by constructor <;> rfl) <| 
    .ite (.seq .escAnswer .advance) .advance

protected theorem Ordinary.escBody (ttt lll : BitVec 3) (m : RM) : Ordinary (escBody ttt lll m) :=
  have go : Ordinary (if escNoWait ttt lll m then escHandOver ttt lll m else afterBusy (escHandOver ttt lll m)) :=
    .ite (.escHandOver ..) (.afterBusy (.escHandOver ..))
  .get_bind fun _ => .seq .check <| .ite (.bind (.refuse _) fun _ => go) go

protected theorem Ordinary.operandOut (dword : Bool) (v : Word) : Ordinary (operandOut dword v) :=
  .seq .busTurn <| .seq (.modify fun _ => by constructor <;> rfl) <|
    .ite (.seq .cycleTurn (.modify fun _ => by constructor <;> rfl)) (.pure _)

protected theorem Ordinary.transferItem (c : EscCommand) (dword : Bool) (value : Word) : Ordinary (transferItem c dword value) :=
  .get_bind fun _ => .bind (.regKeys ..) fun _ => .get_bind fun _ => .ite (.seq .busTurn (.modify fun _ => .writeKeys)) (.operandOut ..)

/-! Which instructions are ordinary. -/

/-- The outcome is that of an ordinary computation. -/
def OrdinaryRun (s : State) (r : Result) : Prop := ∃ body, Ordinary body ∧ r = perform body s

protected theorem Ordinary.noLock : Ordinary noLock := .get_bind fun _ => .check

protected theorem Ordinary.lockMemory (m : RM) : Ordinary (lockMemory m) := by
  cases m with
  | reg r => exact .noLock
  | mem x => exact .pure _

theorem Ordinary.instr {body : M Unit} (h : Ordinary body) (s : State) : OrdinaryRun s (instr body s) := ⟨_, .seqRight .noLock h, rfl⟩

theorem Ordinary.lockable {body : M Unit} (h : Ordinary body) (m : RM) (s : State) : OrdinaryRun s (lockable m body s) :=
  ⟨_, .seqRight (.lockMemory m) h, rfl⟩

theorem ordinaryRun_aluRmReg (op : AluOp) (d w : Bool) (m : RM) (r : Reg) (s : State) : OrdinaryRun s (aluRmReg op d w m r s) := by
  unfold aluRmReg
  split
  · exact (Ordinary.aluFrom ..).instr s
  · exact (Ordinary.aluTo ..).lockable m s

theorem ordinaryRun_aluRmImm (op : AluOp) (s8 w : Bool) (m : RM) (imm : Word) (s : State) : OrdinaryRun s (aluRmImm op s8 w m imm s) :=
  (Ordinary.aluTo ..).lockable m s

theorem ordinaryRun_aluAccImm (op : AluOp) (w : Bool) (imm : Word) (s : State) : OrdinaryRun s (aluAccImm op w imm s) :=
  (Ordinary.aluTo ..).instr s

theorem ordinaryRun_shiftRm (op : ShiftOp) (w : Bool) (m : RM) (raw : Byte) (s : State) : OrdinaryRun s (shiftRm op w m raw s) :=
  (Ordinary.shiftBody fun _ _ => shift_vm ..).instr s

theorem ordinaryRun_doubleRm (right : Bool) (m : RM) (r : Reg) (raw : Byte) (s : State) : OrdinaryRun s (doubleRm right m r raw s) :=
  (Ordinary.shiftBody fun _ _ => doubleShift_vm ..).instr s

theorem ordinaryRun_undefined (s : State) : OrdinaryRun s (undefined s) := (Ordinary.raise ..).instr s

theorem ordinaryRun_undocumented (s : State) : OrdinaryRun s (undocumented s) := (Ordinary.refuse _).instr s

/-- The instructions whose purpose is to change what the others keep: far transfers, interrupts and returns from them, the loads of CR0,
GDTR, IDTR and of control, debug and test registers, HLT, and the prefixes. -/
def ChangesSystem : Instr → Bool
  | .callFar .. | .callFarMem .. | .jmpFar .. | .jmpFarMem .. | .retf | .retfImm .. | .iret | .intN .. | .int3 | .into => true
  | .movCrReg .. | .movDrReg .. | .movTrReg .. | .lgdt .. | .lidt .. | .lmsw .. | .clts | .hlt => true
  | i => IsPrefix i

/-- Every other instruction is ordinary. -/
theorem exec_ordinary (i : Instr) (hi : ChangesSystem i = false) (s : State) : OrdinaryRun s (exec i s) := by
  cases i
  case callFar | callFarMem | jmpFar | jmpFarMem | retf | retfImm | iret | intN | int3 | into | movCrReg | movDrReg | movTrReg | lgdt |
      lidt | lmsw | clts | hlt | pfxAddrSize | pfxLock | pfxOpSize | pfxCs | pfxDs | pfxEs | pfxFs | pfxGs | pfxSs | pfxRep | pfxRepne =>
    exact nomatch hi
  case movRmReg => exact (Ordinary.storeReg ..).instr s
  case movRegRm => exact (Ordinary.loadReg ..).instr s
  case movRmImm | movRegImm => exact (Ordinary.storeImm ..).instr s
  case movAccMem => exact (Ordinary.loadAcc ..).instr s
  case movMemAcc => exact (Ordinary.storeAcc ..).instr s
  case movSegRm => exact (Ordinary.moveToSeg ..).instr s
  case movRmSeg => exact (Ordinary.moveFromSeg ..).instr s
  case movsx | movzx => exact (Ordinary.extendReg ..).instr s
  case pushRm | pushReg => exact (Ordinary.pushOperand _).instr s
  case pushSeg | pushFs | pushGs => exact (Ordinary.pushSelector _).instr s
  case pushImm => exact (Ordinary.pushImmediate ..).instr s
  case pusha => exact Ordinary.pushAllRegs.instr s
  case popRm | popReg => exact (Ordinary.popOperand _).instr s
  case popEs | popSs | popDs | popFs | popGs => exact (Ordinary.popSelector _).instr s
  case popa => exact Ordinary.popAll.instr s
  case xchgRmReg m _ => exact (Ordinary.exchange ..).lockable m s
  case xchgAccReg => exact (Ordinary.exchange ..).instr s
  case inImm | inDx => exact (Ordinary.inPort ..).instr s
  case outImm | outDx => exact (Ordinary.outPort ..).instr s
  case lea => exact (Ordinary.leaBody ..).instr s
  case lds | les | lfs | lgs | lss => exact (Ordinary.loadFarPtr ..).instr s
  case addRmReg | adcRmReg | subRmReg | sbbRmReg | andRmReg | orRmReg | xorRmReg => exact ordinaryRun_aluRmReg ..
  case addRmImm | adcRmImm | subRmImm | sbbRmImm | andRmImm | orRmImm | xorRmImm => exact ordinaryRun_aluRmImm ..
  case addAccImm | adcAccImm | subAccImm | sbbAccImm | andAccImm | orAccImm | xorAccImm => exact ordinaryRun_aluAccImm ..
  case cmpRmReg d _ _ _ => exact (Ordinary.readOnly fun _ _ => by cases d <;> exact cmpFlags_vm ..).instr s
  case cmpRmImm | cmpAccImm => exact (Ordinary.readOnly fun _ _ => cmpFlags_vm ..).instr s
  case testRmReg | testRmImm | testAccImm => exact (Ordinary.testBody ..).instr s
  case incRm m | decRm m => exact (Ordinary.readWrite fun _ _ => rfl).lockable m s
  case incReg | decReg => exact (Ordinary.readWrite fun _ _ => rfl).instr s
  case negRm m => exact (Ordinary.readWrite fun _ _ => rfl).lockable m s
  case notRm m => exact (Ordinary.readWrite fun _ _ => rfl).lockable m s
  case aaa | aas => exact (Ordinary.asciiAdjust _).instr s
  case daa | das => exact (Ordinary.decimalAdjust _).instr s
  case mulRm | imulAcc => exact (Ordinary.multiplyAcc ..).instr s
  case imulReg | imulImm => exact (Ordinary.imulTo ..).instr s
  case divRm | idivRm => exact (Ordinary.divideAcc ..).instr s
  case aad => exact (Ordinary.aadBody _).instr s
  case aam => exact (Ordinary.aamBody _).instr s
  case cbw => exact (Ordinary.change .convertLow).instr s
  case cwd => exact (Ordinary.change fun _ => by constructor <;> rfl).instr s
  case rolOne | rolCl | rolImm | rorOne | rorCl | rorImm | rclOne | rclCl | rclImm | rcrOne | rcrCl | rcrImm | shlOne | shlCl | shlImm |
      shrOne | shrCl | shrImm | sarOne | sarCl | sarImm => exact ordinaryRun_shiftRm ..
  case shldImm | shldCl | shrdImm | shrdCl => exact ordinaryRun_doubleRm ..
  case bsf | bsr => exact (Ordinary.scanBits ..).instr s
  case btRmImm => exact (Ordinary.bitImm ..).instr s
  case btRmReg => exact (Ordinary.bitReg ..).instr s
  case btcRmImm m _ | btrRmImm m _ | btsRmImm m _ => exact (Ordinary.bitImm ..).lockable m s
  case btcRmReg m _ | btrRmReg m _ | btsRmReg m _ => exact (Ordinary.bitReg ..).lockable m s
  case cmps => exact (Ordinary.once (.cmpsElement _)).instr s
  case ins => exact (Ordinary.once (.insElement _)).instr s
  case lods => exact (Ordinary.once (.lodsElement _)).instr s
  case movs => exact (Ordinary.once (.movsElement _)).instr s
  case outs => exact (Ordinary.once (.outsElement _)).instr s
  case scas => exact (Ordinary.once (.scasElement _)).instr s
  case stos => exact (Ordinary.once (.stosElement _)).instr s
  case repeCmps | repneCmps => exact (Ordinary.repStep (.cmpsElement _)).instr s
  case repIns => exact (Ordinary.repStep (.insElement _)).instr s
  case repLods => exact (Ordinary.repStep (.lodsElement _)).instr s
  case repMovs => exact (Ordinary.repStep (.movsElement _)).instr s
  case repOuts => exact (Ordinary.repStep (.outsElement _)).instr s
  case repeScas | repneScas => exact (Ordinary.repStep (.scasElement _)).instr s
  case repStos => exact (Ordinary.repStep (.stosElement _)).instr s
  case xlat => exact Ordinary.xlatBody.instr s
  case callRel => exact (Ordinary.nearCall _).instr s
  case callRm => exact (Ordinary.indirect .nearCall).instr s
  case jmpShort | jmpRel => exact (Ordinary.nearJump _).instr s
  case jmpRm => exact (Ordinary.indirect .nearJump).instr s
  case ret | retImm => exact (Ordinary.nearRet _).instr s
  case joShort | jnoShort | jbShort | jnbShort | jeShort | jneShort | jbeShort | jnbeShort | jsShort | jnsShort | jpShort | jnpShort |
      jlShort | jnlShort | jleShort | jnleShort | joNear | jnoNear | jbNear | jnbNear | jeNear | jneNear | jbeNear | jnbeNear | jsNear |
      jnsNear | jpNear | jnpNear | jlNear | jnlNear | jleNear | jnleNear | jcxz => exact (Ordinary.jumpIf ..).instr s
  case loop | loopz | loopnz => exact (Ordinary.loopBody ..).instr s
  case seto | setno | setb | setnb | sete | setne | setbe | setnbe | sets | setns | setp | setnp | setl | setnl | setle | setnle =>
    exact (Ordinary.setByte ..).instr s
  case enter => exact (Ordinary.enterBody ..).instr s
  case leave => exact Ordinary.leaveBody.instr s
  case bound => exact (Ordinary.boundBody ..).instr s
  case clc | cld | cmc | stc | std => exact (Ordinary.setFlags fun _ => by rfl).instr s
  case cli => exact Ordinary.clearInterrupt.instr s
  case sti => exact Ordinary.setInterrupt.instr s
  case lahf => exact Ordinary.flagsToAh.instr s
  case sahf => exact Ordinary.ahToFlags.instr s
  case popf => exact Ordinary.popFlags.instr s
  case pushf => exact Ordinary.pushFlags.instr s
  case movRegCr => exact (Ordinary.moveFromCr ..).instr s
  case movRegDr => exact (Ordinary.moveFromDr ..).instr s
  case movRegTr => exact (Ordinary.moveFromTr ..).instr s
  case nop => exact Ordinary.advance.instr s
  case wait => exact Ordinary.waitBody.instr s
  case esc => exact (Ordinary.escBody ..).instr s
  case arpl => exact (Ordinary.arplBody ..).instr s
  case lar | lsl => exact (Ordinary.loadTested ..).instr s
  case verr | verw => exact (Ordinary.verify ..).instr s
  case sgdt | sidt => exact (Ordinary.storeTable ..).instr s
  case sldt | str => exact (Ordinary.storeSelector ..).instr s
  case smsw => exact (Ordinary.storeSystem ..).instr s
  case lldt => exact (Ordinary.lldtBody _).instr s
  case ltr => exact (Ordinary.ltrBody _).instr s
  case und8F1 | und8F2 | und8F3 | und8F4 | und8F5 | und8F6 | und8F7 | undC61 | undC62 | undC63 | undC64 | undC65 | undC66 | undC67 |
      undFE2 | undFE3 | undFE4 | undFE5 | undFE6 | undFE7 | undFF7 | und0F006 | und0F007 | und0F015 | und0F017 | und0FBA0 | und0FBA1 |
      und0FBA2 | und0FBA3 => exact ordinaryRun_undefined s
  case undShift6 | undShiftImm6 | undF61 | undD6 | undF1 | und0F05 | und0F07 | und0FA6 | und0FA7 => exact ordinaryRun_undocumented s

end Sys2Proof.Machine
end

section
/-!
Every step keeps the modes legal. What a transfer that changes the privilege level or VM keeps depends on where it starts, so computations
are stated with a condition on the mode before and one after; wherever such a computation stops, the mode is legal.
-/
namespace Sys2Proof.Machine

open Sys2Proof

variable {α β : Type}

/-! The modes. -/

/-- Protected Mode with PE set, Virtual 8086 mode with CPL 3 included. -/
structure State.LegalProtected (s : State) : Prop where
  pe : s.pe = true
  cpl : s.flags.vm = true → s.cpl = 3

/-- Protected Mode other than Virtual 8086 mode, in which any CPL is legal. -/
structure State.Plain (s : State) : Prop where
  pe : s.pe = true
  vm : s.flags.vm = false

/-- A legal mode in which the privileged instructions run. -/
structure State.Supervisor (s : State) : Prop where
  legal : s.modeLegal
  vm : s.flags.vm = false
  cpl : s.cpl = 0

/-- The legality of the mode rests on PE, PG, VM and CPL only. -/
theorem State.modeLegal.congr {s t : State} (hs : s.modeLegal) (hpe : t.pe = s.pe) (hpg : t.pg = s.pg)
    (hvm : t.flags.vm = s.flags.vm) (hcpl : t.cpl = s.cpl) : t.modeLegal := by
  unfold State.modeLegal at *
  rw [hpe, hpg, hvm, hcpl]
  exact hs

theorem State.SystemKept.pe {s t : State} (h : s.SystemKept t) : t.pe = s.pe := by
  unfold State.pe
  rw [h.cr0]

theorem State.SystemKept.pg {s t : State} (h : s.SystemKept t) : t.pg = s.pg := by
  unfold State.pg
  rw [h.cr0]

theorem State.SystemKept.modeLegal {s t : State} (h : s.SystemKept t) (hs : s.modeLegal) : t.modeLegal :=
  hs.congr h.pe h.pg h.vm h.cpl

theorem State.SystemKept.plain {s t : State} (h : s.SystemKept t) (hs : s.Plain) : t.Plain := ⟨h.pe.trans hs.pe, h.vm.trans hs.vm⟩

theorem State.SystemKept.legalProtected {s t : State} (h : s.SystemKept t) (hs : s.LegalProtected) : t.LegalProtected :=
  ⟨h.pe.trans hs.pe, fun hv => h.cpl.trans (hs.cpl (h.vm.symm.trans hv))⟩

theorem State.Plain.legalProtected {s : State} (h : s.Plain) : s.LegalProtected :=
  ⟨h.pe, fun hv => absurd hv (by simp [h.vm])⟩

theorem State.LegalProtected.modeLegal {s : State} (h : s.LegalProtected) : s.modeLegal :=
  ⟨fun hp => absurd hp (by simp [h.pe]), h.cpl⟩

theorem State.modeLegal.legalProtected {s : State} (h : s.modeLegal) (hp : s.pe = true) : s.LegalProtected := ⟨hp, h.2⟩

theorem State.plain_of_prot {s : State} (h : s.prot = true) : s.Plain := by
  unfold State.prot at h
  rw [Bool.and_eq_true, Bool.not_eq_true'] at h
  exact ⟨h.1, h.2⟩

theorem State.plain_of_transferProt {s : State} (h : s.transferProt = true) : s.Plain :=
  State.plain_of_prot (Bool.and_eq_true_iff.mp h).1

theorem State.resetEvent_modeLegal (s : State) : s.resetEvent.modeLegal := 
  ⟨fun _ => ⟨rfl, rfl, (by decide : State.reset.pg = false)⟩, fun h => nomatch h⟩

theorem State.busStop_modeLegal {s : State} (hs : s.modeLegal) (b : BusStop) : (s.busStop b).modeLegal := by
  cases b with
  | reset => exact s.resetEvent_modeLegal
  | stall => exact hs.congr rfl rfl rfl rfl

theorem State.rollback_modeLegal {s : State} (hs : s.modeLegal) (t : State) : (s.rollback t).modeLegal := hs.congr rfl rfl rfl rfl

/-! Conditions, and computations that lead from one to another. -/

/-- A condition on the mode: a legal one, and none that the ordinary work of an instruction can end. -/
structure ModeCond where
  holds : State → Prop
  legal : ∀ s, holds s → s.modeLegal
  kept : ∀ s t, holds s → s.SystemKept t → holds t

def ModeCond.anyLegal : ModeCond := ⟨State.modeLegal, fun _ h => h, fun _ _ h k => k.modeLegal h⟩

def ModeCond.legalProtected : ModeCond := ⟨State.LegalProtected, fun _ h => h.modeLegal, fun _ _ h k => k.legalProtected h⟩

def ModeCond.plain : ModeCond := ⟨State.Plain, fun _ h => h.legalProtected.modeLegal, fun _ _ h k => k.plain h⟩

def ModeCond.supervisor : ModeCond :=
  ⟨State.Supervisor, fun _ h => h.legal, fun _ _ h k => ⟨k.modeLegal h.legal, k.vm.trans h.vm, k.cpl.trans h.cpl⟩⟩

/-- The mode is still that of `s`. -/
def ModeCond.since (s : State) (hs : s.modeLegal) : ModeCond := ⟨s.SystemKept, fun _ h => h.modeLegal hs, fun _ _ h k => h.trans k⟩

/-- From a state with `P` the computation reaches one with `Q`, or stops in a legal mode. -/
structure Leads (P Q : ModeCond) (x : M α) : Prop where
  ok : ∀ s a t, P.holds s → x s = .ok a t → Q.holds t
  error : ∀ s e t, P.holds s → x s = .error e t → t.modeLegal

theorem Leads.endState_modeLegal {P Q : ModeCond} {x : M α} (h : Leads P Q x) {s : State} (hs : P.holds s) :
    (endState (x s)).modeLegal := by
  cases hx : x s with
  | ok a t => exact Q.legal t (h.ok s a t hs hx)
  | error e t => exact h.error s e t hs hx

theorem Ordinary.leads {x : M α} (hx : Ordinary x) {P : ModeCond} : Leads P P x where
  ok s a t hs h := P.kept s t hs (by have := hx.keeps s; rwa [h] at this)
  error s e t hs h := P.legal t (P.kept s t hs (by have := hx.keeps s; rwa [h] at this))

/-- A weaker condition before, a stronger one after. -/
theorem Leads.weaken {P P' Q Q' : ModeCond} {x : M α} (h : Leads P Q x) (hp : ∀ s, P'.holds s → P.holds s)
    (hq : ∀ s, Q.holds s → Q'.holds s) : Leads P' Q' x where
  ok s a t hs hx := hq t (h.ok s a t (hp s hs) hx)
  error s e t hs hx := h.error s e t (hp s hs) hx

theorem Leads.of {P P' Q : ModeCond} {x : M α} (h : Leads P Q x) (hp : ∀ s, P'.holds s → P.holds s) : Leads P' Q x :=
  h.weaken hp fun _ k => k

protected theorem Leads.bind {P Q R : ModeCond} {x : M α} {f : α → M β} (hx : Leads P Q x) (hf : ∀ a, Leads Q R (f a)) :
    Leads P R (x >>= f) where
  ok s b u hs h := by
    obtain ⟨a, t, h1, h2⟩ := M.bind_ok.mp h
    exact (hf a).ok t b u (hx.ok s a t hs h1) h2
  error s e u hs h := by
    rcases M.bind_error.mp h with h1 | ⟨a, t, h1, h2⟩
    · exact hx.error s e u hs h1
    · exact (hf a).error t e u (hx.ok s a t hs h1) h2

theorem Leads.seq {P Q R : ModeCond} {x : M α} {y : M β} (hx : Leads P Q x) (hy : Leads Q R y) : Leads P R (x >>= fun _ => y) :=
  hx.bind fun _ => hy

/-- Ordinary work first. -/
theorem Leads.after {P Q : ModeCond} {x : M α} {f : α → M β} (hx : Ordinary x) (hf : ∀ a, Leads P Q (f a)) : Leads P Q (x >>= f) :=
  hx.leads.bind hf

theorem Leads.afterSeq {P Q : ModeCond} {x : M α} {y : M β} (hx : Ordinary x) (hy : Leads P Q y) : Leads P Q (x >>= fun _ => y) :=
  hx.leads.seq hy

/-- The state that is read tells the mode, until something changes it. -/
theorem Leads.get_bind {P Q : ModeCond} {f : State → M α} (h : ∀ s (hs : P.holds s), Leads (.since s (P.legal s hs)) Q (f s)) :
    Leads P Q (get >>= f) where
  ok s a t hs hx := (h s hs).ok s a t (.refl s) hx
  error s e t hs hx := (h s hs).error s e t (.refl s) hx

/-- The state that is read does not matter. -/
theorem Leads.get_any {P Q : ModeCond} {f : State → M α} (h : ∀ s, Leads P Q (f s)) : Leads P Q (get >>= f) where
  ok s a t hs hx := (h s).ok s a t hs hx
  error s e t hs hx := (h s).error s e t hs hx

/-- A computation that stops at once leads anywhere. -/
theorem Leads.throw_bind {P Q : ModeCond} (e : Stop) (f : α → M β) : Leads P Q ((throw e : M α) >>= f) where
  ok _ _ _ _ hx := nomatch hx
  error s _ _ hs hx := by cases hx; exact P.legal s hs

/-- A check that raises an exception at once: what follows may use that it was passed. -/
theorem Leads.check {P Q : ModeCond} {c : Bool} {v : Byte} {e : Option Half} {y : M β} (h : c = false → Leads P Q y) :
    Leads P Q (Machine.raiseIf c (Machine.raise v e) >>= fun _ => y) := by
  cases c with
  | false => exact h rfl
  | true => exact .throw_bind _ _

protected theorem Leads.modify {P Q : ModeCond} {k : State → State} (h : ∀ s, P.holds s → Q.holds (k s)) :
    Leads P Q (modify k : M Unit) where
  ok s a t hs hx := by cases hx; exact h s hs
  error s e t hs hx := nomatch hx

protected theorem Leads.ite {P Q : ModeCond} {c : Prop} [Decidable c] {x y : M α} (hx : c → Leads P Q x) (hy : ¬ c → Leads P Q y) :
    Leads P Q (if c then x else y) := by
  split
  · exact hx ‹_›
  · exact hy ‹_›

/-- A branch, and what follows either way. -/
theorem Leads.ite_bind {P Q R : ModeCond} {c : Prop} [Decidable c] {x y : M α} {f : α → M β} (hx : Leads P Q x) (hy : Leads P Q y)
    (hf : ∀ a, Leads Q R (f a)) : Leads P R (if c then x >>= f else y >>= f) := .ite (fun _ => hx.bind hf) fun _ => hy.bind hf

protected theorem Leads.locked {P Q : ModeCond} {x : M α} (h : Leads P Q x) : Leads P Q (locked x) := by
  have hb (R : ModeCond) (s : State) (b : List BusTurn) (hs : R.holds s) : R.holds (s.withBus b) := R.kept _ _ hs (.withBus s b)
  constructor
  · intro s a t hs hx
    obtain ⟨u, hu, rfl⟩ := locked_ok.mp hx
    exact hb Q _ _ (h.ok _ _ _ (hb P _ _ hs) hu)
  · intro s e t hs hx
    unfold Machine.locked at hx
    split at hx
    · cases hx
    · rename_i hu
      cases hx
      exact State.SystemKept.modeLegal (.withBus _ _) (h.error _ _ _ (hb P _ _ hs) hu)

protected theorem Leads.lockedIf {P Q : ModeCond} {c : Bool} {x : M α} (h : Leads P Q x) : Leads P Q (lockedIf c x) := by
  cases c with
  | false => exact h
  | true => exact h.locked

protected theorem Leads.committed {P Q : ModeCond} {x : M α} (h : Leads P Q x) : Leads P Q (committed x) := by
  constructor
  · intro s a t hs hx
    unfold Machine.committed at hx
    split at hx <;> cases hx
    exact h.ok _ _ _ hs ‹_›
  · intro s e t hs hx
    unfold Machine.committed at hx
    split at hx <;> cases hx <;> exact h.error _ _ _ hs ‹_›

/-- A legal mode that the privilege check lets pass is REAL mode, or Protected Mode at level 0. -/
theorem Leads.requireCpl0 : Leads .anyLegal .supervisor requireCpl0 where
  ok s _ t hs h := by
    obtain ⟨⟨hv, hp⟩, rfl⟩ := requireCpl0_ok.mp h
    unfold State.v86 at hv
    unfold State.prot at hp
    cases hpe : t.pe with
    | false =>
      obtain ⟨hvm, hcpl, _⟩ := hs.1 hpe
      exact ⟨hs, hvm, hcpl⟩
    | true =>
      rw [hpe, Bool.true_and] at hv hp
      exact ⟨hs, hv, hp (by rw [hv]; rfl)⟩
  error s e t hs h := Ordinary.requireCpl0.leads.error (P := .anyLegal) s e t hs h

/-! Far transfers within a task: from Protected Mode to Protected Mode, whatever the level. -/

theorem Leads.loadCs (sel : Half) (d : Descriptor) (n : BitVec 2) : Leads .plain .plain (loadCs sel d n) :=
  .afterSeq (.markAccessed ..) (.modify fun _ h => ⟨h.pe, h.vm⟩)

theorem Leads.enterCode (sel : Half) (d : Descriptor) (n : BitVec 2) (off : Word) : Leads .plain .plain (enterCode sel d n off) :=
  .seq (.loadCs ..) (Ordinary.leads (.modify fun _ => .jump))

/-- The stack pointer and the level of an inner stack. -/
theorem Leads.setLevel (esp : Word) (n : BitVec 2) : Leads .plain .plain (modify fun t => { t.setReg .b32 .esp esp with cpl := n }) :=
  .modify fun _ h => ⟨h.pe, h.vm⟩

theorem Leads.sameLevel (call : Bool) (sel : Half) (d : Descriptor) (off : Word) (w : Nat) :
    Leads .plain .plain (sameLevel call sel d off w) := by
  refine .get_any fun s => .afterSeq .check ?_
  cases call with
  | false => exact .afterSeq (.checkOffset ..) (.enterCode ..)
  | true => exact .afterSeq (.checkRoom ..) <| .afterSeq (.checkOffset ..) <| .afterSeq (.pushReturn ..) (.enterCode ..)

theorem Leads.directCode (call : Bool) (sel : Half) (d : Descriptor) (off : Word) : Leads .plain .plain (directCode call sel d off) :=
  .get_any fun _ => .ite (fun _ => .afterSeq .check (.sameLevel ..)) fun _ => .afterSeq .check (.sameLevel ..)

theorem Leads.callInner (csel : Half) (c : Descriptor) (off : Word) (w k : Nat) : Leads .plain .plain (callInner csel c off w k) :=
  .get_any fun _ => .after (.innerStack _) fun _ => .afterSeq .check <| .afterSeq (.checkOffset ..) <| .afterSeq (.loadStack ..) <|
    .seq (.setLevel ..) <| .afterSeq (.pushAll ..) <| .afterSeq (.copyParams ..) <| .afterSeq (.pushAll ..) (.enterCode ..)

theorem Leads.throughGate (call : Bool) (gsel : Half) (g : Descriptor) : Leads .plain .plain (throughGate call gsel g) := by
  refine .get_any fun s => .afterSeq .check <| .afterSeq .check <| .afterSeq .check <| .after (.needDescriptor (.raise ..)) fun c =>
    .afterSeq .check <| .afterSeq .check ?_
  cases call with
  | false => exact .afterSeq .check (.lockedIf (.sameLevel ..))
  | true => exact .afterSeq .check (.ite (fun _ => .lockedIf (.callInner ..)) fun _ => .lockedIf (.sameLevel ..))

theorem Leads.returnCs (sel : Half) (c : Descriptor) : Leads .plain .plain (returnCs sel c) := .loadCs ..

theorem State.SystemKept.setEspW (s : State) (w : Nat) (v : Word) : s.SystemKept (s.setEspW w v) := by
  unfold State.setEspW
  split <;> constructor <;> simp

theorem Leads.returnOuter (sel : Half) (c : Descriptor) (newEip : Word) (w frame : Nat) (imm : Word) :
    Leads .plain .plain (returnOuter sel c newEip w frame imm) :=
  .afterSeq (.checkStackTop _) <| .after (.stackRead ..) fun _ => .after (.stackRead ..) fun _ =>
    .after (.stackDescriptor (.raise ..) fun _ => .raise ..) fun _ => .afterSeq (.checkOffset ..) <| .seq (.returnCs ..) <|
      .afterSeq (.loadStack ..) (Ordinary.leads (.modify fun s => (State.SystemKept.setEspW s w _).trans (by constructor <;> rfl)))

theorem Leads.farReturn (imm : Word) : Leads .plain .plain (farReturn imm) :=
  .get_any fun _ => .afterSeq (.checkStackTop _) <| .after (.stackRead ..) fun _ => .after (.stackRead ..) fun _ =>
    .after (.returnDescriptor _) fun _ => .ite
      (fun _ => .afterSeq (.checkOffset ..) <| .seq (.returnCs ..) (Ordinary.leads (.modify fun _ => by constructor <;> simp)))
      fun _ => .seq (.lockedIf (.returnOuter ..)) (Ordinary.leads (.modify fun _ => by constructor <;> rfl))

protected theorem Ordinary.farReturn8086 (imm : Word) : Ordinary (farReturn8086 imm) :=
  .get_bind fun _ => .seq (.checkStackTop _) <| .bind (.stackRead ..) fun _ => .bind (.stackRead ..) fun _ =>
    .seq (.checkTarget _) (.modify fun _ => by constructor <;> simp)

protected theorem Ordinary.far8086 (call : Bool) (sel : Half) (off : Word) : Ordinary (far8086 call sel off) := by
  refine .get_bind fun s => ?_
  cases call with
  | false => exact .seq (.checkTarget _) (.modify fun _ => by constructor <;> simp)
  | true => exact .seq (.checkRoom ..) <| .seq (.checkTarget _) <| .seq (.pushReturn ..) (.modify fun _ => by constructor <;> simp)

/-! The task switch: the new task may run in Virtual 8086 mode, where its CPL becomes 3. -/

protected theorem Ordinary.writeItems (base : Word) (items : List (Nat × Nat × Word)) : Ordinary (writeItems base items) := by
  induction items with
  | nil => exact .pure _
  | cons x rest ih => exact .seq (.linWrite ..) ih

protected theorem Ordinary.readItems (base : Word) (nb : Nat) (offs : List Nat) : Ordinary (readItems base nb offs) := by
  induction offs with
  | nil => exact .pure _
  | cons off rest ih => exact .bind (.linRead ..) fun _ => .bind ih fun _ => .pure _

protected theorem Ordinary.saveTask (savedEip image : Word) : Ordinary (saveTask savedEip image) := .get_bind fun _ => .writeItems ..

protected theorem Ordinary.switchLdt (sel : Half) : Ordinary (switchLdt sel) :=
  .ite (.modify fun _ => by constructor <;> rfl) <| .seq .check <| .bind (.needDescriptor (.raise ..)) fun _ => .seq .check <|
    .seq .check (.modify fun _ => by constructor <;> rfl)

theorem Leads.switchCs (sel : Half) : Leads .plain .plain (switchCs sel) :=
  .afterSeq .check <| .after (.needDescriptor (.raise ..)) fun _ => .afterSeq .check <| .afterSeq .check <| .afterSeq .check <|
    .afterSeq .check (.loadCs ..)

protected theorem Ordinary.switchSs (sel : Half) : Ordinary (switchSs sel) :=
  .get_bind fun _ => .bind (.stackDescriptor (.raise ..) fun _ => .raise ..) fun _ => .loadStack ..

theorem Leads.switchSegments : Leads .legalProtected .legalProtected switchSegments :=
  .get_bind fun s hs => .ite
    (fun _ => .modify fun _ h => ⟨h.pe.trans hs.pe, fun _ => rfl⟩)
    fun hv => Leads.weaken (P := .plain) (Q := .plain)
      (.seq (.switchCs _) <| .afterSeq (.switchSs _) <| Ordinary.leads <| .seq (.loadDataSeg fun _ => .raise ..) <|
        .seq (.loadDataSeg fun _ => .raise ..) <| .seq (.loadDataSeg fun _ => .raise ..) (.loadDataSeg fun _ => .raise ..))
      (fun _ h => ⟨h.pe.trans hs.pe, h.vm.trans (by simpa using hv)⟩) fun _ h => h.legalProtected

theorem Leads.switchCr3 (base : Word) : Leads .legalProtected .legalProtected (switchCr3 base) :=
  .get_any fun _ => .ite (fun _ => .after (.linRead ..) fun _ => .modify fun _ h => ⟨h.pe, h.cpl⟩) fun _ => Ordinary.leads (.pure _)

/-- The incoming EFLAGS decide the mode of the new task, and CPL with it. -/
theorem State.LegalProtected.incoming {s : State} (h : s.LegalProtected) (kind : SwitchKind) (flags eip : Word) (regs : Regs) (ldt : Half)
    (sels : List Half) : (s.incoming kind flags eip regs ldt sels).LegalProtected :=
  ⟨h.pe, fun hv => if_pos hv⟩

theorem Leads.load386 (base : Word) (kind : SwitchKind) : Leads .legalProtected .legalProtected (load386 base kind) :=
  .after (.linRead ..) fun _ => .seq (.switchCr3 base) <| .after (.linRead ..) fun _ => .after (.linRead ..) fun _ =>
    .after (.readItems ..) fun _ => .after (.readItems ..) fun _ => .after (.linRead ..) fun _ =>
      .seq (.modify fun _ h => h.incoming ..) (Ordinary.leads (.pure _))

theorem Leads.load286 (base : Word) (kind : SwitchKind) : Leads .legalProtected .legalProtected (load286 base kind) :=
  .after (.linRead ..) fun _ => .after (.linRead ..) fun _ => .after (.linRead ..) fun _ => .after (.readItems ..) fun _ =>
    .after (.readItems ..) fun _ => .seq (.modify fun _ h => h.incoming ..) (Ordinary.leads (.pure _))

theorem pe_of_or_ts {s t : State} (h : t.cr0 = s.cr0 ||| 8) : t.pe = s.pe := by
  unfold State.pe
  rw [h, BitVec.getLsbD_or]
  simp

theorem Leads.enterTask (nsel : Half) (t : Descriptor) (kind : SwitchKind) :
    Leads .legalProtected .legalProtected (enterTask nsel t kind) :=
  .seq (Q := .legalProtected) (.modify fun _ h => ⟨(pe_of_or_ts rfl).trans h.pe, h.cpl⟩) <|
    .ite_bind (.load386 ..) (.load286 ..) fun _ => .get_any fun _ => .afterSeq (.switchLdt _) <|
      .seq .switchSegments <| .afterSeq (.modify fun _ => by constructor <;> rfl) (Ordinary.leads (.get_bind fun _ => .check))

protected theorem Ordinary.leaveTask (nsel : Half) (t : Descriptor) (kind : SwitchKind) (savedEip image : Word) :
    Ordinary (leaveTask nsel t kind savedEip image) := by
  refine .get_bind fun s => .bind (.linRead ..) fun _ => .seq (.saveTask ..) ?_
  cases kind with
  | jmp => exact .seq (.writeAccessByte ..) (.writeAccessByte ..)
  | call | int => exact .seq (.linWrite ..) (.writeAccessByte ..)
  | iret => exact .seq (.writeAccessByte ..) (.pure _)

theorem Leads.taskSwitch (nsel : Half) (t : Descriptor) (kind : SwitchKind) (savedEip image : Word) :
    Leads .legalProtected .legalProtected (taskSwitch nsel t kind savedEip image) :=
  .afterSeq .check <| .afterSeq (.lockedIf (.leaveTask ..)) (Leads.committed (.enterTask ..))

protected theorem Ordinary.gateTask (tsel : Half) : Ordinary (gateTask tsel) :=
  .seq .check <| .bind (.needDescriptor (.raise ..)) fun _ => .seq .check <| .seq .check (.pure _)

theorem Leads.farSwitch (call : Bool) (tsel : Half) (t : Descriptor) : Leads .legalProtected .legalProtected (farSwitch call tsel t) :=
  .get_any fun _ => .taskSwitch ..

theorem Leads.toTss (call : Bool) (sel : Half) (t : Descriptor) : Leads .legalProtected .legalProtected (toTss call sel t) :=
  .get_any fun _ => .afterSeq .check <| .afterSeq .check <| .afterSeq .check (.farSwitch ..)

theorem Leads.throughTaskGate (call : Bool) (gsel : Half) (g : Descriptor) :
    Leads .legalProtected .legalProtected (throughTaskGate call gsel g) :=
  .get_any fun _ => .afterSeq .check <| .afterSeq .check <| .after (.gateTask _) fun _ => .farSwitch ..

/-! Far CALL, JMP and RET. -/

theorem Leads.farTarget (call : Bool) (sel : Half) (off : Word) : Leads .plain .legalProtected (farTarget call sel off) := by
  have code {x : M Unit} (h : Leads .plain .plain x) : Leads .plain .legalProtected x :=
    h.weaken (fun _ k => k) fun _ k => k.legalProtected
  have task {x : M Unit} (h : Leads .legalProtected .legalProtected x) : Leads .plain .legalProtected x := h.of fun _ k => k.legalProtected
  refine .afterSeq .check <| .after (.needDescriptor (.raise ..)) fun d => ?_
  split
  · exact .ite (fun _ => code (.lockedIf (.directCode ..))) fun _ => code (Ordinary.raise ..).leads
  · exact task (.toTss ..)
  · exact code (.throughGate ..)
  · exact task (.throughTaskGate ..)
  · exact task (.toTss ..)
  · exact code (.throughGate ..)
  · exact code (Ordinary.raise ..).leads

theorem Leads.farTransfer (call : Bool) (sel : Half) (off : Word) : Leads .anyLegal .anyLegal (farTransfer call sel off) :=
  .get_bind fun s hs => .ite
    (fun hp => by
      have plain : s.Plain := by
        cases call with
        | false => exact State.plain_of_prot hp
        | true => exact State.plain_of_transferProt hp
      exact (Leads.farTarget call sel off).weaken (fun _ h => h.plain plain) fun _ h => h.modeLegal)
    fun _ => (Ordinary.far8086 ..).leads.of fun _ h => h.modeLegal hs

theorem Leads.farIndirect (call : Bool) (m : RM) : Leads .anyLegal .anyLegal (farIndirect call m) :=
  .after (.memOperand m) fun x => .after (.farPointer x) fun _ => .farTransfer ..

theorem Leads.farRet (imm : Word) : Leads .anyLegal .anyLegal (farRet imm) :=
  .get_bind fun _ hs => .ite
    (fun hp => (Leads.farReturn imm).weaken (fun _ h => h.plain (State.plain_of_transferProt hp)) fun _ h => h.legalProtected.modeLegal)
    fun _ => (Ordinary.farReturn8086 imm).leads.of fun _ h => h.modeLegal hs

/-! IRET. -/

protected theorem Ordinary.iret8086 : Ordinary iret8086 :=
  .get_bind fun _ => .seq (.checkStackTop _) <| .bind (.stackRead ..) fun _ => .bind (.stackRead ..) fun _ =>
    .bind (.stackRead ..) fun _ => .seq (.checkTarget _) (.modify fun _ => by constructor <;> simp [State.loadFlags_vm])

theorem Leads.iretTask : Leads .plain .legalProtected iretTask :=
  .get_any fun _ => .after (.linRead ..) fun _ => .afterSeq .check <| .after (.needDescriptor (.raise ..)) fun _ =>
    .afterSeq .check <| .afterSeq .check <| (Leads.taskSwitch ..).of fun _ h => h.legalProtected

/-- The return to Virtual 8086 mode sets CPL to 3. -/
theorem Leads.iretV86 (newEip csImage image : Word) : Leads .plain .legalProtected (iretV86 newEip csImage image) :=
  .afterSeq (.checkStackTop _) <| .after (.stackRead ..) fun _ => .after (.stackRead ..) fun _ => .after (.stackRead ..) fun _ =>
    .after (.stackRead ..) fun _ => .after (.stackRead ..) fun _ => .after (.stackRead ..) fun _ =>
      .modify fun _ h => ⟨h.pe, fun _ => rfl⟩

/-- The return within Protected Mode keeps VM clear, whatever the image says. -/
theorem Leads.iretCode (newEip csImage image : Word) (w : Nat) : Leads .plain .plain (iretCode newEip csImage image w) :=
  .get_bind fun s hs =>
    have flags : Leads .plain .plain (modify fun t => { t with flags := s.loadFlags image (w == 4) }) :=
      .modify fun _ h => ⟨h.pe, (s.loadFlags_vm ..).trans hs.vm⟩
    Leads.of (P := .plain) (.after (.returnDescriptor _) fun _ => .ite
      (fun _ => .afterSeq (.checkOffset ..) <| .seq (.returnCs ..) <| .afterSeq (.modify fun _ => by constructor <;> simp) flags)
      fun _ => .seq (.lockedIf (.returnOuter ..)) flags) fun _ h => h.plain hs

theorem Leads.iretProt : Leads .plain .legalProtected iretProt :=
  .get_any fun _ => .afterSeq (.checkStackTop _) <| .after (.stackRead ..) fun _ => .after (.stackRead ..) fun _ =>
    .after (.stackRead ..) fun _ => .ite (fun _ => .iretV86 ..) fun _ =>
      (Leads.iretCode ..).weaken (fun _ h => h) fun _ h => h.legalProtected

theorem Leads.iretBody : Leads .anyLegal .anyLegal iretBody :=
  have done {P : ModeCond} : Leads P .anyLegal (modify fun t => { t with nmiInService := false }) :=
    .modify fun t h => (P.legal t h).congr rfl rfl rfl rfl
  .get_bind fun s hs => .afterSeq .requireV86Iopl <| .ite (fun _ => .seq Ordinary.iret8086.leads done) fun hp =>
    have plain : s.Plain := State.plain_of_transferProt (by simpa using hp)
    Leads.of (P := .plain) (.ite (fun _ => .seq .iretTask done) fun _ => .seq .iretProt done) fun _ h => h.plain plain

/-! Entries to handlers. -/

theorem Leads.enterHandler (csel : Half) (c : Descriptor) (n : BitVec 2) (off : Word) (ig : Bool) :
    Leads .plain .plain (enterHandler csel c n off ig) := .seq (.loadCs ..) (.modify fun _ h => ⟨h.pe, rfl⟩)

theorem Leads.sameEntry (e : Event) (savedEip : Word) (g c : Descriptor) (w : Nat) : Leads .plain .plain (sameEntry e savedEip g c w) :=
  .get_any fun _ => .afterSeq (.checkRoom ..) <| .afterSeq (.checkOffset ..) <| .afterSeq (.pushAll ..) (.enterHandler ..)

protected theorem Ordinary.checkNewRoom (r : SegReg) (newEsp : Word) (n w : Nat) : Ordinary (checkNewRoom r newEsp n w) := .check

theorem Leads.innerEntry (e : Event) (savedEip : Word) (g c : Descriptor) (w : Nat) : Leads .plain .plain (innerEntry e savedEip g c w) :=
  .get_any fun _ => .after (.innerStack _) fun _ => .afterSeq (.checkNewRoom ..) <| .afterSeq (.checkOffset ..) <|
    .afterSeq (.loadStack ..) <| .seq (.setLevel ..) <| .afterSeq (.pushAll ..) (.enterHandler ..)

/-- The entry from Virtual 8086 mode clears VM together with CPL. -/
theorem Leads.v86Entry (e : Event) (savedEip : Word) (g c : Descriptor) : Leads .legalProtected .plain (v86Entry e savedEip g c) := by
  refine .get_any fun s => .afterSeq .check ?_
  cases g.isGate386 with
  | false => exact .throw_bind _ _
  | true =>
    exact .after (.innerStack _) fun _ => .afterSeq (.checkNewRoom ..) <| .afterSeq (.checkOffset ..) <|
      .seq (Q := .plain) (.modify fun _ h => ⟨h.pe, rfl⟩) <| .afterSeq (.loadStack ..) <| .afterSeq (.modify fun _ => .setReg) <|
        .afterSeq (.pushAll ..) <| .afterSeq (.modify fun _ => by constructor <;> rfl) <| .afterSeq (.pushAll ..) (.enterHandler ..)

theorem Leads.taskEntry (e : Event) (savedEip : Word) (g : Descriptor) : Leads .legalProtected .legalProtected (taskEntry e savedEip g) :=
  .get_any fun _ => .after (.gateTask _) fun _ => .seq (.taskSwitch ..) <|
    Leads.committed (Ordinary.leads (.seq (.checkRoom ..) (.pushAll ..)))

theorem Leads.gateEntry (e : Event) (savedEip : Word) (g : Descriptor) : Leads .legalProtected .plain (gateEntry e savedEip g) :=
  .get_bind fun s hs => .afterSeq .check <| .after (.needDescriptor (.raise ..)) fun _ => .afterSeq .check <| .afterSeq .check <|
    .afterSeq .check <| .lockedIf <| .ite (fun _ => (Leads.v86Entry ..).of fun _ h => h.legalProtected hs) fun hv =>
      have plain : s.Plain := ⟨hs.pe, by simpa [State.v86, hs.pe] using hv⟩
      Leads.of (P := .plain) (.ite (fun _ => .innerEntry ..) fun _ => .sameEntry ..) fun _ h => h.plain plain

theorem Leads.protEntry (e : Event) (savedEip : Word) : Leads .legalProtected .legalProtected (protEntry e savedEip) :=
  .get_any fun _ => .afterSeq .check <| .after (.linDescriptor _) fun _ => .afterSeq .check <| .afterSeq .check <| .afterSeq .check <|
    .ite (fun _ => .taskEntry ..) fun _ => (Leads.gateEntry ..).weaken (fun _ h => h) fun _ h => h.legalProtected

protected theorem Ordinary.realEntry (e : Event) (savedEip : Word) : Ordinary (realEntry e savedEip) :=
  .get_bind fun _ => .seq .check <| .bind (.linRead ..) fun _ => .bind (.linRead ..) fun _ => .seq (.checkRoom ..) <| .seq (.push ..) <|
    .seq (.push ..) <| .seq (.push ..) (.modify fun _ => by constructor <;> rfl)

theorem State.pe_of_entryProt {s : State} {e : Event} (h : s.entryProt e = true) : s.pe = true := (Bool.and_eq_true_iff.mp h).1

theorem Leads.entry (e : Event) (savedEip : Word) : Leads .anyLegal .anyLegal (entry e savedEip) :=
  .get_bind fun _ hs => .ite
    (fun hp => (Leads.protEntry ..).weaken (fun _ h => h.legalProtected (State.modeLegal.legalProtected hs (State.pe_of_entryProt hp)))
      fun _ h => h.modeLegal)
    fun _ => (Ordinary.realEntry ..).leads.of fun _ h => h.modeLegal hs

end Sys2Proof.Machine
end

section
/-!
Outcomes: what a delivery, an instruction, a boundary and a step answer. From a legal mode each leads to a legal mode.
-/
namespace Sys2Proof.Machine

open Sys2Proof

/-- The state that the outcome leads to, if any, has a legal mode. -/
def LegalResult (r : Result) : Prop := ∀ t, r = .next t → t.modeLegal

theorem LegalResult.next {t : State} (h : t.modeLegal) : LegalResult (.next t) := fun _ k => by cases k; exact h

theorem LegalResult.refused (r : Refusal) : LegalResult (.refused r) := fun _ k => nomatch k

theorem State.shut_modeLegal {s : State} (hs : s.modeLegal) : s.shut.modeLegal := hs.congr rfl rfl rfl rfl

theorem State.entered_modeLegal {s : State} (hs : s.modeLegal) (e : Event) : (s.entered e).modeLegal := hs.congr rfl rfl rfl rfl

theorem State.complete_modeLegal {s : State} (hs : s.modeLegal) : s.complete.modeLegal := hs.congr rfl rfl rfl rfl

/-- Every attempt at an entry, and what follows one that fails, leaves a legal mode. -/
theorem deliverWith_legal (n : Nat) (e : Event) (savedEip : Word) {s : State} (hs : s.modeLegal) :
    LegalResult (deliverWith n e savedEip s) := by
  induction n generalizing e savedEip s with
  | zero => exact .next (State.shut_modeLegal hs)
  | succ n ih =>
    have ht := (Leads.entry e savedEip).endState_modeLegal hs
    unfold deliverWith
    split <;> rename_i hx <;> rw [hx] at ht
    · exact .next (State.entered_modeLegal ht e)
    · exact .refused _
    · exact .next (State.busStop_modeLegal (State.rollback_modeLegal hs _) _)
    · rename_i x keep t
      have hb : (if keep then t else s.rollback t).modeLegal := by
        cases keep with
        | true => exact ht
        | false => exact State.rollback_modeLegal hs t
      dsimp only
      split
      · exact .next (State.shut_modeLegal hb)
      · exact ih _ _ hb

theorem deliver_legal (e : Event) (savedEip : Word) {s : State} (hs : s.modeLegal) : LegalResult (deliver e savedEip s) :=
  deliverWith_legal 5 e savedEip hs

theorem stopped_legal {s t : State} (hs : s.modeLegal) (ht : t.modeLegal) (e : Stop) : LegalResult (stopped s t e) := by
  cases e with
  | exc x keep =>
    cases keep with
    | true => exact deliver_legal _ _ ht
    | false => exact deliver_legal _ _ (State.rollback_modeLegal hs t)
  | refuse r => exact .refused r
  | bus b => exact .next (State.busStop_modeLegal (State.rollback_modeLegal hs t) b)

theorem perform_legal {body : M Unit} (h : Leads .anyLegal .anyLegal body) {s : State} (hs : s.modeLegal) :
    LegalResult (perform body s) := by
  intro t hp
  have hu := h.endState_modeLegal (s := s) hs
  rcases perform_next hp with ⟨u, hb, rfl⟩ | ⟨u, e, hb, hst⟩ <;> rw [hb] at hu
  · exact State.complete_modeLegal hu
  · exact stopped_legal hs hu e t hst

theorem instr_legal {body : M Unit} (h : Leads .anyLegal .anyLegal body) {s : State} (hs : s.modeLegal) : LegalResult (instr body s) :=
  perform_legal (.afterSeq .noLock h) hs

theorem OrdinaryRun.legal {s : State} {r : Result} (h : OrdinaryRun s r) (hs : s.modeLegal) : LegalResult r := by
  obtain ⟨body, hb, rfl⟩ := h
  exact perform_legal hb.leads hs

theorem interruptAfter_legal {pre : M Unit} (h : Ordinary pre) (vec : Byte) {s : State} (hs : s.modeLegal) :
    LegalResult (interruptAfter pre vec s) := by
  have hu := (Ordinary.leads (P := .anyLegal) (.seqRight .noLock h)).endState_modeLegal hs
  unfold interruptAfter
  split <;> rename_i hx <;> rw [hx] at hu
  · exact deliver_legal _ _ hu
  · exact stopped_legal hs hu _

/-! The instructions that change what the others keep. -/

/-- A change that keeps modes legal, and the end of the instruction. -/
theorem Leads.change {P : ModeCond} {k : State → State} (h : ∀ s, P.holds s → (k s).modeLegal) : Leads P .anyLegal (change k) :=
  .seq (Q := .anyLegal) (.modify h) (Ordinary.leads .advance)

theorem Leads.halt : Leads .anyLegal .anyLegal halt := .afterSeq .requireCpl0 (.change fun _ h => State.modeLegal.congr h rfl rfl rfl rfl)

theorem Leads.loadTable {m : RM} {k : TableReg → State → State} (hk : ∀ x s, s.modeLegal → (k x s).modeLegal) :
    Leads .anyLegal .anyLegal (loadTable m k) :=
  .afterSeq (.raiseIf (.raise ..)) <| .afterSeq .requireCpl0 <| .after (.memOperand m) fun _ => .get_any fun _ =>
    .after (.memRead ..) fun _ => .after (.memRead ..) fun _ => .seq (Q := .anyLegal) (.modify (hk _)) (Ordinary.leads .advance)

theorem Leads.moveToDr (d : DReg) (r : Reg) : Leads .anyLegal .anyLegal (moveToDr d r) :=
  .afterSeq .requireCpl0 <| .afterSeq .debugAccess <|
    .change fun _ h => by cases d <;> exact State.modeLegal.congr h rfl rfl rfl rfl

theorem Leads.moveToTr (x : TReg) (r : Reg) : Leads .anyLegal .anyLegal (moveToTr x r) :=
  .afterSeq .requireCpl0 <| .get_any fun s => .ite (fun _ => .throw_bind _ _) fun _ =>
    .change fun _ h => by cases x <;> exact State.modeLegal.congr h rfl rfl rfl rfl

/-- CLTS clears TS alone. -/
theorem Leads.clearTaskSwitched : Leads .anyLegal .anyLegal clearTaskSwitched :=
  .afterSeq .requireCpl0 <| .change fun _ h => State.modeLegal.congr h (by simp [State.pe]) (by simp [State.pg]) rfl rfl

theorem lmswValue_pe (cr0 : Word) (v : Half) : (lmswValue cr0 v).getLsbD 0 = (cr0.getLsbD 0 || v.getLsbD 0) := by
  simp [lmswValue]

theorem lmswValue_pg (cr0 : Word) (v : Half) : (lmswValue cr0 v).getLsbD 31 = cr0.getLsbD 31 := by
  simp [lmswValue]

theorem State.keepMode_eq (s : State) (v : Word) : s.keepMode v = { s with queuedMode := (s.keepMode v).queuedMode } := by
  unfold State.keepMode
  split <;> rfl

/-- LMSW sets PE and does not clear it, and leaves PG alone. -/
theorem State.modeLegal.lmsw {s : State} (hs : s.modeLegal) (v : Half) :
    State.modeLegal { s.keepMode (lmswValue s.cr0 v) with cr0 := lmswValue s.cr0 v } := by
  rw [State.keepMode_eq]
  refine ⟨fun hp => ?_, hs.2⟩
  have hpe : s.pe = false := (Bool.or_eq_false_iff.mp ((lmswValue_pe s.cr0 v).symm.trans hp)).1
  obtain ⟨hvm, hcpl, hpg⟩ := hs.1 hpe
  exact ⟨hvm, hcpl, (lmswValue_pg s.cr0 v).trans hpg⟩

theorem Leads.lmswBody (m : RM) : Leads .anyLegal .anyLegal (lmswBody m) :=
  .afterSeq .requireCpl0 <| .after (.readRM ..) fun _ => .seq (Q := .anyLegal) (.modify fun _ h => State.modeLegal.lmsw h _)
    (Ordinary.leads .advance)

theorem State.cr0Value_pe (s : State) (v : Word) : (s.cr0Value v).getLsbD 0 = v.getLsbD 0 := by
  unfold State.cr0Value
  split <;> simp

theorem State.cr0Value_pg (s : State) (v : Word) : (s.cr0Value v).getLsbD 31 = v.getLsbD 31 := by
  unfold State.cr0Value
  split <;> simp

theorem State.setCreg_cr0_fields (s : State) (v : Word) :
    (s.setCreg .cr0 v).cr0 = s.cr0Value v ∧ (s.setCreg .cr0 v).flags = s.flags ∧ (s.setCreg .cr0 v).cpl = s.cpl := by
  unfold State.setCreg
  dsimp only
  rw [State.keepMode_eq]
  split <;> exact ⟨rfl, rfl, rfl⟩

/-- A value of CR0 that does not set PG without PE leaves a legal mode where the privileged instructions run. -/
theorem State.Supervisor.setCreg {s : State} (hs : s.Supervisor) {c : CReg} {v : Word} (hv : badCr0 c v = false) :
    (s.setCreg c v).modeLegal := by
  cases c with
  | cr2 => exact hs.legal.congr rfl rfl rfl rfl
  | cr3 =>
    unfold State.setCreg
    dsimp only
    split <;> exact hs.legal.congr rfl rfl rfl rfl
  | cr0 =>
    obtain ⟨hcr0, hflags, hcpl⟩ := s.setCreg_cr0_fields v
    unfold State.modeLegal State.pe State.pg
    rw [hcr0, hflags, hcpl, hs.vm, hs.cpl, s.cr0Value_pe, s.cr0Value_pg]
    refine ⟨fun hpe => ⟨rfl, rfl, ?_⟩, fun h => nomatch h⟩
    rw [badCr0, hpe] at hv
    simpa using hv

theorem Leads.moveToCr (c : CReg) (r : Reg) : Leads .anyLegal .anyLegal (moveToCr c r) :=
  .seq .requireCpl0 <| .get_bind fun s hs => .check fun hv => .ite (fun _ => .throw_bind _ _) fun _ =>
    .change fun t ht =>
      have now : t.Supervisor := ModeCond.supervisor.kept s t hs ht
      State.modeLegal.congr (now.setCreg hv) rfl rfl rfl rfl

/-- Every instruction leads from a legal mode to a legal mode. -/
theorem exec_legal (i : Instr) {s : State} (hs : s.modeLegal) : LegalResult (exec i s) := by
  cases hi : ChangesSystem i with
  | false => exact (exec_ordinary i hi s).legal hs
  | true =>
    cases i
    case callFar | jmpFar => exact instr_legal (.farTransfer ..) hs
    case callFarMem | jmpFarMem => exact instr_legal (.farIndirect ..) hs
    case retf | retfImm => exact instr_legal (.farRet _) hs
    case iret => exact instr_legal .iretBody hs
    case intN imm => exact interruptAfter_legal .requireV86Iopl imm hs
    case int3 => exact interruptAfter_legal (.pure ()) 3 hs
    case into =>
      show LegalResult (execInto s)
      unfold execInto
      split
      · exact interruptAfter_legal (.pure ()) 4 hs
      · exact instr_legal (Ordinary.leads .advance) hs
    case movCrReg => exact instr_legal (.moveToCr ..) hs
    case movDrReg => exact instr_legal (.moveToDr ..) hs
    case movTrReg => exact instr_legal (.moveToTr ..) hs
    case lgdt | lidt => exact instr_legal (.loadTable fun _ _ h => by exact h.congr rfl rfl rfl rfl) hs
    case lmsw => exact instr_legal (.lmswBody _) hs
    case clts => exact instr_legal .clearTaskSwitched hs
    case hlt => exact instr_legal .halt hs
    case pfxAddrSize | pfxLock | pfxOpSize | pfxCs | pfxDs | pfxEs | pfxFs | pfxGs | pfxSs | pfxRep | pfxRepne =>
      exact .next (hs.congr rfl rfl rfl rfl)
    all_goals exact nomatch hi

/-! The boundary: the environment, the fetch, and the events that are delivered. -/

protected theorem Ordinary.fetchInstr (c : Ctx) (off : Word) (room : Nat) (bs : List Byte) : Ordinary (fetchInstr c off room bs) := by
  induction room generalizing bs with
  | zero =>
    unfold Machine.fetchInstr
    split
    · exact .raise ..
    · rename_i h
      cases h
    · exact .pure _
  | succ room ih =>
    unfold Machine.fetchInstr
    split
    · rename_i h
      cases h
    · rename_i h
      cases h
      exact .bind (.fetchByte _) fun _ => ih _
    · exact .pure _

/-- What is left of a page that is translated ahead is an ordinary change. -/
theorem State.SystemKept.prefetchAt {s t : State} {off : Word} (h : s.prefetchAt off = some t) : s.SystemKept t := by
  have ht := (Ordinary.translate (s.linear .cs off) false s.user).keeps s
  unfold State.prefetchAt at h
  split at h <;> rename_i hx <;> cases h
  rw [hx] at ht
  exact ht

theorem State.SystemKept.prefetched (s : State) (next : Word) : s.SystemKept (s.prefetched next) := by
  unfold State.prefetched
  dsimp only
  split
  · split
    · exact .refl s
    · split
      · exact .refl s
      · rename_i t ht
        have first : s.SystemKept t := .prefetchAt ht
        cases hu : t.prefetchAt (next + BitVec.ofNat 32 (Config.prefetchDepth s.freeIdx % (queueDepth + 1) - 1)) with
        | none => exact first
        | some u => exact first.trans (.prefetchAt hu)
  · exact .refl s

protected theorem Ordinary.fetch : Ordinary fetch :=
  .get_bind fun s => .bind (.fetchInstr ..) fun d => by
    cases d with
    | instr i len => exact .seq (.modify fun t => .prefetched t _) (.pure _)
    | reject r => exact .pure _
    | more => exact .pure _

theorem State.rejected_legal {s t : State} (hs : s.modeLegal) (ht : t.modeLegal) {body : M Unit} (h : Ordinary body) :
    LegalResult (s.rejected t body) := by
  have hu := (Ordinary.leads (P := .anyLegal) (.seqRight .noLock h)).endState_modeLegal ht
  unfold State.rejected
  split <;> rename_i hx <;> rw [hx] at hu
  · exact .next (State.complete_modeLegal hu)
  · exact stopped_legal hs hu _

theorem State.runDecoded_legal {s t : State} (hs : s.modeLegal) (ht : t.modeLegal) (d : Decoded) : LegalResult (s.runDecoded t d) := by
  cases d with
  | instr i len => exact exec_legal i (ht.congr rfl rfl rfl rfl)
  | more => exact stopped_legal hs ht (.exc _ false)
  | reject r =>
    cases r with
    | undefinedOpcode => exact State.rejected_legal hs ht (.raise ..)
    | specialCode => exact State.rejected_legal hs ht (.seqRight .requireCpl0 (.raise ..))
    | setccField => exact State.rejected_legal hs ht (.refuse _)
    | specialMod | cr1 | dr45 => exact State.rejected_legal hs ht (.seqRight .requireCpl0 (.refuse _))

theorem State.runNext_legal {s : State} (hs : s.modeLegal) : LegalResult s.runNext := by
  have ht := (Ordinary.fetch.leads (P := .anyLegal)).endState_modeLegal hs
  unfold State.runNext
  split <;> rename_i hx <;> rw [hx] at ht
  · exact State.runDecoded_legal hs ht _
  · exact stopped_legal hs ht _

theorem maskIntr_legal {r : Result} (h : LegalResult r) : LegalResult (maskIntr r) := by
  cases r with
  | next s => exact .next ((h s rfl).congr rfl rfl rfl rfl)
  | fault f => exact fun _ k => nomatch k
  | refused r => exact .refused r

theorem State.takeNmi_modeLegal {s : State} (hs : s.modeLegal) : s.takeNmi.modeLegal := hs.congr rfl rfl rfl rfl

protected theorem Ordinary.acknowledge : Ordinary acknowledge :=
  .seq .busTurn <| .seq (.modify fun _ => by constructor <;> rfl) <| .seq .cycleTurn (.modify fun _ => by constructor <;> rfl)

theorem State.takeIntr_legal {s : State} (hs : s.modeLegal) : LegalResult s.takeIntr := by
  have ht := (Ordinary.acknowledge.leads (P := .anyLegal)).endState_modeLegal hs
  unfold State.takeIntr
  split <;> rename_i hx <;> rw [hx] at ht
  · exact deliver_legal _ _ ht
  · exact stopped_legal ht ht _

theorem State.nmiInShutdown_legal {s : State} (hs : s.modeLegal) : LegalResult s.nmiInShutdown := by
  have hn := State.takeNmi_modeLegal hs
  have ht := (Leads.entry nmiEvent s.eip).endState_modeLegal hn
  unfold State.nmiInShutdown
  split
  · exact .next hn
  · split <;> rename_i hx <;> rw [hx] at ht
    · exact .next (State.modeLegal.congr ht rfl rfl rfl rfl)
    · exact .refused _
    · exact .next (State.busStop_modeLegal (State.rollback_modeLegal hn _) _)
    · exact .next (State.rollback_modeLegal hn _)

theorem State.takeEscDue_legal {s : State} (hs : s.modeLegal) (x : Exc) : LegalResult (s.takeEscDue x) := by
  unfold State.takeEscDue
  dsimp only
  split <;> exact deliver_legal _ _ (hs.congr rfl rfl rfl rfl)

theorem State.settle_modeLegal {s : State} (hs : s.modeLegal) : s.settle.modeLegal := by
  unfold State.settle
  split <;> exact hs.congr rfl rfl rfl rfl

theorem State.proceed_legal {s : State} (hs : s.modeLegal) : LegalResult s.proceed := by
  unfold State.proceed
  split
  · exact deliver_legal _ _ (hs.congr rfl rfl rfl rfl)
  · exact State.runNext_legal (State.settle_modeLegal hs)

theorem State.ordinary_legal {s : State} (hs : s.modeLegal) : LegalResult s.ordinary := by
  unfold State.ordinary
  split_ifs
  · exact deliver_legal _ _ (hs.congr rfl rfl rfl rfl)
  · exact maskIntr_legal (deliver_legal _ _ (State.takeNmi_modeLegal hs))
  · exact State.takeIntr_legal hs
  · exact .next hs
  · exact State.proceed_legal hs

theorem State.boundary_legal {s : State} (hs : s.modeLegal) : LegalResult s.boundary := by
  unfold State.boundary
  split_ifs
  · exact State.nmiInShutdown_legal hs
  · exact .next hs
  · split
    · exact State.takeEscDue_legal hs _
    · exact State.ordinary_legal hs

theorem State.itemFailed_modeLegal {s : State} (hs : s.modeLegal) (c : EscCommand) (x : Exc) : (s.itemFailed c x).modeLegal := by
  unfold State.itemFailed
  split <;> exact hs.congr rfl rfl rfl rfl

theorem State.pereq_modeLegal {s : State} (hs : s.modeLegal) (dword : Bool) (value : Word) : (s.pereq dword value).modeLegal := by
  unfold State.pereq
  split
  · rename_i c _ _
    have ht := ((Ordinary.transferItem c dword value).leads (P := .anyLegal)).endState_modeLegal hs
    split <;> rename_i hx <;> rw [hx] at ht
    · exact State.modeLegal.congr ht rfl rfl rfl rfl
    · exact State.busStop_modeLegal (State.rollback_modeLegal hs _) _
    · exact State.itemFailed_modeLegal (State.rollback_modeLegal hs _) _ _
    · exact State.rollback_modeLegal hs _
  · exact hs

theorem State.receive_modeLegal {s : State} (hs : s.modeLegal) (x : Stimulus) : (s.receive x).modeLegal := by
  cases x with
  | reset => exact s.resetEvent_modeLegal
  | pereq dword value =>
    unfold State.receive
    dsimp only
    split
    · exact hs
    · exact State.pereq_modeLegal hs _ _
  | intr | nmi | busy | error | dma | port | stall => exact hs.congr rfl rfl rfl rfl

theorem State.receiveAll_modeLegal {s : State} (hs : s.modeLegal) (xs : List Stimulus) : (s.receiveAll xs).modeLegal := by
  induction xs generalizing s with
  | nil => exact hs
  | cons x rest ih => exact ih (State.receive_modeLegal hs x)

theorem State.boundaryWith_legal {s : State} (hs : s.modeLegal) (xs : List Stimulus) : LegalResult (s.boundaryWith xs) := by
  have ht := State.receiveAll_modeLegal hs xs
  unfold State.boundaryWith
  dsimp only
  split
  · exact .next ht
  · exact State.boundary_legal ht

theorem State.modeLegal.withStimuli {s : State} (hs : s.modeLegal) (rest : List (List Stimulus)) :
    State.modeLegal { s with stimuli := rest } := hs.congr rfl rfl rfl rfl

theorem State.stalledCycle_legal {s : State} (hs : s.modeLegal) : LegalResult s.stalledCycle := by
  unfold State.stalledCycle
  split
  · exact fun _ k => nomatch k
  · exact .next (State.receiveAll_modeLegal (hs.withStimuli _) _)

theorem State.cycle_legal {s : State} (hs : s.modeLegal) : LegalResult s.cycle := by
  unfold State.cycle
  split_ifs
  · exact State.stalledCycle_legal hs
  · split
    · exact State.boundary_legal hs
    · exact State.boundaryWith_legal (hs.withStimuli _) _
  · exact State.runNext_legal hs

theorem step_legal {s : State} (hs : s.modeLegal) : LegalResult (step s) := by
  intro t ht
  unfold step at ht
  cases hc : s.cycle with
  | next u =>
    rw [hc] at ht
    cases ht
    exact State.modeLegal.congr (State.cycle_legal hs u hc) rfl rfl rfl rfl
  | fault f => rw [hc] at ht; cases ht
  | refused r => rw [hc] at ht; cases ht

/-- Settles O9: whatever computation a step runs leads from a legal mode to a legal mode. -/
theorem stepKeepsModesLegal : Obligations.StepKeepsModesLegal := fun _ _ hs ht => step_legal hs _ ht

end Sys2Proof.Machine
end

section
/-!
What a step does to memory, the TLB and CR3: bytes of physical memory are written, entries come into the TLB and leave it, and CR3 is loaded
with its low bits clear. A property that these few updates keep is kept by every computation and by every step; the canonical form of memory
is one.
-/
namespace Sys2Proof.Machine

open Sys2Proof

/-! The updates. -/

/-- A property of memory, one of the TLB and one of CR3, each kept by the updates that computations make. -/
structure StoreInvariant where
  mem : List Host.Cell → Prop
  tlb : List TlbEntry → Prop
  cr3 : Word → Prop
  cellPut : ∀ {cells a v}, mem cells → a < memSize → mem (cellPut cells a v)
  flushed : tlb []
  filtered : ∀ {entries} p, tlb entries → tlb (entries.filter p)
  cached : ∀ {s : State} e, tlb s.tlb → tlb (s.cacheEntry e).tlb
  masked : ∀ v, cr3 (v &&& 0xFFFFF000)

variable {I : StoreInvariant}

/-- The three properties hold in the state. -/
structure StoreInvariant.Holds (I : StoreInvariant) (s : State) : Prop where
  mem : I.mem s.mem
  tlb : I.tlb s.tlb
  cr3 : I.cr3 s.cr3

/-- What the property speaks of. -/
def State.store (s : State) : List Host.Cell × List TlbEntry × Word := (s.mem, s.tlb, s.cr3)

/-- Addresses of bytes of physical memory. -/
def InMemory (keys : List Nat) : Prop := ∀ k ∈ keys, k < memSize

theorem StoreInvariant.Holds.congr {s t : State} (h : I.Holds s) (k : t.store = s.store) : I.Holds t := by
  obtain ⟨hmem, hrest⟩ := Prod.mk.inj k
  obtain ⟨htlb, hcr3⟩ := Prod.mk.inj hrest
  exact ⟨hmem ▸ h.mem, htlb ▸ h.tlb, hcr3 ▸ h.cr3⟩

theorem StoreInvariant.Holds.writeKeys {s : State} {keys : List Nat} {v : Word} (h : I.Holds s) (hk : InMemory keys) :
    I.Holds (s.writeKeys keys v) := by
  induction keys generalizing s v with
  | nil => exact h
  | cons a rest ih =>
    exact ih ⟨I.cellPut h.mem (hk a (by simp)), h.tlb, h.cr3⟩ fun k hr => hk k (by simp [hr])

theorem StoreInvariant.Holds.withBus {s : State} (h : I.Holds s) (rest : List BusTurn) : I.Holds (s.withBus rest) :=
  ⟨h.mem, h.tlb, h.cr3⟩

theorem StoreInvariant.Holds.mastered {s : State} (h : I.Holds s) (writes : List (BitVec 24 × Byte)) : I.Holds (s.mastered writes) := by
  induction writes generalizing s with
  | nil => exact h
  | cons w rest ih => exact ih ⟨I.cellPut h.mem (BitVec.isLt _), h.tlb, h.cr3⟩

theorem StoreInvariant.Holds.between {s : State} (h : I.Holds s) : I.Holds s.between := by
  unfold State.between
  split
  · exact h
  · split
    · exact h
    · split
      · exact (h.withBus _).mastered _
      · exact h

theorem StoreInvariant.Holds.updateKeys {s : State} {w : Width} {keys : List Nat} {k : BitVec w.bits → Flags → BitVec w.bits × Flags}
    (h : I.Holds s) (hk : InMemory keys) : I.Holds (s.updateKeys w keys k) :=
  (h.between.writeKeys hk).congr rfl

theorem State.inMemory_physKeys (s : State) (pa : Word) (nb : Nat) : InMemory (s.physKeys pa nb) := (s.physKeys_spec pa nb).1

theorem StoreInvariant.Holds.markEntry {s : State} (h : I.Holds s) (pa bits : Word) : I.Holds (s.markEntry pa bits) := by
  unfold State.markEntry
  dsimp only
  split
  · exact h
  · exact h.writeKeys (s.inMemory_physKeys pa 4)

/-- A state put back keeps what has been stored (60_exceptions.md R1057). -/
theorem StoreInvariant.Holds.rollback {s t : State} (hs : I.Holds s) (ht : I.Holds t) : I.Holds (s.rollback t) :=
  ⟨ht.mem, ht.tlb, hs.cr3⟩

theorem StoreInvariant.Holds.resetEvent {s : State} (h : I.Holds s) : I.Holds s.resetEvent := ⟨h.mem, I.flushed, I.masked 0⟩

theorem StoreInvariant.Holds.busStop {s : State} (h : I.Holds s) (b : BusStop) : I.Holds (s.busStop b) := by
  cases b with
  | reset => exact h.resetEvent
  | stall => exact ⟨h.mem, h.tlb, h.cr3⟩

/-! Computations. -/

variable {α β : Type}

/-- However the computation ends, the invariant still holds. -/
structure Guards (I : StoreInvariant) (x : M α) : Prop where
  keeps : Keeps (fun s t => I.Holds s → I.Holds t) x

theorem Guards.endState {x : M α} (h : Guards I x) {s : State} (hs : I.Holds s) : I.Holds (endState (x s)) := h.keeps s hs

protected theorem Guards.bind {x : M α} {f : α → M β} (hx : Guards I x) (hf : ∀ a, Guards I (f a)) : Guards I (x >>= f) :=
  ⟨Keeps.bind (fun _ _ _ h k hs => k (h hs)) hx.keeps fun a => (hf a).keeps⟩

theorem Guards.seq {x : M α} {y : M β} (hx : Guards I x) (hy : Guards I y) : Guards I (x >>= fun _ => y) := hx.bind fun _ => hy

theorem Guards.seqRight {x : M α} {y : M β} (hx : Guards I x) (hy : Guards I y) : Guards I (x *> y) := hx.seq hy

protected theorem Guards.pure (a : α) : Guards I (pure a : M α) := ⟨Keeps.pure (fun _ h => h) a⟩

theorem Guards.get_bind {f : State → M α} (h : ∀ s, Guards I (f s)) : Guards I (get >>= f) := ⟨fun s => (h s).keeps s⟩

protected theorem Guards.throw (e : Stop) : Guards I (throw e : M α) := ⟨Keeps.throw (fun _ h => h) e⟩

/-- What would follow a computation that stops does not matter. -/
theorem Guards.throw_bind (e : Stop) (f : α → M β) : Guards I ((throw e : M α) >>= f) := ⟨fun _ h => h⟩

protected theorem Guards.raise (v : Byte) (c : Option Half) : Guards I (raise v c : M α) := .throw _

protected theorem Guards.refuse (r : Refusal) : Guards I (refuse r : M α) := .throw _

protected theorem Guards.modify {k : State → State} (h : ∀ s, I.Holds s → I.Holds (k s)) : Guards I (modify k : M Unit) :=
  ⟨Keeps.modify h⟩

/-- A change that leaves memory, the TLB and CR3 alone. -/
theorem Guards.frame {k : State → State} (h : ∀ s : State, (k s).store = s.store) :
    Guards I (modify k : M Unit) := .modify fun s hs => hs.congr (h s)

protected theorem Guards.ite {c : Prop} [Decidable c] {x y : M α} (hx : Guards I x) (hy : Guards I y) :
    Guards I (if c then x else y) := ⟨Keeps.ite hx.keeps hy.keeps⟩

protected theorem Guards.raiseIf {c : Bool} {x : M Unit} (hx : Guards I x) : Guards I (raiseIf c x) :=
  ⟨Keeps.raiseIf (fun _ h => h) hx.keeps⟩

/-- A check that raises an exception at once. -/
theorem Guards.check {c : Bool} {v : Byte} {e : Option Half} : Guards I (Machine.raiseIf c (Machine.raise v e)) := .raiseIf (.raise v e)

protected theorem Guards.locked {x : M α} (hx : Guards I x) : Guards I (locked x) :=
  ⟨Keeps.locked (fun _ _ _ _ h (hs : I.Holds _) => StoreInvariant.Holds.withBus (h (hs.withBus _)) _) hx.keeps⟩

protected theorem Guards.lockedIf {c : Bool} {x : M α} (hx : Guards I x) : Guards I (lockedIf c x) := by
  cases c with
  | false => exact hx
  | true => exact hx.locked

protected theorem Guards.committed {x : M α} (h : Guards I x) : Guards I (committed x) := by
  refine ⟨fun s hs => ?_⟩
  have ht := h.endState hs
  unfold Machine.committed
  split <;> rename_i hx <;> rw [hx] at ht <;> exact ht

/-! Accesses to memory and ports. -/

protected theorem Guards.busTurn : Guards I busTurn := ⟨by
  intro s hs
  unfold Machine.busTurn
  cases s.bus with
  | nil => exact hs
  | cons x rest =>
    have ht : I.Holds ((s.withBus rest).mastered x.writes) := StoreInvariant.Holds.mastered (StoreInvariant.Holds.withBus hs rest) _
    obtain ⟨writes, stop⟩ := x
    cases stop <;> exact ht⟩

protected theorem Guards.cycleTurn : Guards I cycleTurn := .locked .busTurn

protected theorem Guards.pageFault (la : Word) (p w u : Bool) : Guards I (pageFault la p w u : M α) :=
  .seq (.frame fun _ => rfl) <| .get_bind fun _ => .raise ..

protected theorem Guards.updateEntry (due : Bool) (pa bits : Word) : Guards I (updateEntry due pa bits) :=
  .ite (.seq .busTurn (.modify fun _ h => h.markEntry pa bits)) (.pure _)

protected theorem Guards.walk (la : Word) (w u : Bool) : Guards I (walk la w u) :=
  .seq .busTurn <| .get_bind fun _ => .seq (.raiseIf (.pageFault ..)) <| .seq .busTurn <| .get_bind fun _ =>
    .ite (.seq (.updateEntry ..) (.pageFault ..)) <| .seq (.raiseIf (.pageFault ..)) <| .seq (.updateEntry ..) <|
      .seq (.updateEntry ..) <| .seq (.modify fun _ h => ⟨h.mem, I.cached _ h.tlb, h.cr3⟩) (.pure _)

protected theorem Guards.translate (la : Word) (w u : Bool) : Guards I (translate la w u) :=
  .seq (.frame fun _ => rfl) <| .get_bind fun s => by
    cases s.tlbHit la with
    | some e =>
      exact .seq (.raiseIf (.pageFault ..)) (.ite (.seq (.modify fun _ h => ⟨h.mem, I.filtered _ h.tlb, h.cr3⟩) (.walk ..)) (.pure _))
    | none => exact .walk ..

protected theorem Guards.linPages (la : Word) (nb : Nat) (w u : Bool) : Guards I (linPages la nb w u) :=
  .get_bind fun _ => .ite (.pure _) <| .bind (.translate ..) fun _ =>
    .ite (.get_bind fun _ => .pure _) (.bind (.translate ..) fun _ => .get_bind fun _ => .pure _)

/-- What an access answers: the bytes it touches, as many as asked for and within physical memory. -/
theorem linPages_spec {la : Word} {nb : Nat} {w u : Bool} {s t : State} {keys : List Nat} (h : linPages la nb w u s = .ok keys t) :
    InMemory keys ∧ keys.length = nb := by
  unfold linPages at h
  rw [M.get_bind, M.ite_apply] at h
  split at h
  · cases h
    exact s.physKeys_spec la nb
  · obtain ⟨pa, v, -, h⟩ := M.bind_ok.mp h
    rw [M.ite_apply] at h
    split at h
    · cases h
      exact t.physKeys_spec pa nb
    · obtain ⟨pb, x, -, h⟩ := M.bind_ok.mp h
      cases h
      refine ⟨fun k hk => (List.mem_append.mp hk).elim (t.inMemory_physKeys _ _ k) (t.inMemory_physKeys _ _ k), ?_⟩
      rw [List.length_append, (t.physKeys_spec _ _).2, (t.physKeys_spec _ _).2]
      omega

theorem linKeys_spec {la : Word} {nb : Nat} {w u : Bool} {s t : State} {keys : List Nat} (h : linKeys la nb w u s = .ok keys t) :
    InMemory keys ∧ keys.length = nb := by
  obtain ⟨keys, v, hp, h⟩ := M.bind_ok.mp h
  obtain ⟨_, _, -, h⟩ := M.bind_ok.mp h
  cases h
  exact linPages_spec hp

theorem regKeys_spec {r : SegReg} {stack u w : Bool} {off : Word} {nb : Nat} {s t : State} {keys : List Nat}
    (h : regKeys r stack u off nb w s = .ok keys t) : InMemory keys ∧ keys.length = nb := by
  obtain ⟨-, -, _, h, -⟩ := regKeys_ok.mp h
  exact linKeys_spec h

theorem memKeys_spec {g : Seg} {w : Bool} {off : Word} {nb : Nat} {s t : State} {keys : List Nat}
    (h : memKeys g off nb w s = .ok keys t) : InMemory keys ∧ keys.length = nb := regKeys_spec h

theorem probeKeys_spec {g : Seg} {off : Word} {nb : Nat} {s t : State} {keys : List Nat} (h : probeKeys g off nb s = .ok keys t) :
    InMemory keys ∧ keys.length = nb := by
  unfold probeKeys at h
  obtain ⟨_, v, -, h⟩ := M.bind_ok.mp h
  rw [M.get_bind] at h
  obtain ⟨_, _, hk, h⟩ := M.bind_ok.mp h
  cases h
  exact linKeys_spec hk

/-- What follows an access may rely on its bytes being within physical memory. -/
theorem Guards.access {x : M (List Nat)} {f : List Nat → M α} (hx : Guards I x) (hk : ∀ {s keys t}, x s = .ok keys t → InMemory keys)
    (hf : ∀ keys, InMemory keys → Guards I (f keys)) : Guards I (x >>= f) := by
  refine ⟨fun s hs => ?_⟩
  have ht := hx.endState hs
  rw [M.bind_apply]
  split <;> rename_i h <;> rw [h] at ht
  · exact (hf _ (hk h)).endState ht
  · exact ht

protected theorem Guards.linKeys (la : Word) (nb : Nat) (w u : Bool) : Guards I (linKeys la nb w u) :=
  .bind (.linPages ..) fun _ => .seq .busTurn (.pure _)

protected theorem Guards.checkReg (r : SegReg) (stack : Bool) (off : Word) (nb : Nat) (a : Access) :
    Guards I (checkReg r stack off nb a) :=
  .get_bind fun _ => .seq .check (.raiseIf (.ite (.raise ..) (.raise ..)))

protected theorem Guards.checkSeg (g : Seg) (off : Word) (nb : Nat) (a : Access) : Guards I (checkSeg g off nb a) :=
  .get_bind fun _ => .checkReg ..

protected theorem Guards.regKeys (r : SegReg) (stack u : Bool) (off : Word) (nb : Nat) (w : Bool) :
    Guards I (regKeys r stack u off nb w) :=
  .seq (.checkReg ..) <| .bind (.linKeys ..) fun _ => .seq (.frame fun _ => rfl) (.pure _)

protected theorem Guards.memKeys (g : Seg) (off : Word) (nb : Nat) (w : Bool) : Guards I (memKeys g off nb w) :=
  .get_bind fun _ => .regKeys ..

protected theorem Guards.probeKeys (g : Seg) (off : Word) (nb : Nat) : Guards I (probeKeys g off nb) :=
  .seq (.checkSeg ..) <| .get_bind fun _ => .bind (.linKeys ..) fun _ => .seq (.frame fun _ => rfl) (.pure _)

/-- An access, and what follows it. -/
theorem Guards.onLinear {la : Word} {nb : Nat} {w u : Bool} {f : List Nat → M α} (hf : ∀ keys, InMemory keys → Guards I (f keys)) :
    Guards I (Machine.linKeys la nb w u >>= f) :=
  .access (.linKeys ..) (fun h => (linKeys_spec h).1) hf

theorem Guards.onKeys {g : Seg} {off : Word} {nb : Nat} {w : Bool} {f : List Nat → M α}
    (hf : ∀ keys, InMemory keys → Guards I (f keys)) : Guards I (Machine.memKeys g off nb w >>= f) :=
  .access (.memKeys ..) (fun h => (memKeys_spec h).1) hf

/-- The end of an access that stores. -/
theorem Guards.store {keys : List Nat} (hk : InMemory keys) (v : State → Word) : Guards I (modify fun s => s.writeKeys keys (v s)) :=
  .modify fun _ h => h.writeKeys hk

protected theorem Guards.linRead (la : Word) (nb : Nat) (u : Bool) : Guards I (linRead la nb u) :=
  .bind (.linKeys ..) fun _ => .get_bind fun _ => .pure _

protected theorem Guards.linWrite (la : Word) (nb : Nat) (v : Word) (u : Bool) : Guards I (linWrite la nb v u) :=
  .onLinear fun _ hk => .store hk _

protected theorem Guards.memRead (g : Seg) (off : Word) (nb : Nat) : Guards I (memRead g off nb) :=
  .bind (.memKeys ..) fun _ => .get_bind fun _ => .pure _

protected theorem Guards.memWrite (g : Seg) (off : Word) (nb : Nat) (v : Word) : Guards I (memWrite g off nb v) :=
  .onKeys fun _ hk => .store hk _

protected theorem Guards.fetchByte (off : Word) : Guards I (fetchByte off) :=
  .seq (.checkSeg ..) <| .get_bind fun s => by
    cases s.queuedByte (s.linear .cs off) with
    | some b => exact .pure b
    | none => exact .bind (.linKeys ..) fun _ => .get_bind fun _ => .pure _

theorem State.ioWrite_store (s : State) (port : Half) (n : Nat) (v : Word) : (s.ioWrite port n v).store = s.store := by simp [State.store]

protected theorem Guards.portCycles (ns : List Nat) (port : Half) (v : Word) : Guards I (portCycles ns port v) := by
  induction ns generalizing port v with
  | nil => exact .pure _
  | cons n rest ih =>
    cases rest with
    | nil => exact .frame fun s => s.ioWrite_store ..
    | cons m rest => exact .seq (.frame fun s => s.ioWrite_store ..) (.seq .cycleTurn (ih ..))

protected theorem Guards.portWrite (port : Half) (nb : Nat) (v : Word) : Guards I (portWrite port nb v) := .seq .busTurn (.portCycles ..)

protected theorem Guards.portRead (port : Half) (nb : Nat) : Guards I (portRead port nb) := .seq .busTurn (.get_bind fun _ => .pure _)

/-! Operands, the stack, and the end of an instruction. -/

theorem State.setAddrReg_store (s : State) (r : Reg) (v : Word) : (s.setAddrReg r v).store = s.store := by simp [State.store]

theorem State.setSp_store (s : State) (v : Word) : (s.setSp v).store = s.store := by simp [State.store]

theorem State.setSeg_store (s : State) (g : Seg) (r : SegReg) : (s.setSeg g r).store = s.store := by simp [State.store]

protected theorem Guards.readRM (w : Width) (m : RM) : Guards I (readRM w m) := by
  cases m with
  | reg r => exact .get_bind fun _ => .pure _
  | mem x => exact .get_bind fun _ => .bind (.memRead ..) fun _ => .pure _

protected theorem Guards.writeRM (w : Width) (m : RM) (v : BitVec w.bits) : Guards I (writeRM w m v) := by
  cases m with
  | reg r => exact .frame fun _ => rfl
  | mem x => exact .get_bind fun _ => .memWrite ..

protected theorem Guards.updateRM (w : Width) (m : RM) (k : BitVec w.bits → Flags → BitVec w.bits × Flags) :
    Guards I (updateRM w m k) := by
  cases m with
  | reg r => exact .frame fun _ => rfl
  | mem x => exact .get_bind fun _ => .onKeys fun _ hk => .modify fun _ h => h.updateKeys hk

protected theorem Guards.memOperand (m : RM) : Guards I (memOperand m) := by
  cases m with
  | reg r => exact .raise ..
  | mem x => exact .pure x

protected theorem Guards.push (v : Word) (nb : Nat) : Guards I (push v nb) :=
  .get_bind fun _ => .seq (.memWrite ..) (.frame fun s => s.setSp_store _)

protected theorem Guards.stackRead (d nb : Nat) : Guards I (stackRead d nb) := .get_bind fun _ => .memRead ..

protected theorem Guards.checkRoom (n w : Nat) : Guards I (checkRoom n w) := .get_bind fun _ => .check

protected theorem Guards.checkStackTop (n : Nat) : Guards I (checkStackTop n) := .get_bind fun _ => .check

protected theorem Guards.advance : Guards I advance := .frame fun _ => rfl

/-- What remains of an instruction after its effect. -/
theorem Guards.finish {x : M Unit} (hx : Guards I x) : Guards I (x >>= fun _ => Machine.advance) := hx.seq .advance

protected theorem Guards.change {k : State → State} (h : ∀ s, I.Holds s → I.Holds (k s)) : Guards I (change k) := .finish (.modify h)

/-- A change that leaves memory, the TLB and CR3 alone, as an instruction. -/
theorem Guards.changeFrame {k : State → State} (h : ∀ s : State, (k s).store = s.store) :
    Guards I (Machine.change k) := .change fun s hs => hs.congr (h s)

protected theorem Guards.checkTarget (t : Word) : Guards I (checkTarget t) := .get_bind fun _ => .check

protected theorem Guards.nearJump (t : Word) : Guards I (nearJump t) := .seq (.checkTarget t) (.frame fun _ => rfl)

protected theorem Guards.requireCpl0 : Guards I requireCpl0 := .get_bind fun _ => .check

protected theorem Guards.requireProt : Guards I requireProt := .get_bind fun _ => .check

protected theorem Guards.requireIopl : Guards I requireIopl := .get_bind fun _ => .check

protected theorem Guards.requireV86Iopl : Guards I requireV86Iopl := .get_bind fun _ => .check

protected theorem Guards.ioMapCheck (port : Half) (nb : Nat) : Guards I (ioMapCheck port nb) :=
  .get_bind fun _ => .seq .check <| .seq .check <| .bind (.linRead ..) fun _ => .seq .check <| .bind (.linRead ..) fun _ => .check

protected theorem Guards.ioPermitted (port : Half) (nb : Nat) : Guards I (ioPermitted port nb) :=
  .get_bind fun _ => .ite (.ioMapCheck ..) (.pure _)

/-! Descriptors and the loads of segment registers. -/

protected theorem Guards.linDescriptor (la : Word) : Guards I (linDescriptor la) :=
  .bind (.linKeys ..) fun _ => .get_bind fun _ => .pure _

protected theorem Guards.readDescriptor (sel : Half) : Guards I (readDescriptor sel) :=
  .get_bind fun s => by
    cases s.descriptorAt sel with
    | none => exact .pure _
    | some la => exact .bind (.linDescriptor la) fun _ => .pure _

protected theorem Guards.needDescriptor {sel : Half} {fail : M Unit} (hf : Guards I fail) : Guards I (needDescriptor sel fail) :=
  .bind (.readDescriptor sel) fun d => by
    cases d with
    | some d => exact .pure d
    | none => exact hf.seq (.pure _)

/-- A descriptor, with an exception where its table does not hold it. -/
theorem Guards.descriptor {sel : Half} {v : Byte} {e : Option Half} : Guards I (Machine.needDescriptor sel (Machine.raise v e)) :=
  .needDescriptor (.raise v e)

protected theorem Guards.writeAccessByte (sel : Half) (set clear : Word) : Guards I (writeAccessByte sel set clear) :=
  .get_bind fun s => by
    cases s.descriptorAt sel with
    | none => exact .pure _
    | some la => exact .locked (.onLinear fun _ hk => .store hk _)

protected theorem Guards.markAccessed (sel : Half) (d : Descriptor) : Guards I (markAccessed sel d) :=
  .ite (.pure _) (.writeAccessByte ..)

protected theorem Guards.loadDataSeg {g : Seg} {sel : Half} {fail : Half → M Unit} (hf : ∀ x, Guards I (fail x)) :
    Guards I (loadDataSeg g sel fail) :=
  .ite (.frame fun s => s.setSeg_store ..) <| .bind (.needDescriptor (hf _)) fun _ => .get_bind fun _ => .seq (.raiseIf (hf _)) <|
    .seq (.raiseIf (hf _)) <| .seq (.raiseIf (hf _)) <| .seq .check <| .seq (.markAccessed ..) (.frame fun s => s.setSeg_store ..)

protected theorem Guards.stackDescriptor {sel : Half} {n : BitVec 2} {nullFail : M Unit} {fail : Half → M Unit} (hn : Guards I nullFail)
    (hf : ∀ x, Guards I (fail x)) : Guards I (stackDescriptor sel n nullFail fail) :=
  .seq (.raiseIf hn) <| .bind (.needDescriptor (hf _)) fun _ => .seq (.raiseIf (hf _)) <| .seq (.raiseIf (hf _)) <|
    .seq (.raiseIf (hf _)) <| .seq .check (.pure _)

protected theorem Guards.loadStack (sel : Half) (d : Descriptor) : Guards I (loadStack sel d) :=
  .seq (.markAccessed ..) (.frame fun _ => rfl)

protected theorem Guards.loadSS (sel : Half) : Guards I (loadSS sel) :=
  .get_bind fun _ => .bind (.stackDescriptor (.raise ..) fun _ => .raise ..) fun d => .loadStack sel d

protected theorem Guards.loadSeg (g : Seg) (sel : Half) : Guards I (loadSeg g sel) :=
  .get_bind fun _ => .ite (.frame fun s => s.setSeg_store ..) (.ite (.loadSS sel) (.loadDataSeg fun _ => .raise ..))

protected theorem Guards.loadCs (sel : Half) (d : Descriptor) (n : BitVec 2) : Guards I (loadCs sel d n) :=
  .seq (.markAccessed ..) (.frame fun _ => rfl)

protected theorem Guards.checkOffset (d : Descriptor) (off : Word) : Guards I (checkOffset d off) := .check

/-! Far transfers within a task. -/

protected theorem Guards.pushReturn (csImage : Word) (w : Nat) : Guards I (pushReturn csImage w) :=
  .get_bind fun _ => .seq (.push ..) (.push ..)

protected theorem Guards.enterCode (sel : Half) (d : Descriptor) (n : BitVec 2) (off : Word) : Guards I (enterCode sel d n off) :=
  .seq (.loadCs ..) (.frame fun _ => rfl)

protected theorem Guards.sameLevel (call : Bool) (sel : Half) (d : Descriptor) (off : Word) (w : Nat) :
    Guards I (sameLevel call sel d off w) := by
  refine .get_bind fun s => .seq .check ?_
  cases call with
  | false => exact .seq (.checkOffset ..) (.enterCode ..)
  | true => exact .seq (.checkRoom ..) <| .seq (.checkOffset ..) <| .seq (.pushReturn ..) (.enterCode ..)

protected theorem Guards.directCode (call : Bool) (sel : Half) (d : Descriptor) (off : Word) : Guards I (directCode call sel d off) :=
  .get_bind fun _ => .ite (.seq .check (.sameLevel ..)) (.seq .check (.sameLevel ..))

protected theorem Guards.innerStack (n : BitVec 2) : Guards I (innerStack n) :=
  .get_bind fun _ => .seq .check <| .seq .check <| .bind (.linRead ..) fun _ => .bind (.linRead ..) fun _ =>
    .bind (.stackDescriptor (.raise ..) fun _ => .raise ..) fun _ => .pure _

protected theorem Guards.pushAll (w : Nat) (items : List Word) : Guards I (pushAll w items) := by
  induction items with
  | nil => exact .pure _
  | cons v rest ih => exact .seq (.push ..) ih

protected theorem Guards.copyParams (r : SegReg) (u : Bool) (sp : Word) (w k : Nat) : Guards I (copyParams r u sp w k) := by
  induction k with
  | zero => exact .pure _
  | succ k ih => exact .bind (.regKeys ..) fun _ => .get_bind fun _ => .seq (.push ..) ih

protected theorem Guards.callInner (csel : Half) (c : Descriptor) (off : Word) (w k : Nat) : Guards I (callInner csel c off w k) :=
  .get_bind fun _ => .bind (.innerStack _) fun _ => .seq .check <| .seq (.checkOffset ..) <| .seq (.loadStack ..) <|
    .seq (.frame fun _ => rfl) <| .seq (.pushAll ..) <| .seq (.copyParams ..) <| .seq (.pushAll ..) (.enterCode ..)

protected theorem Guards.throughGate (call : Bool) (gsel : Half) (g : Descriptor) : Guards I (throughGate call gsel g) := by
  refine .get_bind fun s => .seq .check <| .seq .check <| .seq .check <| .bind .descriptor fun c => .seq .check <| .seq .check ?_
  cases call with
  | false => exact .seq .check (.lockedIf (.sameLevel ..))
  | true => exact .seq .check (.ite (.lockedIf (.callInner ..)) (.lockedIf (.sameLevel ..)))

protected theorem Guards.returnDescriptor (sel : Half) : Guards I (returnDescriptor sel) :=
  .get_bind fun _ => .seq .check <| .seq .check <| .bind .descriptor fun _ => .seq .check <| .seq .check <|
    .seq .check <| .seq .check (.pure _)

theorem State.outerStack_store (s : State) (w : Nat) (v : Word) (n : BitVec 2) (t : Word) :
    (((s.setEspW w v).nullUnusable n).transfer t).store = s.store := by
  unfold State.setEspW
  split <;> exact rfl

protected theorem Guards.returnOuter (sel : Half) (c : Descriptor) (newEip : Word) (w frame : Nat) (imm : Word) :
    Guards I (returnOuter sel c newEip w frame imm) :=
  .seq (.checkStackTop _) <| .bind (.stackRead ..) fun _ => .bind (.stackRead ..) fun _ =>
    .bind (.stackDescriptor (.raise ..) fun _ => .raise ..) fun _ => .seq (.checkOffset ..) <| .seq (.loadCs ..) <|
      .seq (.loadStack ..) (.frame fun s => s.outerStack_store ..)

protected theorem Guards.farReturn (imm : Word) : Guards I (farReturn imm) :=
  .get_bind fun _ => .seq (.checkStackTop _) <| .bind (.stackRead ..) fun _ => .bind (.stackRead ..) fun _ =>
    .bind (.returnDescriptor _) fun _ => .ite
      (.seq (.checkOffset ..) <| .seq (.loadCs ..) (.frame fun _ => by simp [State.store]))
      (.seq (.lockedIf (.returnOuter ..)) (.frame fun _ => rfl))

protected theorem Guards.farReturn8086 (imm : Word) : Guards I (farReturn8086 imm) :=
  .get_bind fun _ => .seq (.checkStackTop _) <| .bind (.stackRead ..) fun _ => .bind (.stackRead ..) fun _ =>
    .seq (.checkTarget _) (.frame fun _ => by simp [State.store])

protected theorem Guards.far8086 (call : Bool) (sel : Half) (off : Word) : Guards I (far8086 call sel off) := by
  refine .get_bind fun s => ?_
  cases call with
  | false => exact .seq (.checkTarget _) (.frame fun _ => rfl)
  | true => exact .seq (.checkRoom ..) <| .seq (.checkTarget _) <| .seq (.pushReturn ..) (.frame fun _ => rfl)

/-! The task switch. -/

protected theorem Guards.writeItems (base : Word) (items : List (Nat × Nat × Word)) : Guards I (writeItems base items) := by
  induction items with
  | nil => exact .pure _
  | cons x rest ih => exact .seq (.linWrite ..) ih

protected theorem Guards.readItems (base : Word) (nb : Nat) (offs : List Nat) : Guards I (readItems base nb offs) := by
  induction offs with
  | nil => exact .pure _
  | cons off rest ih => exact .bind (.linRead ..) fun _ => .bind ih fun _ => .pure _

protected theorem Guards.switchLdt (sel : Half) : Guards I (switchLdt sel) :=
  .ite (.frame fun _ => rfl) <| .seq .check <| .bind .descriptor fun _ => .seq .check <| .seq .check (.frame fun _ => rfl)

protected theorem Guards.switchCs (sel : Half) : Guards I (switchCs sel) :=
  .seq .check <| .bind .descriptor fun _ => .seq .check <| .seq .check <| .seq .check <| .seq .check (.loadCs ..)

protected theorem Guards.switchSs (sel : Half) : Guards I (switchSs sel) :=
  .get_bind fun _ => .bind (.stackDescriptor (.raise ..) fun _ => .raise ..) fun _ => .loadStack ..

protected theorem Guards.switchSegments : Guards I switchSegments :=
  .get_bind fun _ => .ite (.frame fun _ => rfl) <| .seq (.switchCs _) <| .seq (.switchSs _) <| .seq (.loadDataSeg fun _ => .raise ..) <|
    .seq (.loadDataSeg fun _ => .raise ..) <| .seq (.loadDataSeg fun _ => .raise ..) (.loadDataSeg fun _ => .raise ..)

/-- CR3 is loaded with its low bits clear, and the TLB flushed. -/
protected theorem Guards.switchCr3 (base : Word) : Guards I (switchCr3 base) :=
  .get_bind fun _ => .ite (.bind (.linRead ..) fun _ => .modify fun _ h => ⟨h.mem, I.flushed, I.masked _⟩) (.pure _)

protected theorem Guards.load386 (base : Word) (kind : SwitchKind) : Guards I (load386 base kind) :=
  .bind (.linRead ..) fun _ => .seq (.switchCr3 base) <| .bind (.linRead ..) fun _ => .bind (.linRead ..) fun _ =>
    .bind (.readItems ..) fun _ => .bind (.readItems ..) fun _ => .bind (.linRead ..) fun _ => .seq (.frame fun _ => rfl) (.pure _)

protected theorem Guards.load286 (base : Word) (kind : SwitchKind) : Guards I (load286 base kind) :=
  .bind (.linRead ..) fun _ => .bind (.linRead ..) fun _ => .bind (.linRead ..) fun _ => .bind (.readItems ..) fun _ =>
    .bind (.readItems ..) fun _ => .seq (.frame fun _ => rfl) (.pure _)

protected theorem Guards.enterTask (nsel : Half) (t : Descriptor) (kind : SwitchKind) : Guards I (enterTask nsel t kind) := by
  have rest (debug : Bool) : Guards I (do
      let s ← get
      switchLdt s.ldtr.sel
      switchSegments
      modify fun u => { u with pend := { u.pend with bt := u.pend.bt || debug } }
      let u ← get
      raiseIf (decide (u.cs.limit.toNat < u.eip.toNat)) raiseGP0) :=
    .get_bind fun _ => .seq (.switchLdt _) <| .seq .switchSegments <| .seq (.frame fun _ => rfl) (.get_bind fun _ => .check)
  exact .seq (.frame fun _ => rfl) (.ite (.bind (.load386 ..) rest) (.bind (.load286 ..) rest))

protected theorem Guards.leaveTask (nsel : Half) (t : Descriptor) (kind : SwitchKind) (savedEip image : Word) :
    Guards I (leaveTask nsel t kind savedEip image) := by
  refine .get_bind fun s => .bind (.linRead ..) fun _ => .seq (.get_bind fun _ => .writeItems ..) ?_
  cases kind with
  | jmp => exact .seq (.writeAccessByte ..) (.writeAccessByte ..)
  | call | int => exact .seq (.linWrite ..) (.writeAccessByte ..)
  | iret => exact .seq (.writeAccessByte ..) (.pure _)

protected theorem Guards.taskSwitch (nsel : Half) (t : Descriptor) (kind : SwitchKind) (savedEip image : Word) :
    Guards I (taskSwitch nsel t kind savedEip image) :=
  .seq .check <| .seq (.lockedIf (.leaveTask ..)) (.committed (.enterTask ..))

protected theorem Guards.gateTask (tsel : Half) : Guards I (gateTask tsel) :=
  .seq .check <| .bind .descriptor fun _ => .seq .check <| .seq .check (.pure _)

protected theorem Guards.farSwitch (call : Bool) (tsel : Half) (t : Descriptor) : Guards I (farSwitch call tsel t) :=
  .get_bind fun _ => .taskSwitch ..

protected theorem Guards.toTss (call : Bool) (sel : Half) (t : Descriptor) : Guards I (toTss call sel t) :=
  .get_bind fun _ => .seq .check <| .seq .check <| .seq .check (.farSwitch ..)

protected theorem Guards.throughTaskGate (call : Bool) (gsel : Half) (g : Descriptor) : Guards I (throughTaskGate call gsel g) :=
  .get_bind fun _ => .seq .check <| .seq .check <| .bind (.gateTask _) fun _ => .farSwitch ..

/-! Far CALL, JMP and RET, and IRET. -/

protected theorem Guards.farTarget (call : Bool) (sel : Half) (off : Word) : Guards I (farTarget call sel off) := by
  refine .seq .check <| .bind .descriptor fun d => ?_
  split
  · exact .ite (.lockedIf (.directCode ..)) (.raise ..)
  · exact .toTss ..
  · exact .throughGate ..
  · exact .throughTaskGate ..
  · exact .toTss ..
  · exact .throughGate ..
  · exact .raise ..

protected theorem Guards.farTransfer (call : Bool) (sel : Half) (off : Word) : Guards I (farTransfer call sel off) :=
  .get_bind fun _ => .ite (.farTarget ..) (.far8086 ..)

protected theorem Guards.farPointer (x : MemRef) : Guards I (farPointer x) :=
  .get_bind fun _ => .bind (.memRead ..) fun _ => .bind (.memRead ..) fun _ => .pure _

protected theorem Guards.farIndirect (call : Bool) (m : RM) : Guards I (farIndirect call m) :=
  .bind (.memOperand m) fun x => .bind (.farPointer x) fun _ => .farTransfer ..

protected theorem Guards.farRet (imm : Word) : Guards I (farRet imm) :=
  .get_bind fun _ => .ite (.farReturn imm) (.farReturn8086 imm)

protected theorem Guards.iret8086 : Guards I iret8086 :=
  .get_bind fun _ => .seq (.checkStackTop _) <| .bind (.stackRead ..) fun _ => .bind (.stackRead ..) fun _ =>
    .bind (.stackRead ..) fun _ => .seq (.checkTarget _) (.frame fun _ => by simp [State.store])

protected theorem Guards.iretTask : Guards I iretTask :=
  .get_bind fun _ => .bind (.linRead ..) fun _ => .seq .check <| .bind .descriptor fun _ => .seq .check <| .seq .check (.taskSwitch ..)

protected theorem Guards.iretV86 (newEip csImage image : Word) : Guards I (iretV86 newEip csImage image) :=
  .seq (.checkStackTop _) <| .bind (.stackRead ..) fun _ => .bind (.stackRead ..) fun _ => .bind (.stackRead ..) fun _ =>
    .bind (.stackRead ..) fun _ => .bind (.stackRead ..) fun _ => .bind (.stackRead ..) fun _ => .frame fun _ => rfl

protected theorem Guards.iretCode (newEip csImage image : Word) (w : Nat) : Guards I (iretCode newEip csImage image w) :=
  .get_bind fun _ => .bind (.returnDescriptor _) fun _ => .ite
    (.seq (.checkOffset ..) <| .seq (.loadCs ..) <| .seq (.frame fun _ => by simp [State.store]) (.frame fun _ => rfl))
    (.seq (.lockedIf (.returnOuter ..)) (.frame fun _ => rfl))

protected theorem Guards.iretProt : Guards I iretProt :=
  .get_bind fun _ => .seq (.checkStackTop _) <| .bind (.stackRead ..) fun _ => .bind (.stackRead ..) fun _ =>
    .bind (.stackRead ..) fun _ => .ite (.iretV86 ..) (.iretCode ..)

protected theorem Guards.iretBody : Guards I iretBody :=
  .get_bind fun _ => .seq .requireV86Iopl <| .ite (.seq .iret8086 (.frame fun _ => rfl)) <|
    .ite (.seq .iretTask (.frame fun _ => rfl)) (.seq .iretProt (.frame fun _ => rfl))

/-! Entries to handlers. -/

protected theorem Guards.enterHandler (csel : Half) (c : Descriptor) (n : BitVec 2) (off : Word) (ig : Bool) :
    Guards I (enterHandler csel c n off ig) := .seq (.loadCs ..) (.frame fun _ => rfl)

protected theorem Guards.sameEntry (e : Event) (savedEip : Word) (g c : Descriptor) (w : Nat) : Guards I (sameEntry e savedEip g c w) :=
  .get_bind fun _ => .seq (.checkRoom ..) <| .seq (.checkOffset ..) <| .seq (.pushAll ..) (.enterHandler ..)

protected theorem Guards.innerEntry (e : Event) (savedEip : Word) (g c : Descriptor) (w : Nat) : Guards I (innerEntry e savedEip g c w) :=
  .get_bind fun _ => .bind (.innerStack _) fun _ => .seq .check <| .seq (.checkOffset ..) <| .seq (.loadStack ..) <|
    .seq (.frame fun _ => rfl) <| .seq (.pushAll ..) (.enterHandler ..)

protected theorem Guards.v86Entry (e : Event) (savedEip : Word) (g c : Descriptor) : Guards I (v86Entry e savedEip g c) := by
  refine .get_bind fun s => .seq .check ?_
  cases g.isGate386 with
  | false => exact .throw_bind _ _
  | true =>
    exact .bind (.innerStack _) fun _ => .seq .check <| .seq (.checkOffset ..) <| .seq (.frame fun _ => rfl) <| .seq (.loadStack ..) <|
      .seq (.frame fun _ => rfl) <| .seq (.pushAll ..) <| .seq (.frame fun _ => rfl) <| .seq (.pushAll ..) (.enterHandler ..)

protected theorem Guards.taskEntry (e : Event) (savedEip : Word) (g : Descriptor) : Guards I (taskEntry e savedEip g) :=
  .get_bind fun _ => .bind (.gateTask _) fun _ => .seq (.taskSwitch ..) (.committed (.seq (.checkRoom ..) (.pushAll ..)))

protected theorem Guards.gateEntry (e : Event) (savedEip : Word) (g : Descriptor) : Guards I (gateEntry e savedEip g) :=
  .get_bind fun _ => .seq .check <| .bind .descriptor fun _ => .seq .check <| .seq .check <| .seq .check <|
    .lockedIf <| .ite (.v86Entry ..) (.ite (.innerEntry ..) (.sameEntry ..))

protected theorem Guards.protEntry (e : Event) (savedEip : Word) : Guards I (protEntry e savedEip) :=
  .get_bind fun _ => .seq .check <| .bind (.linDescriptor _) fun _ => .seq .check <| .seq .check <| .seq .check <|
    .ite (.taskEntry ..) (.gateEntry ..)

protected theorem Guards.realEntry (e : Event) (savedEip : Word) : Guards I (realEntry e savedEip) :=
  .get_bind fun _ => .seq .check <| .bind (.linRead ..) fun _ => .bind (.linRead ..) fun _ => .seq (.checkRoom ..) <| .seq (.push ..) <|
    .seq (.push ..) <| .seq (.push ..) (.frame fun _ => rfl)

protected theorem Guards.entry (e : Event) (savedEip : Word) : Guards I (entry e savedEip) :=
  .get_bind fun _ => .ite (.protEntry ..) (.realEntry ..)

end Sys2Proof.Machine
end

section
/-!
Every step keeps what the updates of memory, the TLB and CR3 keep: the meanings of the instructions, the deliveries, the boundary, the step.
-/
namespace Sys2Proof.Machine

open Sys2Proof

variable {I : StoreInvariant}

/-! Arithmetic, logic, shifts and bits. -/

protected theorem Guards.readOnly (w : Width) (m : RM) (k : BitVec w.bits → Flags → Flags) : Guards I (readOnly w m k) :=
  .bind (.readRM w m) fun _ => .finish (.frame fun _ => rfl)

protected theorem Guards.aluTo (op : AluOp) (w : Width) (m : RM) (b : BitVec w.bits) : Guards I (aluTo op w m b) :=
  .get_bind fun _ => .finish (.updateRM ..)

protected theorem Guards.readWrite (w : Width) (m : RM) (k : BitVec w.bits → Flags → BitVec w.bits × Flags) :
    Guards I (readWrite w m k) := .finish (.updateRM w m k)

protected theorem Guards.aluFrom (op : AluOp) (w : Width) (m : RM) (r : Reg) : Guards I (aluFrom op w m r) :=
  .get_bind fun _ => .bind (.readRM w m) fun _ => .finish (.frame fun _ => rfl)

protected theorem Guards.testBody (w : Width) (m : RM) (b : BitVec w.bits) : Guards I (testBody w m b) :=
  .get_bind fun _ => .readOnly ..

protected theorem Guards.probeRM (w : Width) (m : RM) : Guards I (probeRM w m) := by
  cases m with
  | reg r => exact .pure _
  | mem x => exact .get_bind fun _ => .bind (.probeKeys ..) fun _ => .pure _

protected theorem Guards.shiftBody (w : Width) (m : RM) (c : Nat) (k : BitVec w.bits → Flags → BitVec w.bits × Flags) :
    Guards I (shiftBody w m c k) := .ite (.finish (.probeRM w m)) (.finish (.updateRM ..))

protected theorem Guards.asciiAdjust (k : Half → Bool → Half) : Guards I (asciiAdjust k) := .finish (.frame fun _ => rfl)

protected theorem Guards.decimalAdjust (k : Byte → Flags → Byte × Bool) : Guards I (decimalAdjust k) := .finish (.frame fun _ => rfl)

protected theorem Guards.multiplyAcc (w : Width) (m : RM) (lo hi : BitVec w.bits → BitVec w.bits → BitVec w.bits)
    (significant : BitVec w.bits → BitVec w.bits → Bool) : Guards I (multiplyAcc w m lo hi significant) :=
  .bind (.readRM w m) fun _ => .finish (.frame fun _ => rfl)

protected theorem Guards.imulTo (w : Width) (m : RM) (r : Reg) (other : State → BitVec w.bits) : Guards I (imulTo w m r other) :=
  .bind (.readRM w m) fun _ => .finish (.frame fun _ => rfl)

protected theorem Guards.divideAcc (w : Width) (m : RM) (k : State → BitVec w.bits → Option (BitVec w.bits × BitVec w.bits)) :
    Guards I (divideAcc w m k) :=
  .bind (.readRM w m) fun d => .get_bind fun s => by
    cases k s d with
    | none => exact .raise ..
    | some x => exact .finish (.frame fun _ => rfl)

protected theorem Guards.aadBody (base : Byte) : Guards I (aadBody base) := .finish (.frame fun _ => rfl)

protected theorem Guards.aamBody (base : Byte) : Guards I (aamBody base) := .seq .check (.finish (.frame fun _ => rfl))

theorem State.convertLow_store (s : State) : s.convertLow.store = s.store := by
  unfold State.convertLow
  split <;> exact rfl

protected theorem Guards.scanBits (w : Width) (m : RM) (r : Reg) (find : BitVec w.bits → Option Nat) : Guards I (scanBits w m r find) :=
  .bind (.readRM w m) fun _ => .finish (.frame fun _ => rfl)

protected theorem Guards.bitAt (op : BitOp) (w : Width) (g : Seg) (off : Word) (i : Nat) : Guards I (bitAt op w g off i) :=
  .onKeys fun _ hk => .modify fun _ h => by
    dsimp only
    split
    · exact h.congr rfl
    · exact (h.between.writeKeys hk).congr rfl

protected theorem Guards.bitImm (op : BitOp) (w : Width) (m : RM) (imm : Byte) : Guards I (bitImm op w m imm) :=
  .get_bind fun _ => by
    cases m with
    | reg q => exact .finish (.frame fun _ => rfl)
    | mem x => exact .finish (.bitAt ..)

protected theorem Guards.bitReg (op : BitOp) (w : Width) (m : RM) (r : Reg) : Guards I (bitReg op w m r) :=
  .get_bind fun _ => by
    cases m with
    | reg q => exact .finish (.frame fun _ => rfl)
    | mem x => exact .finish (.bitAt ..)

/-! Data transfer. -/

protected theorem Guards.storeReg (w : Bool) (m : RM) (r : Reg) : Guards I (storeReg w m r) := .get_bind fun _ => .finish (.writeRM ..)

protected theorem Guards.loadReg (w : Bool) (m : RM) (r : Reg) : Guards I (loadReg w m r) :=
  .get_bind fun _ => .bind (.readRM ..) fun _ => .finish (.frame fun _ => rfl)

protected theorem Guards.storeImm (w : Bool) (m : RM) (imm : Word) : Guards I (storeImm w m imm) :=
  .get_bind fun _ => .finish (.writeRM ..)

protected theorem Guards.loadAcc (w : Bool) (off : Word) : Guards I (loadAcc w off) :=
  .get_bind fun _ => .bind (.memRead ..) fun _ => .finish (.frame fun _ => rfl)

protected theorem Guards.storeAcc (w : Bool) (off : Word) : Guards I (storeAcc w off) := .get_bind fun _ => .finish (.memWrite ..)

protected theorem Guards.moveToSeg (m : RM) (g : Seg) : Guards I (moveToSeg m g) :=
  .seq .check <| .bind (.readRM ..) fun _ => .seq (.loadSeg ..) (.finish (.frame fun _ => rfl))

protected theorem Guards.storeHalf (m : RM) (v : Half) : Guards I (storeHalf m v) :=
  .get_bind fun s => by
    cases m with
    | reg r => exact .frame fun _ => by cases s.osz32 <;> exact rfl
    | mem x => exact .memWrite ..

protected theorem Guards.moveFromSeg (m : RM) (g : Seg) : Guards I (moveFromSeg m g) := .get_bind fun _ => .finish (.storeHalf ..)

protected theorem Guards.extendReg (signed w : Bool) (m : RM) (r : Reg) : Guards I (extendReg signed w m r) :=
  .get_bind fun _ => .bind (.readRM ..) fun _ => .finish (.frame fun _ => rfl)

protected theorem Guards.pushValue (v : Word) : Guards I (pushValue v) := .get_bind fun _ => .finish (.push ..)

protected theorem Guards.pushOperand (m : RM) : Guards I (pushOperand m) :=
  .get_bind fun _ => .bind (.readRM ..) fun _ => .pushValue _

protected theorem Guards.pushSelector (g : Seg) : Guards I (pushSelector g) := .get_bind fun _ => .pushValue _

protected theorem Guards.pushImmediate (signed8 : Bool) (imm : Word) : Guards I (pushImmediate signed8 imm) :=
  .get_bind fun _ => .pushValue _

protected theorem Guards.pushAllRegs : Guards I pushAllRegs := .get_bind fun _ => .finish (.pushAll ..)

protected theorem Guards.popOperand (m : RM) : Guards I (popOperand m) :=
  .get_bind fun _ => .bind (.stackRead ..) fun _ => .seq (.frame fun s => s.setSp_store _) (.finish (.writeRM ..))

protected theorem Guards.popSelector (g : Seg) : Guards I (popSelector g) :=
  .get_bind fun _ => .bind (.stackRead ..) fun _ => .seq (.loadSeg ..) <| .finish (.frame fun _ => by simp [State.store])

protected theorem Guards.stackItems (w i k : Nat) : Guards I (stackItems w i k) := by
  induction k generalizing i with
  | zero => exact .pure _
  | succ k ih => exact .bind (.stackRead ..) fun _ => .bind (ih _) fun _ => .pure _

protected theorem Guards.popAll : Guards I popAll :=
  .get_bind fun _ => .bind (.stackItems ..) fun _ => .finish (.frame fun _ => by simp [State.store, State.popAllRegs])

protected theorem Guards.exchange (w : Width) (m : RM) (r : Reg) : Guards I (exchange w m r) :=
  .get_bind fun _ => by
    cases m with
    | reg q => exact .finish (.frame fun _ => rfl)
    | mem x => exact .onKeys fun _ hk => .finish (.modify fun _ h => (h.writeKeys hk).congr rfl)

protected theorem Guards.inPort (w : Bool) (port : Half) : Guards I (inPort w port) :=
  .get_bind fun _ => .seq (.ioPermitted ..) <| .bind (.portRead ..) fun _ => .finish (.frame fun _ => rfl)

protected theorem Guards.outPort (w : Bool) (port : Half) : Guards I (outPort w port) :=
  .get_bind fun _ => .seq (.ioPermitted ..) <| .finish (.portWrite ..)

protected theorem Guards.leaBody (m : RM) (r : Reg) : Guards I (leaBody m r) := .bind (.memOperand m) fun _ => .finish (.frame fun _ => rfl)

protected theorem Guards.loadFarPtr (g : Seg) (m : RM) (r : Reg) : Guards I (loadFarPtr g m r) :=
  .bind (.memOperand m) fun x => .bind (.farPointer x) fun _ => .seq (.loadSeg ..) <| .finish (.frame fun _ => rfl)

/-! Near transfers, loops, SETcc, ENTER, LEAVE, BOUND. -/

protected theorem Guards.nearCall (t : Word) : Guards I (nearCall t) :=
  .get_bind fun _ => .seq (.checkRoom ..) <| .seq (.checkTarget t) <| .seq (.push ..) (.nearJump t)

protected theorem Guards.indirect {m : RM} {k : Word → M Unit} (hk : ∀ t, Guards I (k t)) : Guards I (indirect m k) :=
  .get_bind fun _ => .bind (.readRM ..) fun _ => hk _

protected theorem Guards.nearRet (imm : Word) : Guards I (nearRet imm) :=
  .get_bind fun _ => .seq (.checkStackTop _) <| .bind (.stackRead ..) fun _ => .seq (.checkTarget _) (.frame fun _ => by simp [State.store])

protected theorem Guards.jumpIf (c : Bool) (t : Word) : Guards I (jumpIf c t) := .ite (.nearJump t) .advance

protected theorem Guards.loopBody (c : Bool) (t : Word) : Guards I (loopBody c t) :=
  .get_bind fun _ => .seq (.frame fun s => s.setAddrReg_store ..) (.jumpIf ..)

protected theorem Guards.setByte (m : RM) (c : Bool) : Guards I (setByte m c) := .finish (.writeRM ..)

protected theorem Guards.copyDisplay (w k : Nat) (bp : Word) : Guards I (copyDisplay w k bp) := by
  induction k generalizing bp with
  | zero => exact .pure _
  | succ k ih => exact .get_bind fun _ => .bind (.memRead ..) fun _ => .seq (.push ..) (ih _)

theorem State.frameSet_store (s : State) (w : Width) (r : Reg) (v : BitVec w.bits) (sp : Word) :
    ((s.setReg w r v).setSp sp).store = s.store := by simp [State.store]

protected theorem Guards.enterBody (size : Half) (level : Byte) : Guards I (enterBody size level) :=
  .get_bind fun _ => .seq (.push ..) <| .get_bind fun _ => .ite (.finish (.frame fun s => s.frameSet_store ..)) <|
    .seq (.copyDisplay ..) <| .seq (.push ..) <| .finish (.frame fun s => s.frameSet_store ..)

protected theorem Guards.leaveBody : Guards I leaveBody :=
  .get_bind fun _ => .bind (.memRead ..) fun _ => .finish (.frame fun _ => by simp [State.store])

protected theorem Guards.boundBody (m : RM) (r : Reg) : Guards I (boundBody m r) :=
  .bind (.memOperand m) fun _ => .get_bind fun _ => .bind (.memRead ..) fun _ => .bind (.memRead ..) fun _ => .finish .check

/-! Flag control. -/

protected theorem Guards.setFlags (k : Flags → Flags) : Guards I (setFlags k) := .finish (.frame fun _ => rfl)

protected theorem Guards.clearInterrupt : Guards I clearInterrupt := .seq .requireIopl (.setFlags _)

protected theorem Guards.setInterrupt : Guards I setInterrupt := .seq .requireIopl <| .seq (.frame fun _ => rfl) (.setFlags _)

protected theorem Guards.clearTaskSwitched : Guards I clearTaskSwitched := .seq .requireCpl0 <| .finish <| .frame fun _ => rfl

protected theorem Guards.flagsToAh : Guards I flagsToAh := .finish (.frame fun _ => rfl)

protected theorem Guards.ahToFlags : Guards I ahToFlags := .finish (.frame fun _ => rfl)

protected theorem Guards.popFlags : Guards I popFlags :=
  .get_bind fun _ => .seq .requireV86Iopl <| .bind (.stackRead ..) fun _ => .frame fun _ => by simp [State.store]

protected theorem Guards.pushFlags : Guards I pushFlags := .get_bind fun _ => .seq .requireV86Iopl <| .finish (.push ..)

/-! String instructions. -/

theorem State.stepIndex_store (s : State) (r : Reg) (w : Width) : (s.stepIndex r w).store = s.store := s.setAddrReg_store ..

theorem State.stepBoth_store (s : State) (w : Width) : ((s.stepIndex .esi w).stepIndex .edi w).store = s.store :=
  (State.stepIndex_store ..).trans (State.stepIndex_store ..)

protected theorem Guards.readSource (w : Width) : Guards I (readSource w) := .get_bind fun _ => .bind (.memRead ..) fun _ => .pure _

protected theorem Guards.readDest (w : Width) : Guards I (readDest w) := .get_bind fun _ => .bind (.memRead ..) fun _ => .pure _

protected theorem Guards.writeDest (w : Width) (v : BitVec w.bits) : Guards I (writeDest w v) := .get_bind fun _ => .memWrite ..

protected theorem Guards.cmpsElement (w : Width) : Guards I (cmpsElement w) :=
  .bind (.readSource w) fun _ => .bind (.readDest w) fun _ => .frame fun _ => by simp [State.store, State.stepIndex]

protected theorem Guards.scasElement (w : Width) : Guards I (scasElement w) :=
  .bind (.readDest w) fun _ => .frame fun _ => by simp [State.store, State.stepIndex]

protected theorem Guards.insElement (w : Width) : Guards I (insElement w) :=
  .get_bind fun _ => .seq (.ioPermitted ..) <| .onKeys fun _ hk => .bind (.portRead ..) fun _ =>
    .modify fun _ h => (h.writeKeys hk).congr (State.stepIndex_store ..)

protected theorem Guards.lodsElement (w : Width) : Guards I (lodsElement w) :=
  .bind (.readSource w) fun _ => .frame fun _ => by simp [State.store, State.stepIndex]

protected theorem Guards.movsElement (w : Width) : Guards I (movsElement w) :=
  .bind (.readSource w) fun _ => .seq (.writeDest ..) (.frame fun s => s.stepBoth_store w)

protected theorem Guards.outsElement (w : Width) : Guards I (outsElement w) :=
  .get_bind fun _ => .seq (.ioPermitted ..) <| .bind (.readSource w) fun _ => .seq (.portWrite ..) (.frame fun s => s.stepIndex_store ..)

protected theorem Guards.stosElement (w : Width) : Guards I (stosElement w) :=
  .get_bind fun _ => .seq (.writeDest ..) (.frame fun s => s.stepIndex_store ..)

protected theorem Guards.repStep {stop : Flags → Bool} {element : M Unit} (h : Guards I element) : Guards I (repStep stop element) :=
  .get_bind fun _ => .ite .advance <| .seq h <| .seq (.frame fun s => s.setAddrReg_store ..) <|
    .get_bind fun _ => .ite .advance (.frame fun _ => rfl)

protected theorem Guards.xlatBody : Guards I xlatBody := .get_bind fun _ => .bind (.memRead ..) fun _ => .finish (.frame fun _ => rfl)

/-! Protection control. -/

theorem StoreInvariant.Holds.adjustKeys {s : State} {keys : List Nat} (h : I.Holds s) (hk : InMemory keys) (la : Word) (src : Half) :
    I.Holds (s.adjustKeys keys la src) := by
  unfold State.adjustKeys State.setZf
  dsimp only
  split
  · exact ((h.between.congr (t := s.between.noteData la 2 true) rfl).writeKeys hk).congr rfl
  · exact h.congr rfl

protected theorem Guards.arplBody (m : RM) (r : Reg) : Guards I (arplBody m r) :=
  .seq .requireProt <| .get_bind fun _ => by
    cases m with
    | reg q => exact .finish (.frame fun _ => rfl)
    | mem x => exact .access (.probeKeys ..) (fun h => (probeKeys_spec h).1) fun _ hk => .finish (.modify fun _ h => h.adjustKeys hk ..)

protected theorem Guards.testDescriptor (sel : Half) : Guards I (testDescriptor sel) := .ite (.pure _) (.readDescriptor sel)

protected theorem Guards.loadTested (m : RM) (r : Reg) (types : List Nat) (value : Descriptor → Word) :
    Guards I (loadTested m r types value) :=
  .seq .requireProt <| .bind (.readRM ..) fun _ => .bind (.testDescriptor _) fun x => .finish <| .frame fun s => by
    cases x with
    | none => exact rfl
    | some d => dsimp only; split <;> exact rfl

protected theorem Guards.verify (m : RM) (k : State → Half → Descriptor → Bool) : Guards I (verify m k) :=
  .seq .requireProt <| .bind (.readRM ..) fun _ => .bind (.testDescriptor _) fun _ => .finish (.frame fun _ => rfl)

protected theorem Guards.storeTable (m : RM) (k : State → TableReg) : Guards I (storeTable m k) :=
  .bind (.memOperand m) fun _ => .get_bind fun _ => .onKeys fun _ hl => .onKeys fun _ hb =>
    .finish (.modify fun _ h => (h.writeKeys hl).writeKeys hb)

protected theorem Guards.loadTable {m : RM} {k : TableReg → State → State} (hk : ∀ x (s : State), (k x s).store = s.store) :
    Guards I (loadTable m k) :=
  .seq .check <| .seq .requireCpl0 <| .bind (.memOperand m) fun _ => .get_bind fun _ =>
    .bind (.memRead ..) fun _ => .bind (.memRead ..) fun _ => .finish (.frame (hk _))

protected theorem Guards.lldtBody (m : RM) : Guards I (lldtBody m) :=
  .seq .requireProt <| .seq .requireCpl0 <| .bind (.readRM ..) fun _ => .ite (.finish (.frame fun _ => rfl)) <|
    .seq .check <| .bind .descriptor fun _ => .seq .check <| .seq .check (.finish (.frame fun _ => rfl))

protected theorem Guards.ltrBody (m : RM) : Guards I (ltrBody m) :=
  .seq .requireProt <| .seq .requireCpl0 <| .bind (.readRM ..) fun _ => .seq .check <| .seq .check <|
    .bind .descriptor fun _ => .seq .check <| .seq .check <| .seq (.writeAccessByte ..) (.finish (.frame fun _ => rfl))

protected theorem Guards.storeSystem (m : RM) (k : State → Half) : Guards I (storeSystem m k) :=
  .get_bind fun _ => .finish (.storeHalf ..)

protected theorem Guards.storeSelector (m : RM) (k : State → SegReg) : Guards I (storeSelector m k) :=
  .seq .requireProt (.storeSystem ..)

protected theorem Guards.lmswBody (m : RM) : Guards I (lmswBody m) :=
  .seq .requireCpl0 <| .bind (.readRM ..) fun _ => .finish <| .frame fun s => by rw [s.keepMode_eq]; exact rfl

/-! Processor control, WAIT and ESC. -/

/-- A control register written: a change of PG and a load of CR3 flush the TLB, and CR3 is loaded with its low bits clear. -/
theorem StoreInvariant.Holds.setCreg {s : State} (h : I.Holds s) (c : CReg) (v : Word) : I.Holds (s.setCreg c v) := by
  unfold State.setCreg
  cases c with
  | cr0 =>
    dsimp only
    rw [State.keepMode_eq]
    split
    · exact h.congr rfl
    · exact ⟨h.mem, I.flushed, h.cr3⟩
  | cr2 => exact h.congr rfl
  | cr3 =>
    dsimp only
    split <;> exact ⟨h.mem, I.flushed, I.masked v⟩

protected theorem Guards.moveToCr (c : CReg) (r : Reg) : Guards I (moveToCr c r) :=
  .seq .requireCpl0 <| .get_bind fun _ => .seq .check <| .ite (.throw_bind _ _) <|
    .change fun _ h => (h.setCreg c _).congr rfl

protected theorem Guards.moveFromCr (c : CReg) (r : Reg) : Guards I (moveFromCr c r) := .seq .requireCpl0 <| .changeFrame fun _ => rfl

protected theorem Guards.moveFromTr (x : TReg) (r : Reg) : Guards I (moveFromTr x r) := .seq .requireCpl0 <| .changeFrame fun _ => rfl

protected theorem Guards.halt : Guards I halt := .seq .requireCpl0 <| .changeFrame fun _ => rfl

protected theorem Guards.debugAccess : Guards I debugAccess := .get_bind fun _ => .ite (.seq (.frame fun _ => rfl) (.raise ..)) (.pure _)

protected theorem Guards.moveToDr (d : DReg) (r : Reg) : Guards I (moveToDr d r) :=
  .seq .requireCpl0 <| .seq .debugAccess <| .changeFrame fun _ => by cases d <;> exact rfl

protected theorem Guards.moveFromDr (d : DReg) (r : Reg) : Guards I (moveFromDr d r) :=
  .seq .requireCpl0 <| .seq .debugAccess (.changeFrame fun _ => rfl)

protected theorem Guards.moveToTr (x : TReg) (r : Reg) : Guards I (moveToTr x r) :=
  .seq .requireCpl0 <| .get_bind fun _ => .ite (.throw_bind _ _) <| .changeFrame fun _ => by cases x <;> exact rfl

protected theorem Guards.afterBusy {k : M Unit} (hk : Guards I k) : Guards I (afterBusy k) :=
  .get_bind fun _ => .ite (.frame fun _ => rfl) (.seq .check hk)

protected theorem Guards.waitBody : Guards I waitBody := .get_bind fun _ => .seq .check (.afterBusy .advance)

protected theorem Guards.escOperand (ttt lll : BitVec 3) (m : RM) : Guards I (escOperand ttt lll m) := by
  cases m with
  | reg r => exact .frame fun _ => rfl
  | mem x => exact .get_bind fun _ => .seq (.checkReg ..) <| .bind (.linKeys ..) fun _ => .frame fun _ => rfl

protected theorem Guards.escHandOver (ttt lll : BitVec 3) (m : RM) : Guards I (escHandOver ttt lll m) :=
  .seq (.escOperand ..) <| .seq .busTurn <| .seq (.frame fun _ => rfl) <| .ite (.finish (.seq .busTurn (.frame fun _ => rfl))) .advance

protected theorem Guards.escBody (ttt lll : BitVec 3) (m : RM) : Guards I (escBody ttt lll m) :=
  .get_bind fun _ => .seq .check <| .ite (.throw_bind _ _) (.ite (.escHandOver ..) (.afterBusy (.escHandOver ..)))

protected theorem Guards.operandOut (dword : Bool) (v : Word) : Guards I (operandOut dword v) :=
  .seq .busTurn <| .seq (.frame fun _ => rfl) <| .ite (.seq .cycleTurn (.frame fun _ => rfl)) (.pure _)

protected theorem Guards.transferItem (c : EscCommand) (dword : Bool) (value : Word) : Guards I (transferItem c dword value) :=
  .get_bind fun _ => .access (.regKeys ..) (fun h => (regKeys_spec h).1) fun _ hk => .get_bind fun _ =>
    .ite (.seq .busTurn (.store hk _)) (.operandOut ..)

/-! Outcomes. -/

/-- The invariant holds in the state that the outcome leads to, if any. -/
def StoreInvariant.Reached (I : StoreInvariant) (r : Result) : Prop := ∀ t, r = .next t → I.Holds t

theorem StoreInvariant.Reached.next {t : State} (h : I.Holds t) : I.Reached (.next t) := fun _ k => by cases k; exact h

theorem StoreInvariant.Reached.refused (r : Refusal) : I.Reached (.refused r) := fun _ k => nomatch k

theorem StoreInvariant.Reached.fault (f : Fault) : I.Reached (.fault f) := fun _ k => nomatch k

theorem StoreInvariant.Reached.deliverWith (n : Nat) (e : Event) (savedEip : Word) {s : State} (hs : I.Holds s) :
    I.Reached (deliverWith n e savedEip s) := by
  induction n generalizing e savedEip s with
  | zero => exact .next (hs.congr rfl)
  | succ n ih =>
    have ht := (Guards.entry (I := I) e savedEip).endState hs
    unfold Machine.deliverWith
    split <;> rename_i hx <;> rw [hx] at ht
    · exact .next (ht.congr rfl)
    · exact .refused _
    · exact .next ((hs.rollback ht).busStop _)
    · rename_i x keep t
      have hb : I.Holds (if keep then t else s.rollback t) := by
        cases keep with
        | true => exact ht
        | false => exact hs.rollback ht
      dsimp only
      split
      · exact .next (hb.congr rfl)
      · exact ih _ _ hb

theorem StoreInvariant.Reached.deliver (e : Event) (savedEip : Word) {s : State} (hs : I.Holds s) : I.Reached (deliver e savedEip s) :=
  .deliverWith 5 e savedEip hs

theorem StoreInvariant.Reached.stopped {s t : State} (hs : I.Holds s) (ht : I.Holds t) (e : Stop) : I.Reached (stopped s t e) := by
  cases e with
  | exc x keep =>
    cases keep with
    | true => exact .deliver _ _ ht
    | false => exact .deliver _ _ (hs.rollback ht)
  | refuse r => exact .refused r
  | bus b => exact .next ((hs.rollback ht).busStop b)

/-- A computation that keeps the invariant, as the meaning of an instruction. -/
theorem Guards.perform {body : M Unit} (h : Guards I body) {s : State} (hs : I.Holds s) : I.Reached (perform body s) := by
  have ht := h.endState hs
  unfold Machine.perform
  split <;> rename_i hx <;> rw [hx] at ht
  · exact .next (ht.congr rfl)
  · exact .stopped hs ht _

protected theorem Guards.noLock : Guards I noLock := .get_bind fun _ => .check

theorem Guards.instr {body : M Unit} (h : Guards I body) {s : State} (hs : I.Holds s) : I.Reached (instr body s) :=
  (Guards.noLock.seqRight h).perform hs

theorem Guards.lockable {body : M Unit} (h : Guards I body) (m : RM) {s : State} (hs : I.Holds s) : I.Reached (lockable m body s) := by
  cases m with
  | reg r => exact h.instr hs
  | mem x => exact ((Guards.pure ()).seqRight h).perform hs

theorem StoreInvariant.Reached.aluRmReg (op : AluOp) (d w : Bool) (m : RM) (r : Reg) {s : State} (hs : I.Holds s) :
    I.Reached (aluRmReg op d w m r s) := by
  cases d with
  | true => exact (Guards.aluFrom ..).instr hs
  | false => exact (Guards.aluTo ..).lockable m hs

theorem StoreInvariant.Reached.interruptAfter {pre : M Unit} (h : Guards I pre) (vec : Byte) {s : State} (hs : I.Holds s) :
    I.Reached (interruptAfter pre vec s) := by
  have hu := (Guards.noLock.seqRight h).endState hs
  unfold Machine.interruptAfter
  split <;> rename_i hx <;> rw [hx] at hu
  · exact .deliver _ _ hu
  · exact .stopped hs hu _

/-- Every instruction keeps the invariant. -/
theorem StoreInvariant.Reached.exec (i : Instr) {s : State} (hs : I.Holds s) : I.Reached (exec i s) := by
  cases i
  case pfxAddrSize | pfxLock | pfxOpSize | pfxCs | pfxDs | pfxEs | pfxFs | pfxGs | pfxSs | pfxRep | pfxRepne =>
    exact .next (hs.congr rfl)
  case movRmReg => exact (Guards.storeReg ..).instr hs
  case movRegRm => exact (Guards.loadReg ..).instr hs
  case movRmImm | movRegImm => exact (Guards.storeImm ..).instr hs
  case movAccMem => exact (Guards.loadAcc ..).instr hs
  case movMemAcc => exact (Guards.storeAcc ..).instr hs
  case movSegRm => exact (Guards.moveToSeg ..).instr hs
  case movRmSeg => exact (Guards.moveFromSeg ..).instr hs
  case movsx | movzx => exact (Guards.extendReg ..).instr hs
  case pushRm | pushReg => exact (Guards.pushOperand _).instr hs
  case pushSeg | pushFs | pushGs => exact (Guards.pushSelector _).instr hs
  case pushImm => exact (Guards.pushImmediate ..).instr hs
  case pusha => exact Guards.pushAllRegs.instr hs
  case popRm | popReg => exact (Guards.popOperand _).instr hs
  case popEs | popSs | popDs | popFs | popGs => exact (Guards.popSelector _).instr hs
  case popa => exact Guards.popAll.instr hs
  case xchgRmReg m _ => exact (Guards.exchange ..).lockable m hs
  case xchgAccReg => exact (Guards.exchange ..).instr hs
  case inImm | inDx => exact (Guards.inPort ..).instr hs
  case outImm | outDx => exact (Guards.outPort ..).instr hs
  case lea => exact (Guards.leaBody ..).instr hs
  case lds | les | lfs | lgs | lss => exact (Guards.loadFarPtr ..).instr hs
  case addRmReg | adcRmReg | subRmReg | sbbRmReg | andRmReg | orRmReg | xorRmReg => exact .aluRmReg _ _ _ _ _ hs
  case addRmImm m _ | adcRmImm m _ | subRmImm m _ | sbbRmImm m _ | andRmImm m _ | orRmImm m _ | xorRmImm m _ =>
    exact (Guards.aluTo ..).lockable m hs
  case addAccImm | adcAccImm | subAccImm | sbbAccImm | andAccImm | orAccImm | xorAccImm => exact (Guards.aluTo ..).instr hs
  case cmpRmReg | cmpRmImm | cmpAccImm => exact (Guards.readOnly ..).instr hs
  case testRmReg | testRmImm | testAccImm => exact (Guards.testBody ..).instr hs
  case incRm m | decRm m | negRm m | notRm m => exact (Guards.readWrite ..).lockable m hs
  case incReg | decReg => exact (Guards.readWrite ..).instr hs
  case aaa | aas => exact (Guards.asciiAdjust _).instr hs
  case daa | das => exact (Guards.decimalAdjust _).instr hs
  case mulRm | imulAcc => exact (Guards.multiplyAcc ..).instr hs
  case imulReg | imulImm => exact (Guards.imulTo ..).instr hs
  case divRm | idivRm => exact (Guards.divideAcc ..).instr hs
  case aad => exact (Guards.aadBody _).instr hs
  case aam => exact (Guards.aamBody _).instr hs
  case cbw => exact (Guards.changeFrame State.convertLow_store).instr hs
  case cwd => exact (Guards.changeFrame (k := State.convertHigh) fun _ => rfl).instr hs
  case rolOne | rolCl | rolImm | rorOne | rorCl | rorImm | rclOne | rclCl | rclImm | rcrOne | rcrCl | rcrImm | shlOne | shlCl | shlImm |
      shrOne | shrCl | shrImm | sarOne | sarCl | sarImm | shldImm | shldCl | shrdImm | shrdCl => exact (Guards.shiftBody ..).instr hs
  case bsf | bsr => exact (Guards.scanBits ..).instr hs
  case btRmImm => exact (Guards.bitImm ..).instr hs
  case btRmReg => exact (Guards.bitReg ..).instr hs
  case btcRmImm m _ | btrRmImm m _ | btsRmImm m _ => exact (Guards.bitImm ..).lockable m hs
  case btcRmReg m _ | btrRmReg m _ | btsRmReg m _ => exact (Guards.bitReg ..).lockable m hs
  case cmps => exact (Guards.cmpsElement _).finish.instr hs
  case ins => exact (Guards.insElement _).finish.instr hs
  case lods => exact (Guards.lodsElement _).finish.instr hs
  case movs => exact (Guards.movsElement _).finish.instr hs
  case outs => exact (Guards.outsElement _).finish.instr hs
  case scas => exact (Guards.scasElement _).finish.instr hs
  case stos => exact (Guards.stosElement _).finish.instr hs
  case repeCmps | repneCmps => exact (Guards.cmpsElement _).repStep.instr hs
  case repIns => exact (Guards.insElement _).repStep.instr hs
  case repLods => exact (Guards.lodsElement _).repStep.instr hs
  case repMovs => exact (Guards.movsElement _).repStep.instr hs
  case repOuts => exact (Guards.outsElement _).repStep.instr hs
  case repeScas | repneScas => exact (Guards.scasElement _).repStep.instr hs
  case repStos => exact (Guards.stosElement _).repStep.instr hs
  case xlat => exact Guards.xlatBody.instr hs
  case callRel => exact (Guards.nearCall _).instr hs
  case callRm => exact (Guards.indirect .nearCall).instr hs
  case callFar | jmpFar => exact (Guards.farTransfer ..).instr hs
  case callFarMem | jmpFarMem => exact (Guards.farIndirect ..).instr hs
  case jmpShort | jmpRel => exact (Guards.nearJump _).instr hs
  case jmpRm => exact (Guards.indirect .nearJump).instr hs
  case ret | retImm => exact (Guards.nearRet _).instr hs
  case retf | retfImm => exact (Guards.farRet _).instr hs
  case joShort | jnoShort | jbShort | jnbShort | jeShort | jneShort | jbeShort | jnbeShort | jsShort | jnsShort | jpShort | jnpShort |
      jlShort | jnlShort | jleShort | jnleShort | joNear | jnoNear | jbNear | jnbNear | jeNear | jneNear | jbeNear | jnbeNear | jsNear |
      jnsNear | jpNear | jnpNear | jlNear | jnlNear | jleNear | jnleNear | jcxz => exact (Guards.jumpIf ..).instr hs
  case loop | loopz | loopnz => exact (Guards.loopBody ..).instr hs
  case seto | setno | setb | setnb | sete | setne | setbe | setnbe | sets | setns | setp | setnp | setl | setnl | setle | setnle =>
    exact (Guards.setByte ..).instr hs
  case enter => exact (Guards.enterBody ..).instr hs
  case leave => exact Guards.leaveBody.instr hs
  case bound => exact (Guards.boundBody ..).instr hs
  case intN imm => exact .interruptAfter .requireV86Iopl imm hs
  case int3 => exact .interruptAfter (.pure ()) 3 hs
  case into =>
    show I.Reached (execInto s)
    unfold execInto
    split
    · exact .interruptAfter (.pure ()) 4 hs
    · exact Guards.advance.instr hs
  case iret => exact Guards.iretBody.instr hs
  case clc | cld | cmc | stc | std => exact (Guards.setFlags _).instr hs
  case cli => exact Guards.clearInterrupt.instr hs
  case sti => exact Guards.setInterrupt.instr hs
  case clts => exact Guards.clearTaskSwitched.instr hs
  case lahf => exact Guards.flagsToAh.instr hs
  case sahf => exact Guards.ahToFlags.instr hs
  case popf => exact Guards.popFlags.instr hs
  case pushf => exact Guards.pushFlags.instr hs
  case movRegCr => exact (Guards.moveFromCr ..).instr hs
  case movRegTr => exact (Guards.moveFromTr ..).instr hs
  case movCrReg => exact (Guards.moveToCr ..).instr hs
  case movRegDr => exact (Guards.moveFromDr ..).instr hs
  case movDrReg => exact (Guards.moveToDr ..).instr hs
  case movTrReg => exact (Guards.moveToTr ..).instr hs
  case hlt => exact Guards.halt.instr hs
  case nop => exact Guards.advance.instr hs
  case wait => exact Guards.waitBody.instr hs
  case esc => exact (Guards.escBody ..).instr hs
  case arpl => exact (Guards.arplBody ..).instr hs
  case lar | lsl => exact (Guards.loadTested ..).instr hs
  case verr | verw => exact (Guards.verify ..).instr hs
  case sgdt | sidt => exact (Guards.storeTable ..).instr hs
  case lgdt | lidt => exact (Guards.loadTable fun _ _ => by exact rfl).instr hs
  case sldt | str => exact (Guards.storeSelector ..).instr hs
  case smsw => exact (Guards.storeSystem ..).instr hs
  case lmsw => exact (Guards.lmswBody _).instr hs
  case lldt => exact (Guards.lldtBody _).instr hs
  case ltr => exact (Guards.ltrBody _).instr hs
  case und8F1 | und8F2 | und8F3 | und8F4 | und8F5 | und8F6 | und8F7 | undC61 | undC62 | undC63 | undC64 | undC65 | undC66 | undC67 |
      undFE2 | undFE3 | undFE4 | undFE5 | undFE6 | undFE7 | undFF7 | und0F006 | und0F007 | und0F015 | und0F017 | und0FBA0 | und0FBA1 |
      und0FBA2 | und0FBA3 => exact (Guards.raise ..).instr hs
  case undShift6 | undShiftImm6 | undF61 | undD6 | undF1 | und0F05 | und0F07 | und0FA6 | und0FA7 => exact (Guards.refuse _).instr hs

/-! The fetch, the boundary and the step. -/

protected theorem Guards.fetchInstr (c : Ctx) (off : Word) (room : Nat) (bs : List Byte) : Guards I (fetchInstr c off room bs) := by
  induction room generalizing bs with
  | zero =>
    unfold Machine.fetchInstr
    split
    · exact .raise ..
    · rename_i h
      cases h
    · exact .pure _
  | succ room ih =>
    unfold Machine.fetchInstr
    split
    · rename_i h
      cases h
    · rename_i h
      cases h
      exact .bind (.fetchByte _) fun _ => ih _
    · exact .pure _

theorem StoreInvariant.Holds.prefetchAt {s t : State} {off : Word} (h : I.Holds s) (ht : s.prefetchAt off = some t) : I.Holds t := by
  have hu := (Guards.translate (I := I) (s.linear .cs off) false s.user).endState h
  unfold State.prefetchAt at ht
  split at ht <;> rename_i hx <;> cases ht
  rw [hx] at hu
  exact hu

theorem StoreInvariant.Holds.prefetched {s : State} (h : I.Holds s) (next : Word) : I.Holds (s.prefetched next) := by
  unfold State.prefetched
  dsimp only
  split
  · split
    · exact h
    · split
      · exact h
      · rename_i t ht
        have first := h.prefetchAt ht
        cases hu : t.prefetchAt (next + BitVec.ofNat 32 (Config.prefetchDepth s.freeIdx % (queueDepth + 1) - 1)) with
        | none => exact first
        | some u => exact first.prefetchAt hu
  · exact h

protected theorem Guards.fetch : Guards I fetch :=
  .get_bind fun s => .bind (.fetchInstr ..) fun d => by
    cases d with
    | instr i len => exact .seq (.modify fun t h => h.prefetched _) (.pure _)
    | reject r => exact .pure _
    | more => exact .pure _

theorem StoreInvariant.Reached.rejected {s t : State} (hs : I.Holds s) (ht : I.Holds t) {body : M Unit} (h : Guards I body) :
    I.Reached (s.rejected t body) := by
  have hu := (Guards.noLock.seqRight h).endState ht
  unfold State.rejected
  split <;> rename_i hx <;> rw [hx] at hu
  · exact .next (hu.congr rfl)
  · exact .stopped hs hu _

theorem StoreInvariant.Reached.runDecoded {s t : State} (hs : I.Holds s) (ht : I.Holds t) (d : Decoded) :
    I.Reached (s.runDecoded t d) := by
  cases d with
  | instr i len => exact .exec i (ht.congr rfl)
  | more => exact .stopped hs ht (.exc _ false)
  | reject r =>
    cases r with
    | undefinedOpcode => exact .rejected hs ht (.raise ..)
    | specialCode => exact .rejected hs ht (Guards.requireCpl0.seqRight (.raise ..))
    | setccField => exact .rejected hs ht (.refuse _)
    | specialMod | cr1 | dr45 => exact .rejected hs ht (Guards.requireCpl0.seqRight (.refuse _))

theorem StoreInvariant.Reached.runNext {s : State} (hs : I.Holds s) : I.Reached s.runNext := by
  have ht := (Guards.fetch (I := I)).endState hs
  unfold State.runNext
  split <;> rename_i hx <;> rw [hx] at ht
  · exact .runDecoded hs ht _
  · exact .stopped hs ht _

theorem StoreInvariant.Reached.maskIntr {r : Result} (h : I.Reached r) : I.Reached (maskIntr r) := by
  cases r with
  | next s => exact .next ((h s rfl).congr rfl)
  | fault f => exact .fault f
  | refused r => exact .refused r

theorem StoreInvariant.Holds.takeNmi {s : State} (h : I.Holds s) : I.Holds s.takeNmi := h.congr rfl

theorem StoreInvariant.Reached.takeIntr {s : State} (hs : I.Holds s) : I.Reached s.takeIntr := by
  have acknowledge : Guards I acknowledge := .seq .busTurn <| .seq (.frame fun _ => rfl) <| .seq .cycleTurn (.frame fun _ => rfl)
  have ht := acknowledge.endState hs
  unfold State.takeIntr
  split <;> rename_i hx <;> rw [hx] at ht
  · exact .deliver _ _ ht
  · exact .stopped ht ht _

theorem StoreInvariant.Reached.nmiInShutdown {s : State} (hs : I.Holds s) : I.Reached s.nmiInShutdown := by
  have ht := (Guards.entry (I := I) nmiEvent s.eip).endState hs.takeNmi
  unfold State.nmiInShutdown
  split
  · exact .next hs.takeNmi
  · split <;> rename_i hx <;> rw [hx] at ht
    · exact .next (ht.congr rfl)
    · exact .refused _
    · exact .next ((hs.takeNmi.rollback ht).busStop _)
    · exact .next (hs.takeNmi.rollback ht)

theorem StoreInvariant.Reached.takeEscDue {s : State} (hs : I.Holds s) (x : Exc) : I.Reached (s.takeEscDue x) := by
  unfold State.takeEscDue
  dsimp only
  split <;> exact .deliver _ _ (hs.congr rfl)

theorem StoreInvariant.Holds.settle {s : State} (hs : I.Holds s) : I.Holds s.settle := hs.congr (by simp [State.store])

theorem StoreInvariant.Reached.proceed {s : State} (hs : I.Holds s) : I.Reached s.proceed := by
  unfold State.proceed
  split
  · exact .deliver _ _ (hs.congr rfl)
  · exact .runNext hs.settle

theorem StoreInvariant.Reached.ordinary {s : State} (hs : I.Holds s) : I.Reached s.ordinary := by
  unfold State.ordinary
  split_ifs
  · exact .deliver _ _ (hs.congr rfl)
  · exact .maskIntr (.deliver _ _ hs.takeNmi)
  · exact .takeIntr hs
  · exact .next hs
  · exact .proceed hs

theorem StoreInvariant.Reached.boundary {s : State} (hs : I.Holds s) : I.Reached s.boundary := by
  unfold State.boundary
  split_ifs
  · exact .nmiInShutdown hs
  · exact .next hs
  · split
    · exact .takeEscDue hs _
    · exact .ordinary hs

theorem StoreInvariant.Holds.itemFailed {s : State} (hs : I.Holds s) (c : EscCommand) (x : Exc) : I.Holds (s.itemFailed c x) := by
  unfold State.itemFailed
  split <;> exact hs.congr rfl

theorem StoreInvariant.Holds.pereq {s : State} (hs : I.Holds s) (dword : Bool) (value : Word) : I.Holds (s.pereq dword value) := by
  unfold State.pereq
  split
  · rename_i c _ _
    have ht := (Guards.transferItem (I := I) c dword value).endState hs
    split <;> rename_i hx <;> rw [hx] at ht
    · exact ht.congr rfl
    · exact (hs.rollback ht).busStop _
    · exact (hs.rollback ht).itemFailed _ _
    · exact hs.rollback ht
  · exact hs

theorem StoreInvariant.Holds.receive {s : State} (hs : I.Holds s) (x : Stimulus) : I.Holds (s.receive x) := by
  cases x with
  | reset => exact hs.resetEvent
  | dma address value => exact ⟨I.cellPut hs.mem (BitVec.isLt _), hs.tlb, hs.cr3⟩
  | pereq dword value =>
    unfold State.receive
    dsimp only
    split
    · exact hs
    · exact hs.pereq _ _
  | intr | nmi | busy | error | port | stall => exact hs.congr rfl

theorem StoreInvariant.Holds.receiveAll {s : State} (hs : I.Holds s) (xs : List Stimulus) : I.Holds (s.receiveAll xs) := by
  induction xs generalizing s with
  | nil => exact hs
  | cons x rest ih => exact ih (hs.receive x)

theorem StoreInvariant.Holds.withStimuli {s : State} (hs : I.Holds s) (rest : List (List Stimulus)) :
    I.Holds { s with stimuli := rest } := hs.congr rfl

theorem StoreInvariant.Reached.boundaryWith {s : State} (hs : I.Holds s) (xs : List Stimulus) : I.Reached (s.boundaryWith xs) := by
  unfold State.boundaryWith
  dsimp only
  split
  · exact .next (hs.receiveAll xs)
  · exact .boundary (hs.receiveAll xs)

theorem StoreInvariant.Reached.stalledCycle {s : State} (hs : I.Holds s) : I.Reached s.stalledCycle := by
  unfold State.stalledCycle
  split
  · exact .fault _
  · exact .next ((hs.withStimuli _).receiveAll _)

theorem StoreInvariant.Reached.cycle {s : State} (hs : I.Holds s) : I.Reached s.cycle := by
  unfold State.cycle
  split_ifs
  · exact .stalledCycle hs
  · split
    · exact .boundary hs
    · exact .boundaryWith (hs.withStimuli _) _
  · exact .runNext hs

/-- Every step keeps the invariant. -/
theorem StoreInvariant.Reached.step {s : State} (hs : I.Holds s) : I.Reached (step s) := by
  intro t ht
  unfold Machine.step at ht
  cases hc : s.cycle with
  | next u =>
    rw [hc] at ht
    cases ht
    exact (StoreInvariant.Reached.cycle hs u hc).congr rfl
  | fault f => rw [hc] at ht; cases ht
  | refused r => rw [hc] at ht; cases ht

/-! The canonical form of memory. -/

/-- Memory in canonical form, whatever the TLB and CR3. -/
def canonicalMemory : StoreInvariant where
  mem := memWf
  tlb _ := True
  cr3 _ := True
  cellPut h ha := cellPut_wf _ _ _ h ha
  flushed := trivial
  filtered _ _ := trivial
  cached _ _ := trivial
  masked _ := trivial

/-- Settles O8: a step writes memory a byte at a time, at addresses within it, and such a write keeps the canonical form. -/
theorem stepKeepsMemoryCanonical : Obligations.StepKeepsMemoryCanonical := fun _ t hs ht =>
  (StoreInvariant.Reached.step (I := canonicalMemory) ⟨hs, trivial, trivial⟩ t ht).mem

end Sys2Proof.Machine
end

section
/-!
Physical memory as bytes and as values (20_memory.md R201, R205): what a store writes, byte by byte, and what a read puts together.
-/
namespace Sys2Proof.Machine

open Sys2Proof

/-! Values of bytes. -/

/-- A bit of the value that bytes make is a bit of one of them. -/
theorem littleEndian_getLsbD (bytes : List Byte) (j : Nat) (hj : j < 32) :
    (littleEndian bytes).getLsbD j = (bytes.getD (j / 8) 0).getLsbD (j % 8) := by
  induction bytes generalizing j with
  | nil => simp [littleEndian]
  | cons b rest ih =>
    rw [littleEndian, BitVec.getLsbD_or, BitVec.getLsbD_shiftLeft, BitVec.getLsbD_setWidth]
    rcases Nat.lt_or_ge j 8 with h | h
    · rw [Nat.div_eq_of_lt h, Nat.mod_eq_of_lt h]
      simp [h, hj]
    · have hd : j / 8 = (j - 8) / 8 + 1 := by omega
      have hm : j % 8 = (j - 8) % 8 := by omega
      rw [hd, hm, List.getD_cons_succ, ← ih (j - 8) (by omega), BitVec.getLsbD_of_ge b j h]
      simp [hj, Nat.not_lt.mpr h]

/-- The byte `i` of the value that four bytes or fewer make is the byte `i` of them. -/
theorem littleEndian_byte (bytes : List Byte) (i : Nat) (hi : i < 4) : (littleEndian bytes).extractLsb' (8 * i) 8 = bytes.getD i 0 := by
  apply BitVec.eq_of_getLsbD_eq
  intro j hj
  have hd : (8 * i + j) / 8 = i := by omega
  have hm : (8 * i + j) % 8 = j := by omega
  rw [BitVec.getLsbD_extractLsb', littleEndian_getLsbD _ _ (by omega), hd, hm]
  simp [hj]

/-! Stores. -/

/-- A store of distinct bytes writes the byte `i` of the value at the `i`-th of them. -/
theorem State.byte_writeKeys_getElem {s : State} {keys : List Nat} {v : Word} (hs : memWf s.mem) (hk : InMemory keys) (hd : keys.Nodup)
    (i : Nat) (hi : i < keys.length) : (s.writeKeys keys v).byte keys[i] = v.extractLsb' (8 * i) 8 := by
  induction keys generalizing s v i with
  | nil => exact absurd hi (Nat.not_lt_zero _)
  | cons a rest ih =>
    obtain ⟨ha, hrest⟩ := List.nodup_cons.mp hd
    have hwf : memWf (s.putByte a (v.setWidth 8)).mem := cellPut_wf _ _ _ hs (hk a (by simp))
    show ((s.putByte a (v.setWidth 8)).writeKeys rest (v >>> 8)).byte (a :: rest)[i] = _
    cases i with
    | zero =>
      rw [List.getElem_cons_zero, State.byte_writeKeys_notMem _ _ _ _ ha]
      exact cellAt_cellPut_eq _ _ _ hs.1
    | succ i =>
      rw [List.getElem_cons_succ, ih hwf (fun k h => hk k (by simp [h])) hrest i (by simpa using hi)]
      apply BitVec.eq_of_getLsbD_eq
      intro j hj
      simp only [BitVec.getLsbD_extractLsb', BitVec.getLsbD_ushiftRight, hj, decide_true, Bool.true_and]
      congr 1
      omega

/-- What was stored at distinct bytes is read back, as far as they reach. -/
theorem State.readKeys_writeKeys {s : State} {keys : List Nat} {v : Word} (hs : memWf s.mem) (hk : InMemory keys) (hd : keys.Nodup) :
    (s.writeKeys keys v).readKeys keys = v &&& BitVec.ofNat 32 (2 ^ (8 * keys.length) - 1) := by
  apply BitVec.eq_of_getLsbD_eq
  intro j hj
  have hbyte : (keys.map (s.writeKeys keys v).byte).getD (j / 8) 0 = if j / 8 < keys.length then v.extractLsb' (8 * (j / 8)) 8 else 0 := by
    split
    · rename_i h
      rw [List.getD_eq_getElem _ _ (by simpa using h), List.getElem_map, State.byte_writeKeys_getElem hs hk hd _ h]
    · rename_i h
      exact List.getD_eq_default _ _ (by simpa using h)
  have hpos : 8 * (j / 8) + j % 8 = j := Nat.div_add_mod j 8
  have hreach : j / 8 < keys.length ↔ j < 8 * keys.length := by omega
  rw [State.readKeys, littleEndian_getLsbD _ _ hj, hbyte, BitVec.getLsbD_and, BitVec.getLsbD_ofNat, Nat.testBit_two_pow_sub_one]
  by_cases h : j < 8 * keys.length
  · rw [if_pos (hreach.mpr h), BitVec.getLsbD_extractLsb', hpos]
    simp [hj, h, Nat.mod_lt]
  · rw [if_neg fun k => h (hreach.mp k)]
    simp [h]

/-! Consecutive bytes. -/

/-- Where no address line is masked, the byte `i` after the one that `pa` names is at the address modulo 2^24. -/
theorem State.physKey_add {s : State} (ha : s.platform.a20Wrap = false) (pa : Word) (i : Nat) :
    s.physKey (pa + BitVec.ofNat 32 i) = (pa.toNat + i) % 2 ^ 24 := by
  have hmask (x : BitVec 24) : x &&& 0xFFFFFF = x := BitVec.and_allOnes
  unfold State.physKey
  rw [ha, if_neg (by decide), hmask, BitVec.toNat_setWidth, BitVec.toNat_add, BitVec.toNat_ofNat]
  omega

theorem State.physKeys_nodup {s : State} (ha : s.platform.a20Wrap = false) (pa : Word) {nb : Nat} (hn : nb ≤ 4) :
    (s.physKeys pa nb).Nodup := by
  refine List.Nodup.map_on (fun i hi j hj h => ?_) List.nodup_range
  have hi := List.mem_range.mp hi
  have hj := List.mem_range.mp hj
  rw [s.physKey_add ha, s.physKey_add ha] at h
  omega

theorem State.physKeys_getElem (s : State) (pa : Word) (nb i : Nat) (h : i < (s.physKeys pa nb).length) :
    (s.physKeys pa nb)[i] = s.physKey (pa + BitVec.ofNat 32 i) := by
  simp [State.physKeys]

/-- Settles O7: a store writes its bytes one after the other, each a write of one cell. -/
theorem memoryReadsLastWrite : Obligations.MemoryReadsLastWrite := by
  refine ⟨fun s pa v nb i hs ha hn hi => ?_, fun s a v hs ha => ?_, fun s keys v hs hk hd _ => ?_⟩
  · have hl : i < (s.physKeys pa nb).length := by rwa [(s.physKeys_spec pa nb).2]
    have hkey : (s.physKeys pa nb)[i] = (pa.toNat + i) % 2 ^ 24 := by rw [s.physKeys_getElem, s.physKey_add ha]
    rw [← hkey]
    refine ⟨State.byte_writeKeys_getElem hs (s.inMemory_physKeys pa nb) (s.physKeys_nodup ha pa hn) i hl, ?_⟩
    rw [State.readKeys, littleEndian_byte _ _ (by omega), List.getD_eq_getElem _ _ (by simpa using hl), List.getElem_map]
  · exact ⟨cellAt_cellPut_eq _ _ _ hs.1, fun b hb => State.byte_putByte_ne _ _ _ _ hb, cellPut_wf _ _ _ hs ha⟩
  · exact ⟨State.readKeys_writeKeys hs hk hd, fun b hb => State.byte_writeKeys_notMem _ _ _ _ hb⟩

end Sys2Proof.Machine
end

section
/-!
Accesses with paging off (20_memory.md R208, R210, R222): what the checks of a segment answer in every case, and what they mean byte by
byte.
-/
namespace Sys2Proof.Machine

open Sys2Proof

/-- The checks of a segment register, in their order: each raises its exception with nothing changed. -/
theorem checkReg_apply (r : SegReg) (stack : Bool) (off : Word) (nb : Nat) (a : Access) (s : State) :
    checkReg r stack off nb a s =
      if s.prot && (!r.valid || r.forbids a) then .error (.exc ⟨13, some 0⟩ false) s
      else if r.outside off nb s.prot then .error (.exc ⟨if stack then 12 else 13, some 0⟩ false) s
      else .ok () s := by
  unfold checkReg
  rw [M.get_bind]
  cases s.prot && (!r.valid || r.forbids a) with
  | true => rfl
  | false => cases r.outside off nb s.prot <;> cases stack <;> rfl

/-- With paging off the bytes of an access are those that its linear address names, after what the environment does. -/
theorem linKeys_of_unpaged {s : State} (h : s.pg = false) (la : Word) (nb : Nat) (write user : Bool) :
    linKeys la nb write user s =
      match busTurn s with
      | .ok _ t => .ok (s.physKeys la nb) t
      | .error e t => .error e t := by
  cases ht : busTurn s with
  | ok u t => exact linKeys_unpaged h ht
  | error e t =>
    unfold linKeys
    rw [M.bind_of_ok (a := s.physKeys la nb) (t := s) (by unfold linPages; rw [M.get_bind, h]; rfl), M.bind_of_error ht]

/-- An access to an operand with paging off, however it ends. -/
theorem memKeys_of_unpaged {s : State} (h : s.pg = false) (g : Seg) (off : Word) (nb : Nat) (write : Bool) :
    memKeys g off nb write s =
      if s.rightsViolated g (if write then .write else .read) then .error (.exc ⟨13, some 0⟩ false) s
      else if s.limitViolated g off nb then .error (.exc ⟨if g = .ss then 12 else 13, some 0⟩ false) s
      else match busTurn s with
        | .ok _ t => .ok (s.physKeys (s.linear g off) nb) (t.noteData (s.linear g off) nb write)
        | .error e t => .error e t := by
  unfold memKeys regKeys State.rightsViolated State.limitViolated
  rw [M.get_bind, M.bind_apply, checkReg_apply]
  cases s.prot && (!(s.seg g).valid || (s.seg g).forbids (if write then .write else .read)) with
  | true => rfl
  | false =>
    cases (s.seg g).outside off nb s.prot with
    | true => cases g <;> rfl
    | false =>
      simp only [Bool.false_eq_true, if_false]
      rw [M.bind_apply, linKeys_of_unpaged h]
      cases busTurn s <;> rfl

/-- The bytes of a segment: those up to its limit, or, in Protected Mode with an expand-down segment, those above it up to FFFFH or
FFFFFFFFH. -/
def SegReg.holdsByte (r : SegReg) (prot : Bool) (k : Nat) : Prop :=
  if prot && r.expandDown then r.limit.toNat < k ∧ k ≤ (if arD r.ar then 0xFFFFFFFF else 0xFFFF) else k ≤ r.limit.toNat

/-- An access leaves the segment where one of its bytes does. -/
theorem SegReg.outside_iff (r : SegReg) (off : Word) (nb : Nat) (prot : Bool) (hn : 0 < nb) :
    r.outside off nb prot = true ↔ ∃ i, i < nb ∧ ¬ r.holdsByte prot (off.toNat + i) := by
  unfold SegReg.outside SegReg.holdsByte
  cases prot && r.expandDown with
  | false =>
    simp only [Bool.false_eq_true, if_false, decide_eq_true_eq]
    constructor
    · exact fun h => ⟨nb - 1, by omega, by omega⟩
    · rintro ⟨i, hi, h⟩
      omega
  | true =>
    generalize (if arD r.ar then 0xFFFFFFFF else 0xFFFF : Nat) = top
    simp only [if_true, Bool.or_eq_true, decide_eq_true_eq]
    constructor
    · rintro (h | h)
      · exact ⟨0, hn, by omega⟩
      · exact ⟨nb - 1, by omega, by omega⟩
    · rintro ⟨i, hi, h⟩
      omega

/-- In Protected Mode a null selector permits nothing, and the access rights forbid some accesses. -/
theorem State.rightsViolated_iff (s : State) (g : Seg) (a : Access) :
    s.rightsViolated g a = true ↔ s.prot = true ∧ ((s.seg g).valid = false ∨ (s.seg g).forbids a = true) := by
  simp [State.rightsViolated]

/-- Settles O14: the checks answer in their order, and each is read off the segment register. -/
theorem unpagedAccess : Obligations.UnpagedAccess := by
  refine ⟨fun s g off nb write h => ⟨memKeys_of_unpaged h g off nb write, busTurn_nil⟩, fun s g off nb a hn => ⟨?_, ?_⟩⟩
  · refine ((s.seg g).outside_iff off nb s.prot hn).trans ?_
    simp only [SegReg.holdsByte, SegReg.expandDown, arE, arC, arD, Bool.and_assoc]
    exact Iff.rfl
  · refine (s.rightsViolated_iff g a).trans (and_congr_right fun _ => or_congr_right ?_)
    cases a with
    | read => simp [SegReg.forbids, arE, arW]
    | write => simp [SegReg.forbids, arE, arW]
    | execute => simp [SegReg.forbids]

end Sys2Proof.Machine
end


-- ==== Proofs: arithmetic and logic on operands ====
section
/-!
PROOFS. The forms that read and write one operand: what `readWrite` leaves for a register and for memory, the shared two-operand forms on
top of it (42_arithmetic.md R701), INC, DEC, NEG and NOT, and the flags of a result.
-/
namespace Sys2Proof.Machine

open Sys2Proof

/-! Reading and writing one operand. -/

theorem readWrite_reg (w : Width) (r : Reg) (k : BitVec w.bits → Flags → BitVec w.bits × Flags) (s : State) :
    readWrite w (.reg r) k s = .ok () (s.updateReg w r k).advance := rfl

theorem readWrite_mem {w : Width} {x : MemRef} {keys : List Nat} {s t : State} (k : BitVec w.bits → Flags → BitVec w.bits × Flags)
    (h : memKeys (s.ea x).1 (s.ea x).2 w.bytes true s = .ok keys t) :
    readWrite w (.mem x) k s = .ok () (t.updateKeys w keys k).advance :=
  M.bind_of_ok (updateRM_mem_ok.mpr ⟨keys, t, h, rfl⟩)

theorem lockable_readWrite_reg {w : Width} {r : Reg} {s : State} (k : BitVec w.bits → Flags → BitVec w.bits × Flags)
    (hl : s.pfx.lock = false) :
    lockable (.reg r) (readWrite w (.reg r) k) s = .next (s.updateReg w r k).advance.complete :=
  lockable_reg_ok hl (readWrite_reg w r k s)

theorem lockable_readWrite_mem {w : Width} {x : MemRef} {keys : List Nat} {s t : State}
    (k : BitVec w.bits → Flags → BitVec w.bits × Flags) (h : memKeys (s.ea x).1 (s.ea x).2 w.bytes true s = .ok keys t) :
    lockable (.mem x) (readWrite w (.mem x) k) s = .next (t.updateKeys w keys k).advance.complete :=
  lockable_mem_ok (readWrite_mem k h)

/-- A byte that is none of the operand's is what other bus masters leave between the read and the write. -/
theorem State.byte_updateKeys_notMem {w : Width} {keys : List Nat} {a : Nat} (t : State)
    (k : BitVec w.bits → Flags → BitVec w.bits × Flags) (h : a ∉ keys) :
    (t.updateKeys w keys k).advance.complete.byte a = t.between.byte a :=
  State.byte_writeKeys_notMem _ keys _ a h

/-! The forms of the two-operand operations. -/

section
variable {s t : State} {w : Bool} (op : AluOp)

theorem aluTo_reg {W : Width} (q : Reg) (b : BitVec W.bits) :
    aluTo op W (.reg q) b s = .ok () (s.updateReg W q fun a f => alu op f s.freeIdx a b).advance := rfl

theorem aluTo_mem {W : Width} {x : MemRef} {keys : List Nat} (b : BitVec W.bits)
    (h : memKeys (s.ea x).1 (s.ea x).2 W.bytes true s = .ok keys t) :
    aluTo op W (.mem x) b s = .ok () (t.updateKeys W keys fun a f => alu op f s.freeIdx a b).advance :=
  readWrite_mem _ h

theorem aluRmReg_reg (q r : Reg) (hl : s.pfx.lock = false) :
    aluRmReg op false w (.reg q) r s = .next (s.updateReg (s.width w) q
      fun a f => alu op f s.freeIdx a (s.reg (s.width w) r)).advance.complete :=
  lockable_reg_ok hl (aluTo_reg op q _)

theorem aluRmReg_mem {x : MemRef} {keys : List Nat} (r : Reg)
    (h : memKeys (s.ea x).1 (s.ea x).2 (s.width w).bytes true s = .ok keys t) :
    aluRmReg op false w (.mem x) r s = .next (t.updateKeys (s.width w) keys
      fun a f => alu op f s.freeIdx a (s.reg (s.width w) r)).advance.complete :=
  lockable_mem_ok (aluTo_mem op _ h)

theorem aluRmReg_to {m : RM} {b : BitVec (s.width w).bits} (r : Reg) (hl : s.pfx.lock = false)
    (h : readRM (s.width w) m s = .ok b t) :
    aluRmReg op true w m r s = .next (t.updateReg (s.width w) r fun a f => alu op f s.freeIdx a b).advance.complete :=
  instr_ok hl (M.bind_of_ok h)

theorem aluRmImm_reg (s8 : Bool) (q : Reg) (imm : Word) (hl : s.pfx.lock = false) :
    aluRmImm op s8 w (.reg q) imm s = .next (s.updateReg (s.width w) q
      fun a f => alu op f s.freeIdx a (immValue (s.width w) (s8 && w) imm)).advance.complete :=
  lockable_reg_ok hl (aluTo_reg op q _)

theorem aluRmImm_mem {x : MemRef} {keys : List Nat} (s8 : Bool) (imm : Word)
    (h : memKeys (s.ea x).1 (s.ea x).2 (s.width w).bytes true s = .ok keys t) :
    aluRmImm op s8 w (.mem x) imm s = .next (t.updateKeys (s.width w) keys
      fun a f => alu op f s.freeIdx a (immValue (s.width w) (s8 && w) imm)).advance.complete :=
  lockable_mem_ok (aluTo_mem op _ h)

theorem aluAccImm_apply (imm : Word) (hl : s.pfx.lock = false) :
    aluAccImm op w imm s = .next (s.updateReg (s.width w) .eax
      fun a f => alu op f s.freeIdx a (immValue (s.width w) false imm)).advance.complete :=
  instr_ok hl rfl

end

/-! Immediates and the flags of a result. -/

theorem toInt_immValue_signed (w : Width) (imm : Word) : (immValue w true imm).toInt = (imm.extractLsb' 0 8).toInt := by
  have hw : 8 ≤ w.bits := by cases w <;> decide
  have he : imm.extractLsb' 0 8 = imm.setWidth 8 := by
    ext i hi
    simp
  rw [he]
  exact BitVec.toInt_signExtend_of_le hw

theorem beq_zero_iff_toNat {n : Nat} (r : BitVec n) : (r == 0) = true ↔ r.toNat = 0 := by
  rw [beq_iff_eq, ← BitVec.toNat_inj]
  rfl

/-- `parity` is the exclusive or of eight bits; their number is even where it is 0. -/
theorem parity_iff {n : Nat} (r : BitVec n) : parity r = true ↔ ((List.range 8).countP fun i => r.getLsbD i) % 2 = 0 := by
  have evenly (a b c d e f g h : Bool) : (!(a ^^ b ^^ c ^^ d ^^ e ^^ f ^^ g ^^ h)) = true ↔
      (a.toNat + b.toNat + c.toNat + d.toNat + e.toNat + f.toNat + g.toNat + h.toNat) % 2 = 0 := by
    revert a b c d e f g h
    decide
  unfold parity
  rw [evenly, show List.range 8 = [0, 1, 2, 3, 4, 5, 6, 7] from rfl]
  simp only [List.countP_cons, List.countP_nil, Nat.zero_add, Bool.toNat, Bool.cond_eq_ite, Nat.add_assoc]
  omega

theorem logicFlags_bitwise {n : Nat} (f : Flags) (idx : Nat) (r : BitVec n) : (logicFlags f idx r).bitwise f idx r :=
  ⟨⟨rfl, beq_zero_iff_toNat r, parity_iff r⟩, rfl, rfl⟩

/-- Settles O27: every form is `readWrite` of the operation, or, to a register from an operand, its update after the operand's read. -/
theorem arithmeticAndLogicForms : Obligations.ArithmeticAndLogicForms := by
  intro s t w m r q x s8 imm keys
  refine ⟨?add, ?adc, ?sub, ?sbb, ?and, ?or, ?xor, toInt_immValue_signed _ _, rfl, fun k a ha => State.byte_updateKeys_notMem t k ha,
    State.between_nil, fun k => ⟨rfl, rfl⟩, fun f idx a b => ⟨rfl, rfl, rfl, rfl, rfl, rfl, rfl, ?flags⟩⟩
  case flags =>
    intro op hop
    rcases List.mem_cons.mp hop with rfl | hop
    · exact logicFlags_bitwise f idx _
    rcases List.mem_cons.mp hop with rfl | hop
    · exact logicFlags_bitwise f idx _
    obtain rfl := List.mem_singleton.mp hop
    exact logicFlags_bitwise f idx _
  all_goals exact ⟨fun hl => ⟨aluRmReg_reg _ q r hl, aluRmImm_reg _ s8 q imm hl, aluAccImm_apply _ imm hl,
    fun b hb => aluRmReg_to _ r hl hb⟩, fun h => ⟨aluRmReg_mem _ r h, aluRmImm_mem _ s8 imm h⟩⟩

/-! INC, DEC, NEG, NOT. -/

theorem subFlags_zero_fst {n : Nat} (f : Flags) (a : BitVec n) : (subFlags f 0 a false).1 = -a := by
  simp [subFlags]

theorem subFlags_zero_cf {n : Nat} (f : Flags) (a : BitVec n) : (subFlags f 0 a false).2.cf = true ↔ a ≠ 0 := by
  simp only [subFlags, decide_eq_true_eq, Bool.toNat_false, Nat.add_zero, ne_eq, ← BitVec.toNat_inj]
  exact Nat.pos_iff_ne_zero

/-- Settles O29: the four are `readWrite` of one operation, and INC and DEC are the sum and the difference with 1 that keep CF. -/
theorem incrementDecrementNegateNot : Obligations.IncrementDecrementNegateNot := by
  intro s t w q x keys
  refine ⟨?inc, ?dec, ?neg, ?not, fun hl => ⟨instr_ok hl rfl, instr_ok hl rfl⟩, fun k a ha => State.byte_updateKeys_notMem t k ha,
    State.between_nil, fun V f a => ⟨rfl, rfl, rfl, rfl, rfl, subFlags_zero_fst f a, subFlags_zero_cf f a⟩⟩
  all_goals exact ⟨lockable_readWrite_reg _, lockable_readWrite_mem _⟩

end Sys2Proof.Machine
end


-- ==== Proofs: bit scans and bit tests ====
section
/-!
PROOFS. BSF, BSR, BT, BTC, BTR, BTS (45_bit.md): which bit a scan finds, what a bit operation leaves of the other bits, how far a register
offset moves the address, and what each form leaves.
-/
namespace Sys2Proof.Machine

open Sys2Proof

/-! Scans. -/

theorem scanBits_ok {w : Width} {m : RM} {v : BitVec w.bits} {s t : State} (r : Reg) (find : BitVec w.bits → Option Nat)
    (h : readRM w m s = .ok v t) :
    scanBits w m r find s = .ok () { t.setReg w r (match find v with
        | some i => BitVec.ofNat w.bits i
        | none => (Config.undef t.freeIdx 6).setWidth w.bits) with
      flags := { t.flags.undefCOSAP t.freeIdx with zf := v == 0 } }.advance :=
  (M.bind_of_ok h).trans rfl

/-- A search through the positions of the bits, in any order, fails on 0 alone. -/
theorem find?_bits_eq_none {n : Nat} {v : BitVec n} {l : List Nat} (hl : ∀ i, i < n → i ∈ l) :
    l.find? (fun i => v.getLsbD i) = none ↔ v = 0 := by
  rw [List.find?_eq_none]
  constructor
  · intro h
    refine BitVec.eq_of_getLsbD_eq fun i hi => ?_
    simpa using h i (hl i hi)
  · rintro rfl i _
    simp

theorem lowestBit_eq_none {n : Nat} (v : BitVec n) : lowestBit v = none ↔ v = 0 :=
  find?_bits_eq_none fun _ hi => List.mem_range.mpr hi

theorem highestBit_eq_none {n : Nat} (v : BitVec n) : highestBit v = none ↔ v = 0 :=
  find?_bits_eq_none fun _ hi => List.mem_reverse.mpr (List.mem_range.mpr hi)

theorem lowestBit_eq_some {n : Nat} (v : BitVec n) (i : Nat) :
    lowestBit v = some i ↔ v.getLsbD i = true ∧ ∀ j, j < i → v.getLsbD j = false := by
  unfold lowestBit
  rw [List.find?_range_eq_some]
  constructor
  · rintro ⟨hi, -, hj⟩
    exact ⟨hi, fun j h => by simpa using hj j h⟩
  · rintro ⟨hi, hj⟩
    exact ⟨hi, List.mem_range.mpr (BitVec.lt_of_getLsbD hi), fun j h => by simp [hj j h]⟩

theorem highestBit_eq_some {n : Nat} (v : BitVec n) (i : Nat) :
    highestBit v = some i ↔ v.getLsbD i = true ∧ ∀ j, i < j → v.getLsbD j = false := by
  unfold highestBit
  rw [List.find?_eq_some_iff_getElem]
  simp only [List.length_reverse, List.length_range, List.getElem_reverse, List.getElem_range]
  constructor
  · rintro ⟨hi, k, hk, hki, hj⟩
    refine ⟨hi, fun j hij => ?_⟩
    by_cases hjn : j < n
    · have := hj (n - 1 - j) (by omega)
      rwa [show n - 1 - (n - 1 - j) = j by omega, Bool.not_eq_true'] at this
    · exact BitVec.getLsbD_of_ge v j (by omega)
  · rintro ⟨hi, hj⟩
    have hin : i < n := BitVec.lt_of_getLsbD hi
    exact ⟨hi, n - 1 - i, by omega, by omega, fun j h => by rw [hj _ (by omega)]; rfl⟩

/-! Bit operations. -/

theorem BitOp.getLsbD_complement {n i j : Nat} (v : BitVec n) (hi : i < n) :
    (BitOp.complement.apply v i).getLsbD j = if j = i then !v.getLsbD i else v.getLsbD j := by
  simp only [BitOp.apply, BitVec.getLsbD_xor, BitVec.getLsbD_twoPow, hi, decide_true, Bool.true_and]
  by_cases h : j = i
  · simp [h]
  · simp [h, Ne.symm h]

theorem BitOp.getLsbD_reset {n i j : Nat} (v : BitVec n) (hi : i < n) (hj : j < n) :
    (BitOp.reset.apply v i).getLsbD j = if j = i then false else v.getLsbD j := by
  simp only [BitOp.apply, BitVec.getLsbD_and, BitVec.getLsbD_not, BitVec.getLsbD_twoPow, hi, hj, decide_true, Bool.true_and]
  by_cases h : j = i
  · simp [h]
  · simp [h, Ne.symm h]

theorem BitOp.getLsbD_set {n i j : Nat} (v : BitVec n) (hi : i < n) :
    (BitOp.set.apply v i).getLsbD j = if j = i then true else v.getLsbD j := by
  simp only [BitOp.apply, BitVec.getLsbD_or, BitVec.getLsbD_twoPow, hi, decide_true, Bool.true_and]
  by_cases h : j = i
  · simp [h]
  · simp [h, Ne.symm h]

/-! The distance of a register offset. -/

theorem bits_eq_bytes (w : Width) : w.bits = 8 * w.bytes := by cases w <;> rfl

/-- The distance is within the signed 32 bits. -/
theorem toInt_bitDistance (w : Width) (off : BitVec w.bits) : (bitDistance w off).toInt = w.bytes * (off.toInt / w.bits) := by
  unfold bitDistance
  rw [BitVec.toInt_ofInt]
  have hlow := BitVec.le_toInt off
  have hhigh := BitVec.toInt_lt (x := off)
  apply Int.bmod_eq_of_le <;> cases w <;> simp only [Width.bits, Width.bytes] at * <;> omega

theorem toInt_emod_bits (w : Width) (off : BitVec w.bits) : off.toInt % w.bits = (off.toNat % w.bits : Nat) := by
  rw [BitVec.toInt_eq_toNat_cond]
  cases w <;> simp only [Width.bits] at * <;> split <;> omega

/-- What is left of the offset is the number of a bit of the operand. -/
theorem sub_bitDistance (w : Width) (off : BitVec w.bits) : off.toInt - 8 * (bitDistance w off).toInt = off.toInt % w.bits := by
  have hw : (8 : Int) * w.bytes = w.bits := by exact_mod_cast (bits_eq_bytes w).symm
  rw [toInt_bitDistance, Int.emod_def, ← Int.mul_assoc, hw]

/-! The forms. -/

/-- What a bit operation on the bytes at `keys` leaves. -/
def State.bitKeys (t : State) (op : BitOp) (w : Width) (keys : List Nat) (i : Nat) : State :=
  let v : BitVec w.bits := (t.readKeys keys).setWidth w.bits
  { (if op = .test then t else t.between.writeKeys keys ((op.apply v i).setWidth 32)) with flags := bitFlags t.flags t.freeIdx v i }

theorem bitAt_ok {op : BitOp} {w : Width} {g : Seg} {off : Word} {i : Nat} {keys : List Nat} {s t : State}
    (h : memKeys g off w.bytes (op != .test) s = .ok keys t) : bitAt op w g off i s = .ok () (t.bitKeys op w keys i) := by
  unfold bitAt
  rw [M.bind_of_ok h, M.modify_apply]
  cases op <;> rfl

section
variable {s t : State} {x : MemRef} {keys : List Nat} {w : Width} (op : BitOp)

theorem bitImm_reg (q : Reg) (imm : Byte) : bitImm op w (.reg q) imm s = .ok () (s.bitReg op w q (imm.toNat % w.bits)).advance := rfl

theorem bitReg_reg (q r : Reg) : bitReg op w (.reg q) r s = .ok () (s.bitReg op w q ((s.reg w r).toNat % w.bits)).advance := rfl

theorem bitImm_mem (imm : Byte) (h : memKeys (s.ea x).1 (s.ea x).2 w.bytes (op != .test) s = .ok keys t) :
    bitImm op w (.mem x) imm s = .ok () (t.bitKeys op w keys (imm.toNat % w.bits)).advance :=
  M.bind_of_ok (bitAt_ok h)

theorem bitReg_mem {r : Reg}
    (h : memKeys (s.bitAddress w x (s.reg w r)).1 (s.bitAddress w x (s.reg w r)).2 w.bytes (op != .test) s = .ok keys t) :
    bitReg op w (.mem x) r s = .ok () (t.bitKeys op w keys ((s.reg w r).toNat % w.bits)).advance :=
  M.bind_of_ok (bitAt_ok h)

end

/-- Settles O36: the forms are a read or an address computation and one update, and the results are found bit by bit. -/
theorem bitInstructions : Obligations.BitInstructions := by
  refine ⟨⟨fun s t m r v hl h => ⟨instr_ok hl (scanBits_ok r lowestBit h), instr_ok hl (scanBits_ok r highestBit h)⟩,
    fun w v i => ⟨lowestBit_eq_some v i, highestBit_eq_some v i, lowestBit_eq_none v, highestBit_eq_none v⟩⟩,
    fun s t q r x imm keys => ⟨?test, ?complement, ?reset, ?set, fun op i => rfl⟩,
    fun f idx n i v => ⟨rfl, rfl, rfl, rfl, rfl, rfl, rfl⟩,
    fun w v i j hi hj => ⟨rfl, BitOp.getLsbD_complement v hi, BitOp.getLsbD_reset v hi hj, BitOp.getLsbD_set v hi⟩,
    fun w off => ?distance⟩
  case test =>
    exact ⟨fun hl => ⟨instr_ok hl (bitImm_reg _ q imm), instr_ok hl (bitReg_reg _ q r)⟩,
      fun hl => ⟨fun h => instr_ok (hl rfl) (bitImm_mem .test imm h), fun h => instr_ok (hl rfl) (bitReg_mem .test h)⟩⟩
  case distance =>
    have hw : (0 : Int) < w.bits := by cases w <;> decide
    rw [sub_bitDistance]
    exact ⟨Int.emod_nonneg _ hw.ne', Int.emod_lt_of_pos _ hw, toInt_emod_bits w off⟩
  all_goals exact ⟨fun hl => ⟨lockable_reg_ok hl (bitImm_reg _ q imm), lockable_reg_ok hl (bitReg_reg _ q r)⟩,
    fun _ => ⟨fun h => lockable_mem_ok (bitImm_mem _ imm h), fun h => lockable_mem_ok (bitReg_mem _ h)⟩⟩

end Sys2Proof.Machine
end


-- ==== Proofs: IN and OUT ====
section
/-!
PROOFS. IN and OUT: the permission check by level and by the map of the task, the bus cycles of a write, and how the instructions end
(20_memory.md R232, R251; 21_protection.md R400, R402; 40_data_transfer.md R627 to R630).
-/
namespace Sys2Proof.Machine

open Sys2Proof

/-! The permission. -/

theorem raiseGP0_if_bind {β : Type} (c : Bool) (f : Unit → M β) (s : State) :
    (raiseIf c raiseGP0 >>= f) s = if c = true then .error (.exc ⟨13, some 0⟩ false) s else f () s := by cases c <;> rfl

theorem raiseGP0_if (c : Bool) (s : State) :
    raiseIf c raiseGP0 s = if c = true then .error (.exc ⟨13, some 0⟩ false) s else .ok () s := by cases c <;> rfl

theorem ioPermitted_of_level {port : Half} {nb : Nat} {s : State}
    (h : s.pe = false ∨ (s.prot = true ∧ s.cpl.toNat ≤ s.flags.iopl.toNat)) : ioPermitted port nb s = .ok () s := by
  have hc : (s.v86 || (s.prot && decide (s.flags.iopl.toNat < s.cpl.toNat))) = false := by
    unfold State.v86 State.prot at *
    rcases h with h | ⟨h, hl⟩
    · simp [h]
    · simp only [Bool.and_eq_true, Bool.not_eq_true'] at h
      simp [h.1, h.2, hl]
  unfold ioPermitted
  rw [M.get_bind, hc]
  rfl

theorem ioPermitted_of_map {port : Half} {nb : Nat} {s : State}
    (h : s.v86 = true ∨ (s.prot = true ∧ s.flags.iopl.toNat < s.cpl.toNat)) : ioPermitted port nb s = ioMapCheck port nb s := by
  have hc : (s.v86 || (s.prot && decide (s.flags.iopl.toNat < s.cpl.toNat))) = true := by simpa using h
  unfold ioPermitted
  rw [M.get_bind, hc]
  rfl

/-- The map is a word of the TSS whose offset is in the word at 66H of it. -/
theorem ioMapCheck_unpaged {s : State} (port : Half) (nb : Nat) (hp : s.pg = false) (hb : s.bus = []) :
    let base := (s.readKeys (s.physKeys (s.tr.base + 0x66) 2)).toNat + port.toNat / 8
    let bits := (s.readKeys (s.physKeys (s.tr.base + BitVec.ofNat 32 base) 2)).toNat >>> (port.toNat % 8)
    ioMapCheck port nb s =
      if s.tr.valid = true ∧ (arType s.tr.ar = 9 ∨ arType s.tr.ar = 11) ∧ 0x67 ≤ s.tr.limit.toNat ∧ base + 1 ≤ s.tr.limit.toNat ∧
        bits % 2 ^ nb = 0 then .ok () s
      else .error (.exc ⟨13, some 0⟩ false) s := by
  have hread (la : Word) : linRead la 2 false s = .ok (s.readKeys (s.physKeys la 2)) s := linRead_unpaged hp (busTurn_nil hb)
  have htss : (!s.tr.valid || !s.tr.isTss386) = true ↔ ¬ (s.tr.valid = true ∧ (arType s.tr.ar = 9 ∨ arType s.tr.ar = 11)) := by
    simp [SegReg.isTss386, imp_iff_not_or]
  unfold ioMapCheck
  simp only [M.get_bind, raiseGP0_if_bind, raiseGP0_if, M.bind_of_ok (hread _), htss, decide_eq_true_eq]
  split
  case isTrue h => rw [if_neg fun k => h ⟨k.1, k.2.1⟩]
  case isFalse h =>
    split
    case isTrue hl => rw [if_neg fun k => by omega]
    case isFalse hl =>
      split
      case isTrue ho => rw [if_neg fun k => by omega]
      case isFalse ho =>
        obtain ⟨hv, ht⟩ := not_not.mp h
        by_cases hbits : (s.readKeys (s.physKeys (s.tr.base + BitVec.ofNat 32
            ((s.readKeys (s.physKeys (s.tr.base + 0x66) 2)).toNat + port.toNat / 8)) 2)).toNat >>> (port.toNat % 8) % 2 ^ nb = 0
        · rw [if_neg (not_not.mpr hbits), if_pos ⟨hv, ht, by omega, by omega, hbits⟩]
        · rw [if_pos hbits, if_neg fun k => hbits k.2.2.2.2]

/-! The bus cycles of a write. -/

theorem portWrite_eq {port : Half} {nb : Nat} {v : Word} {t a : State} (h : busTurn t = .ok () a) :
    portWrite port nb v t = portCycles (operandCycles (port.getLsbD 0) nb) port v a := M.bind_of_ok h

theorem portCycles_one (n : Nat) (port : Half) (v : Word) (s : State) : portCycles [n] port v s = .ok () (s.ioWrite port n v) := rfl

theorem portCycles_cons {n m : Nat} {rest : List Nat} {port : Half} {v : Word} {s t : State}
    (h : cycleTurn (s.ioWrite port n v) = .ok () t) :
    portCycles (n :: m :: rest) port v s = portCycles (m :: rest) (port + BitVec.ofNat 16 n) (v >>> (8 * n)) t := M.bind_of_ok h

/-! The instructions. -/

theorem inPort_ok {w : Bool} {port : Half} {s t u : State} (h : ioPermitted port (s.width w).bytes s = .ok () t)
    (hu : busTurn t = .ok () u) :
    inPort w port s = .ok () (u.setReg (s.width w) .eax
      ((u.ioRead port (s.width w).bytes).setWidth (s.width w).bits)).advance :=
  (M.bind_of_ok h).trans (M.bind_of_ok (M.bind_of_ok hu))

theorem outPort_ok {w : Bool} {port : Half} {s t u : State} (h : ioPermitted port (s.width w).bytes s = .ok () t)
    (hu : portWrite port (s.width w).bytes ((s.reg (s.width w) .eax).setWidth 32) t = .ok () u) :
    outPort w port s = .ok () u.advance :=
  (M.bind_of_ok h).trans (M.bind_of_ok hu)

theorem inPort_error {w : Bool} {port : Half} {s t : State} {e : Stop} (h : ioPermitted port (s.width w).bytes s = .error e t) :
    inPort w port s = .error e t := by
  unfold inPort
  exact (M.get_bind _ s).trans (M.bind_of_error h)

theorem outPort_error {w : Bool} {port : Half} {s t : State} {e : Stop} (h : ioPermitted port (s.width w).bytes s = .error e t) :
    outPort w port s = .error e t := by
  unfold outPort
  exact (M.get_bind _ s).trans (M.bind_of_error h)

theorem instr_error {body : M Unit} {s t : State} {x : Exc} {keep : Bool} (hl : s.pfx.lock = false)
    (h : body s = .error (.exc x keep) t) : instr body s = takeException s t x keep := by
  rw [instr_of_noLock hl, perform_exc h]

theorem bytes_cases (w : Width) : w.bytes = 1 ∨ w.bytes = 2 ∨ w.bytes = 4 := by cases w <;> decide

/-- Settles O24: the permission decides, by level or by the map; what is permitted is a read of ports or a write in its bus cycles. -/
theorem portInputOutput : Obligations.PortInputOutput := by
  intro s t w hl
  have hnil (port : Half) (v : Word) (hb : t.bus = []) := portWrite_nil (port := port) (v := v) (bytes_cases (s.width w)) hb
  refine ⟨fun imm h => ⟨fun u hu => instr_ok hl (inPort_ok h hu), fun u hu => instr_ok hl (outPort_ok h hu),
      fun hb => ⟨busTurn_nil hb, hnil _ _ hb⟩⟩,
    fun h => ⟨fun u hu => instr_ok hl (inPort_ok h hu), fun u hu => instr_ok hl (outPort_ok h hu),
      fun hb => ⟨busTurn_nil hb, hnil _ _ hb⟩⟩,
    fun port h => ioPermitted_of_level h,
    fun x keep => ⟨fun imm h => ⟨instr_error hl (inPort_error h), instr_error hl (outPort_error h)⟩,
      fun h => ⟨instr_error hl (inPort_error h), instr_error hl (outPort_error h)⟩⟩,
    fun port h hp hb => (ioPermitted_of_map h).trans (ioMapCheck_unpaged port _ hp hb),
    fun port v a b c ha => ?cycles⟩
  generalize (s.width w).bytes = nb
  refine ⟨fun h => ?one, fun hn ho hb => ?oddWord, fun hn ho hb => ?evenDword, fun hn ho hb hc => ?oddDword⟩
  case one =>
    rw [portWrite_eq ha]
    rcases h with rfl | ⟨rfl, ho⟩
    · cases port.getLsbD 0 <;> exact portCycles_one ..
    · rw [ho]
      exact portCycles_one ..
  case oddWord =>
    subst hn
    rw [portWrite_eq ha, ho]
    exact (portCycles_cons hb).trans (portCycles_one ..)
  case evenDword =>
    subst hn
    rw [portWrite_eq ha, ho]
    exact (portCycles_cons hb).trans (portCycles_one ..)
  case oddDword =>
    subst hn
    rw [portWrite_eq ha, ho]
    exact (portCycles_cons hb).trans ((portCycles_cons hc).trans (portCycles_one ..))

end Sys2Proof.Machine
end


-- ==== Proofs: operands ====
section
/-!
PROOFS. What an access to an operand leaves of the machine, which bytes a page walk may have changed, and where an operand is
(20_memory.md R220, R221; 22_paging.md R461; 30_encoding.md R530, R531, R534).
-/
namespace Sys2Proof.Machine

open Sys2Proof

/-! What an access leaves: memory, the TLB and the queues may change, and the queues only take bytes of the code that follows. -/

/-- The machine after an access that succeeded, as far as paging may have changed it. -/
structure State.Accessed (s t : State) : Prop where
  frame : t = { s with mem := t.mem, stale := t.stale, queued := t.queued, tlb := t.tlb, pend := t.pend, bus := t.bus,
                       accessIdx := t.accessIdx }
  kept : s.queued <:+ t.queued
  ahead : ∀ c ∈ t.queued, c ∈ s.queued ∨ ∃ a ∈ s.queueWindow, c.1 = a.toNat

/-- An update that takes nothing into the queues. -/
theorem State.Accessed.of_frame {s t : State} (hq : t.queued = s.queued)
    (h : t = { s with mem := t.mem, stale := t.stale, queued := t.queued, tlb := t.tlb, pend := t.pend, bus := t.bus,
                      accessIdx := t.accessIdx }) : s.Accessed t :=
  ⟨h, hq ▸ List.suffix_refl _, fun _ hc => .inl (hq ▸ hc)⟩

theorem State.Accessed.refl (s : State) : s.Accessed s := .of_frame rfl rfl

theorem State.Accessed.queueWindow {s t : State} (h : s.Accessed t) : t.queueWindow = s.queueWindow := by
  rw [h.frame]
  rfl

theorem State.Accessed.trans {s t u : State} (h : s.Accessed t) (k : t.Accessed u) : s.Accessed u where
  frame := by
    have hk := k.frame
    rw [h.frame] at hk
    exact hk
  kept := h.kept.trans k.kept
  ahead c hc := by
    rcases k.ahead c hc with hc | hc
    · exact h.ahead c hc
    · exact .inr (h.queueWindow ▸ hc)

theorem State.writeKeys_eq (s : State) (keys : List Nat) (v : Word) :
    s.writeKeys keys v = { s with mem := (s.writeKeys keys v).mem, stale := (s.writeKeys keys v).stale } := by
  induction keys generalizing s v with
  | nil => rfl
  | cons a rest ih => exact ih (s.putByte a (v.setWidth 8)) (v >>> 8)

theorem State.Accessed.markEntry (s : State) (pa bits : Word) : s.Accessed (s.markEntry pa bits) := by
  unfold State.markEntry
  dsimp only
  split
  · exact .refl s
  · refine .of_frame (by simp) ?_
    rw [State.writeKeys_eq]

/-- The TLB gives up entries, and the queues keep what they read through them. -/
theorem State.Accessed.keepEntries (s : State) (gone tlb : List TlbEntry) : s.Accessed { s.keepEntries gone with tlb := tlb } where
  frame := rfl
  kept := List.suffix_append _ _
  ahead c hc := by
    rcases State.mem_keepEntries.mp hc with ⟨e, -, hc⟩ | hc
    · obtain ⟨-, a, ha, -, hca, -⟩ := State.mem_readThrough.mp hc
      exact .inr ⟨a, ha, hca⟩
    · exact .inl hc

/-! The computations of an access. -/

section
variable {α β : Type}

/-- Where the computation succeeds, it has changed no more than an access may. -/
structure Accesses (x : M α) : Prop where
  accessed : ∀ {s a t}, x s = .ok a t → s.Accessed t

protected theorem Accesses.bind {x : M α} {f : α → M β} (hx : Accesses x) (hf : ∀ a, Accesses (f a)) : Accesses (x >>= f) := by
  refine ⟨fun h => ?_⟩
  obtain ⟨a, t, h1, h2⟩ := M.bind_ok.mp h
  exact (hx.accessed h1).trans ((hf a).accessed h2)

theorem Accesses.seq {x : M α} {y : M β} (hx : Accesses x) (hy : Accesses y) : Accesses (x >>= fun _ => y) := hx.bind fun _ => hy

theorem Accesses.get_bind {f : State → M α} (h : ∀ s, Accesses (f s)) : Accesses (get >>= f) :=
  ⟨fun {s _ _} hs => (h s).accessed hs⟩

protected theorem Accesses.pure (a : α) : Accesses (pure a : M α) := ⟨fun {s _ _} h => by cases h; exact .refl s⟩

protected theorem Accesses.throw (e : Stop) : Accesses (throw e : M α) := ⟨fun h => nomatch h⟩

protected theorem Accesses.modify {k : State → State} (h : ∀ s : State, s.Accessed (k s)) : Accesses (modify k : M Unit) :=
  ⟨fun {s _ _} hs => by cases hs; exact h s⟩

protected theorem Accesses.ite {c : Prop} [Decidable c] {x y : M α} (hx : Accesses x) (hy : Accesses y) :
    Accesses (if c then x else y) := by
  split
  · exact hx
  · exact hy

theorem pageFault_ne_ok {la : Word} {p w u : Bool} {s t : State} {a : α} : (pageFault la p w u : M α) s ≠ .ok a t := nofun

protected theorem Accesses.pageFault (la : Word) (p w u : Bool) : Accesses (pageFault la p w u : M α) :=
  ⟨fun h => absurd h pageFault_ne_ok⟩

end

protected theorem Accesses.raiseIf {c : Bool} {x : M Unit} (hx : Accesses x) : Accesses (raiseIf c x) := .ite hx (.pure ())

protected theorem Accesses.busTurn : Accesses busTurn := by
  refine ⟨fun {s _ t} h => .of_frame ?_ ?_⟩
  · rw [busTurn_fields h]
  · exact (busTurn_fields h).trans (by rw [busTurn_fields h])

protected theorem Accesses.updateEntry (due : Bool) (pa bits : Word) : Accesses (updateEntry due pa bits) :=
  .ite (.seq .busTurn (.modify fun s => .markEntry s pa bits)) (.pure _)

protected theorem Accesses.walk (la : Word) (w u : Bool) : Accesses (walk la w u) :=
  .seq .busTurn <| .get_bind fun _ => .seq (.raiseIf (.pageFault ..)) <| .seq .busTurn <| .get_bind fun _ =>
    .ite (.seq (.updateEntry ..) (.pageFault ..)) <| .seq (.raiseIf (.pageFault ..)) <| .seq (.updateEntry ..) <|
      .seq (.updateEntry ..) <| .seq (.modify fun s => .keepEntries s _ _) (.pure _)

protected theorem Accesses.translate (la : Word) (w u : Bool) : Accesses (translate la w u) :=
  .seq (.modify fun _ => .of_frame rfl rfl) <| .get_bind fun s => by
    cases s.tlbHit la with
    | some e => exact .seq (.raiseIf (.pageFault ..)) (.ite (.seq (.modify fun s => .keepEntries s _ _) (.walk ..)) (.pure _))
    | none => exact .walk ..

protected theorem Accesses.linPages (la : Word) (nb : Nat) (w u : Bool) : Accesses (linPages la nb w u) :=
  .get_bind fun _ => .ite (.pure _) <| .bind (.translate ..) fun _ =>
    .ite (.get_bind fun _ => .pure _) (.bind (.translate ..) fun _ => .get_bind fun _ => .pure _)

protected theorem Accesses.linKeys (la : Word) (nb : Nat) (w u : Bool) : Accesses (linKeys la nb w u) :=
  .bind (.linPages ..) fun _ => .seq .busTurn (.pure _)

theorem memKeys_accessed {g : Seg} {off : Word} {nb : Nat} {w : Bool} {s t : State} {keys : List Nat}
    (h : memKeys g off nb w s = .ok keys t) : s.Accessed t := by
  obtain ⟨-, -, u, hu, rfl⟩ := memKeys_ok.mp h
  exact ((Accesses.linKeys ..).accessed hu).trans (.of_frame rfl rfl)

/-- With paging off an access does what the environment does, and notes the breakpoints. -/
theorem memKeys_unpaged_ok {g : Seg} {off : Word} {nb : Nat} {w : Bool} {s t : State} {keys : List Nat} (hp : s.pg = false)
    (h : memKeys g off nb w s = .ok keys t) : ∃ u, busTurn s = .ok () u ∧ t = u.noteData (s.linear g off) nb w := by
  obtain ⟨-, -, u, hu, rfl⟩ := memKeys_ok.mp h
  rw [linKeys_of_unpaged hp] at hu
  split at hu
  · rename_i hb
    cases hu
    exact ⟨u, hb, rfl⟩
  · cases hu

/-! Which bytes the updates of the page tables may change. An entry is four bytes from a multiple of 4 on, and Accessed and Dirty are
bits of its first byte. -/

theorem State.physKey_mod_four (s : State) (pa : Word) : s.physKey pa % 4 = pa.toNat % 4 := by
  unfold State.physKey
  have hmask : (if s.platform.a20Wrap then 0xEFFFFF else 0xFFFFFF : BitVec 24).toNat % 4 = 3 := by split <;> rfl
  rw [BitVec.toNat_and, show 4 = 2 ^ 2 from rfl, Nat.and_mod_two_pow, BitVec.toNat_setWidth]
  rw [show (2 : Nat) ^ 2 = 4 from rfl, hmask, show 3 = 2 ^ 2 - 1 from rfl, Nat.and_two_pow_sub_one_eq_mod]
  omega

theorem State.physKeys_getElem_mod_four (s : State) {pa : Word} {i : Nat} (ha : pa.toNat % 4 = 0) (hi : i < 4) :
    (s.physKeys pa 4)[i]'(by simpa [State.physKeys] using hi) % 4 = i := by
  simp only [State.physKeys, List.getElem_map, List.getElem_range, State.physKey_mod_four, BitVec.toNat_add, BitVec.toNat_ofNat]
  omega

theorem State.nodup_entryKeys (s : State) {pa : Word} (ha : pa.toNat % 4 = 0) : (s.physKeys pa 4).Nodup := by
  refine List.nodup_iff_injective_getElem.mpr fun ⟨i, hi⟩ ⟨j, hj⟩ h => ?_
  rw [(s.physKeys_spec pa 4).2] at hi hj
  have := congrArg (· % 4) h
  simp only [State.physKeys_getElem_mod_four s ha hi, State.physKeys_getElem_mod_four s ha hj] at this
  exact Fin.ext this

theorem State.stale_writeKeys {s : State} {keys : List Nat} {v : Word} {c : Host.Cell} (h : c ∈ (s.writeKeys keys v).stale) :
    c ∈ s.stale ∨ c.1 ∈ keys := by
  induction keys generalizing s v with
  | nil => exact .inl h
  | cons a rest ih =>
    rcases ih h with h | h
    · rcases List.mem_cons.mp h with rfl | h
      · exact .inr (by simp)
      · exact .inl h
    · exact .inr (by simp [h])

/-- Of `s` no more has changed in memory than first bytes of entries at `keys`, where no other bus master writes. -/
structure State.Within (s : State) (keys : List Nat) (t : State) : Prop where
  bus : t.bus = []
  memWf : memWf t.mem
  cr3 : t.cr3 = s.cr3
  platform : t.platform = s.platform
  byte : ∀ a, a ∉ keys → t.byte a = s.byte a
  upper : ∀ a, a % 4 ≠ 0 → t.byte a = s.byte a
  stale : ∀ c ∈ t.stale, c ∈ s.stale ∨ c.1 ∈ keys

section
variable {s t : State} {keys : List Nat}

theorem State.Within.refl (hb : s.bus = []) (hm : Sys2Proof.Machine.memWf s.mem) : s.Within keys s :=
  ⟨hb, hm, rfl, rfl, fun _ _ => rfl, fun _ _ => rfl, fun _ h => .inl h⟩

/-- Only memory, the old bytes, the bus, CR3 and the platform count. -/
theorem State.Within.congr {u : State} (h : s.Within keys t) (hm : u.mem = t.mem) (hs : u.stale = t.stale) (hb : u.bus = t.bus)
    (hc : u.cr3 = t.cr3) (hp : u.platform = t.platform) : s.Within keys u where
  bus := hb.trans h.bus
  memWf := hm ▸ h.memWf
  cr3 := hc.trans h.cr3
  platform := hp.trans h.platform
  byte a ha := (congrArg (cellAt · a) hm).trans (h.byte a ha)
  upper a ha := (congrArg (cellAt · a) hm).trans (h.upper a ha)
  stale c hc := h.stale c (hs ▸ hc)

theorem State.Within.physKeys (h : s.Within keys t) (pa : Word) (nb : Nat) : t.physKeys pa nb = s.physKeys pa nb := by
  unfold State.physKeys State.physKey
  rw [h.platform]

/-- The frame of an entry stands in its upper three bytes. -/
theorem State.Within.frame (h : s.Within keys t) {pa : Word} (ha : pa.toNat % 4 = 0) :
    (t.pageEntry pa).extractLsb' 12 20 = (s.pageEntry pa).extractLsb' 12 20 := by
  apply BitVec.eq_of_getLsbD_eq
  intro j hj
  have hi : (12 + j) / 8 < (s.physKeys pa 4).length := by
    rw [(s.physKeys_spec pa 4).2]
    omega
  rw [BitVec.getLsbD_extractLsb', BitVec.getLsbD_extractLsb']
  unfold State.pageEntry State.readKeys
  rw [h.physKeys, littleEndian_getLsbD _ _ (by omega), littleEndian_getLsbD _ _ (by omega), List.getD_eq_getElem _ _ (by simpa using hi),
    List.getD_eq_getElem _ _ (by simpa using hi), List.getElem_map, List.getElem_map, h.upper]
  rw [State.physKeys_getElem_mod_four s ha (by omega)]
  omega

/-- Accessed and Dirty set in an entry. -/
theorem State.Within.markEntry (h : s.Within keys t) {pa bits : Word} (ha : pa.toNat % 4 = 0) (hbits : bits.toNat < 256)
    (hk : ∀ k ∈ s.physKeys pa 4, k ∈ keys) : s.Within keys (t.markEntry pa bits) := by
  unfold State.markEntry
  dsimp only
  split
  · exact h
  · have hin := (t.physKeys_spec pa 4).1
    have hkeys : ∀ k ∈ t.physKeys pa 4, k ∈ keys := h.physKeys pa 4 ▸ hk
    refine ⟨by simpa using h.bus, State.writeKeys_memWf _ _ _ h.memWf hin, by simpa using h.cr3, by simpa using h.platform,
      fun a hn => ?byte, fun a hn => ?upper, fun c hc => ?stale⟩
    case byte => exact (State.byte_writeKeys_notMem _ _ _ _ fun hm => hn (hkeys a hm)).trans (h.byte a hn)
    case stale =>
      rcases State.stale_writeKeys hc with hc | hc
      · exact h.stale c hc
      · exact .inr (hkeys _ hc)
    case upper =>
      rw [← h.upper a hn]
      by_cases hm : a ∈ t.physKeys pa 4
      · obtain ⟨i, hi, rfl⟩ := List.getElem_of_mem hm
        have hi4 : i < 4 := (t.physKeys_spec pa 4).2 ▸ hi
        rw [State.physKeys_getElem_mod_four t ha hi4] at hn
        rw [State.byte_writeKeys_getElem h.memWf hin (t.nodup_entryKeys ha) i hi, BitVec.extractLsb'_or]
        have hzero : bits.extractLsb' (8 * i) 8 = 0 := by
          apply BitVec.eq_of_toNat_eq
          rw [BitVec.extractLsb'_toNat, Nat.shiftRight_eq_div_pow, Nat.div_eq_of_lt]
          · rfl
          · exact hbits.trans_le (Nat.pow_le_pow_right (n := 2) (by decide) (show 8 ≤ 8 * i by omega))
        rw [hzero, State.pageEntry, State.readKeys, littleEndian_byte _ _ hi4, List.getD_eq_getElem _ _ (by simpa using hi)]
        simp
      · exact State.byte_writeKeys_notMem _ _ _ _ hm

theorem State.Within.updateEntry {u : State} (h : s.Within keys t) {due : Bool} {pa bits : Word} (ha : pa.toNat % 4 = 0)
    (hbits : bits.toNat < 256) (hk : ∀ k ∈ s.physKeys pa 4, k ∈ keys) (hu : Machine.updateEntry due pa bits t = .ok () u) :
    s.Within keys u := by
  rcases updateEntry_ok.mp hu with ⟨-, rfl⟩ | ⟨-, v, hv, rfl⟩
  · exact h
  · rw [busTurn_nil h.bus] at hv
    cases hv
    exact h.markEntry ha hbits hk

end

theorem pdeAddr_mod_four (cr3 la : Word) : (pdeAddr cr3 la).toNat % 4 = 0 := by
  unfold pdeAddr
  rw [BitVec.toNat_append, Nat.shiftLeft_eq]
  simp

theorem pteAddr_mod_four (pde la : Word) : (pteAddr pde la).toNat % 4 = 0 := by
  unfold pteAddr
  rw [BitVec.toNat_append, Nat.shiftLeft_eq]
  simp

/-! The walk, the translation and the pages of an access. -/

theorem State.Within.tableKeys {s t : State} {keys : List Nat} (h : s.Within keys t) (la : Word) : t.tableKeys la = s.tableKeys la := by
  have hp : pteAddr (t.pageEntry (pdeAddr s.cr3 la)) la = pteAddr (s.pageEntry (pdeAddr s.cr3 la)) la := by
    unfold pteAddr
    rw [h.frame (pdeAddr_mod_four ..)]
  unfold State.tableKeys
  rw [h.cr3, hp, h.physKeys, h.physKeys]

/-- The entries of an address are those of its page. -/
theorem State.tableKeys_congr (s : State) {a b : Word} (h : pageOf a = pageOf b) : s.tableKeys a = s.tableKeys b := by
  have hpage : a.toNat / 2 ^ 12 % 2 ^ 20 = b.toNat / 2 ^ 12 % 2 ^ 20 := by
    simpa [pageOf, Nat.shiftRight_eq_div_pow] using congrArg BitVec.toNat h
  have hdir : a.extractLsb' 22 10 = b.extractLsb' 22 10 := by
    apply BitVec.eq_of_toNat_eq
    simp only [BitVec.extractLsb'_toNat, Nat.shiftRight_eq_div_pow]
    omega
  have htab : a.extractLsb' 12 10 = b.extractLsb' 12 10 := by
    apply BitVec.eq_of_toNat_eq
    simp only [BitVec.extractLsb'_toNat, Nat.shiftRight_eq_div_pow]
    omega
  unfold State.tableKeys pteAddr pdeAddr
  rw [hdir, htab]

section
variable {s t v : State} {keys : List Nat} {la pa : Word} {write user : Bool}

theorem State.Within.walk (h : s.Within keys t) (hk : ∀ k ∈ s.tableKeys la, k ∈ keys) (hw : Machine.walk la write user t = .ok pa v) :
    s.Within keys v := by
  have hpde : ∀ k ∈ s.physKeys (pdeAddr t.cr3 la) 4, k ∈ keys := fun k hm =>
    hk k (List.mem_append_left _ (h.cr3 ▸ hm))
  have hpte : ∀ k ∈ s.physKeys (pteAddr (t.pageEntry (pdeAddr t.cr3 la)) la) 4, k ∈ keys := fun k hm =>
    hk k (h.tableKeys la ▸ List.mem_append_right _ (h.physKeys .. ▸ hm))
  have hfault (p : Bool) (u u' : State) : (pageFault la p write user : M Unit) u ≠ .ok () u' := pageFault_ne_ok
  have hbits : (tableBits write).toNat < 256 := by cases write <;> decide
  unfold Machine.walk at hw
  rw [M.bind_of_ok (busTurn_nil h.bus), M.get_bind] at hw
  obtain ⟨_, u, hu, hw⟩ := M.bind_ok.mp hw
  obtain ⟨-, rfl⟩ := (raiseIf_ok (hfault _ _)).mp hu
  rw [M.bind_of_ok (busTurn_nil h.bus), M.get_bind, M.ite_apply] at hw
  split at hw
  · obtain ⟨_, u, -, hw⟩ := M.bind_ok.mp hw
    exact absurd hw pageFault_ne_ok
  · obtain ⟨_, u, hu, hw⟩ := M.bind_ok.mp hw
    obtain ⟨-, rfl⟩ := (raiseIf_ok (hfault _ _)).mp hu
    obtain ⟨_, u1, hdir, hw⟩ := M.bind_ok.mp hw
    obtain ⟨_, u2, htab, hw⟩ := M.bind_ok.mp hw
    have h1 := h.updateEntry (pdeAddr_mod_four ..) (by decide) hpde hdir
    have h2 := h1.updateEntry (pteAddr_mod_four ..) hbits hpte htab
    cases hw
    exact h2.congr rfl rfl rfl rfl rfl

theorem State.Within.translate (h : s.Within keys t) (hk : ∀ k ∈ s.tableKeys la, k ∈ keys)
    (ht : Machine.translate la write user t = .ok pa v) : s.Within keys v := by
  have hfault (p : Bool) (u u' : State) : (pageFault la p write user : M Unit) u ≠ .ok () u' := pageFault_ne_ok
  have hnext : s.Within keys t.nextAccess := h.congr rfl rfl rfl rfl rfl
  unfold Machine.translate at ht
  rw [M.modify_bind, M.get_bind] at ht
  cases hhit : t.nextAccess.tlbHit la with
  | none =>
    rw [hhit] at ht
    exact hnext.walk hk ht
  | some e =>
    rw [hhit] at ht
    obtain ⟨_, u, hu, ht⟩ := M.bind_ok.mp ht
    obtain ⟨-, rfl⟩ := (raiseIf_ok (hfault _ _)).mp hu
    rw [M.ite_apply] at ht
    split at ht
    · exact (hnext.congr (u := t.nextAccess.dropEntry la) rfl rfl rfl rfl rfl).walk hk ht
    · cases ht
      exact hnext

end

/-- Where an access goes past the end of its page, the rest of it is in the page of its last byte. -/
theorem pageOf_rest {la : Word} {nb : Nat} (hn : nb ≤ 4096) (hf : ¬ min nb (4096 - (la.extractLsb' 0 12).toNat) = nb) :
    pageOf (la + BitVec.ofNat 32 (min nb (4096 - (la.extractLsb' 0 12).toNat))) = pageOf (la + BitVec.ofNat 32 (nb - 1)) := by
  have hoff : (la.extractLsb' 0 12).toNat = la.toNat % 4096 := by simp
  rw [hoff] at hf ⊢
  have hmin : min nb (4096 - la.toNat % 4096) = 4096 - la.toNat % 4096 := by omega
  rw [hmin] at hf ⊢
  apply BitVec.eq_of_toNat_eq
  simp only [pageOf, BitVec.extractLsb'_toNat, Nat.shiftRight_eq_div_pow, BitVec.toNat_add, BitVec.toNat_ofNat]
  omega

/-- The bytes of the entries of an access: those of the pages of its first and its last byte. -/
def State.entryKeys (s : State) (la : Word) (nb : Nat) : List Nat := s.tableKeys la ++ s.tableKeys (la + BitVec.ofNat 32 (nb - 1))

theorem linPages_within {la : Word} {nb : Nat} {write user : Bool} {s t : State} {keys : List Nat} (hb : s.bus = []) (hm : memWf s.mem)
    (hn : nb ≤ 4096) (h : linPages la nb write user s = .ok keys t) : s.Within (s.entryKeys la nb) t := by
  have hs : s.Within (s.entryKeys la nb) s := .refl hb hm
  unfold linPages at h
  rw [M.get_bind, M.ite_apply] at h
  split at h
  · cases h
    exact hs
  · obtain ⟨pa, u, hu, h⟩ := M.bind_ok.mp h
    have hu := hs.translate (fun k hk => List.mem_append_left _ hk) hu
    rw [M.ite_apply] at h
    split at h
    · cases h
      exact hu
    · rename_i hf
      obtain ⟨pb, v, hv, h⟩ := M.bind_ok.mp h
      cases h
      exact hu.translate (fun k hk => List.mem_append_right _ (s.tableKeys_congr (pageOf_rest hn hf) ▸ hk)) hv

theorem memKeys_within {g : Seg} {off : Word} {nb : Nat} {w : Bool} {s t : State} {keys : List Nat} (hb : s.bus = []) (hm : memWf s.mem)
    (hn : nb ≤ 4096) (h : memKeys g off nb w s = .ok keys t) : s.Within (s.entryKeys (s.linear g off) nb) t := by
  obtain ⟨-, -, u, hu, rfl⟩ := memKeys_ok.mp h
  obtain ⟨keys, v, hv, hu⟩ := M.bind_ok.mp hu
  have hw := linPages_within hb hm hn hv
  rw [M.bind_of_ok (busTurn_nil hw.bus)] at hu
  cases hu
  exact hw.congr rfl rfl rfl rfl rfl

/-! Effective addresses. -/

theorem low16_eq (v : Word) : low16 v = v &&& 0xFFFF := by
  apply BitVec.eq_of_toNat_eq
  unfold low16
  rw [BitVec.toNat_setWidth, BitVec.toNat_setWidth, BitVec.toNat_and, show (0xFFFF : Word).toNat = 2 ^ 16 - 1 from rfl,
    Nat.and_two_pow_sub_one_eq_mod]
  omega

/-- The segment of an operand: the override's, or else its default. -/
theorem State.ea_eq (s : State) (m : MemRef) :
    s.ea m = (match s.pfx.seg with
      | some g => g
      | none => (effectiveAddress s.regs s.freeIdx m).1, (effectiveAddress s.regs s.freeIdx m).2) := by
  unfold State.ea
  cases s.pfx.seg <;> rfl

theorem State.ea_based16 (s : State) (b : Base16) (d : Disp) :
    s.ea (.based16 b d) = (match s.pfx.seg with
      | some g => g
      | none => base16Seg b, (s.regs.base16 b + dispValue d) &&& 0xFFFF) := by
  rw [State.ea_eq, ← low16_eq]
  rfl

theorem baseSeg_eq (b : Reg) : baseSeg b = if b = .esp ∨ b = .ebp then .ss else .ds := by cases b <;> rfl

theorem State.ea_based32 (s : State) (b : Reg) (d : Disp) :
    s.ea (.based32 b d) = (match s.pfx.seg with
      | some g => g
      | none => if b = .esp ∨ b = .ebp then .ss else .ds, s.regs.get b + dispValue d) := by
  rw [State.ea_eq, ← baseSeg_eq]
  rfl

theorem State.ea_sib (s : State) (b : Reg) (i : Option Reg) (ss : BitVec 2) (d : Disp) :
    s.ea (.sib b i ss d) = (match s.pfx.seg with
      | some g => g
      | none => if b = .esp ∨ b = .ebp then .ss else .ds,
      sibOffset s.freeIdx i ss (s.regs.get b + dispValue d + s.regs.scaled i ss)) := by
  have hsum : s.regs.get b + dispValue d + s.regs.scaled i ss = s.regs.get b + s.regs.scaled i ss + dispValue d := by
    rw [BitVec.add_assoc, BitVec.add_comm (dispValue d), BitVec.add_assoc]
  rw [State.ea_eq, ← baseSeg_eq, hsum]
  rfl

theorem State.ea_sibNoBase (s : State) (i : Option Reg) (ss : BitVec 2) (off : Word) :
    s.ea (.sibNoBase i ss off) = (match s.pfx.seg with
      | some g => g
      | none => .ds, sibOffset s.freeIdx i ss (off + s.regs.scaled i ss)) := by
  rw [State.ea_eq, BitVec.add_comm off]
  rfl

theorem Regs.scaled_some (x : Regs) (r : Reg) (ss : BitVec 2) : x.scaled (some r) ss = x.get r * BitVec.ofNat 32 (2 ^ ss.toNat) := by
  show x.get r <<< ss.toNat = _
  rw [BitVec.shiftLeft_eq_mul_twoPow]
  congr 1
  exact BitVec.eq_of_toNat_eq (by simp [BitVec.toNat_twoPow])

/-- The offset with a scaled index, or, without an index, as it stands or undefined (R532). -/
theorem sibOffset_scaled (x : Regs) (idx : Nat) (i : Option Reg) (ss : BitVec 2) (off : Word) :
    sibOffset idx i ss (off + x.scaled i ss) = match i with
      | none => if ss = 0 then off else Config.undef idx 8
      | some r => off + x.get r * BitVec.ofNat 32 (2 ^ ss.toNat) := by
  cases i with
  | none =>
    have hz : x.scaled none ss = 0#32 := rfl
    rw [hz, BitVec.add_zero]
    by_cases h : ss = 0 <;> simp [sibOffset, h]
  | some r => simp [sibOffset, Regs.scaled_some]

/-- Settles O15: an access is followed through its checks, its translations and the note of it; an operand's address case by case. -/
theorem operandAccess : Obligations.OperandAccess := by
  refine ⟨fun s t g off nb write keys h => ?access, fun s w => ⟨fun r => rfl, fun x keys t h => ?read⟩,
    fun s v d32 b i scale d => ?address⟩
  case access =>
    have ha := memKeys_accessed h
    obtain ⟨hin, hlen⟩ := memKeys_spec h
    refine ⟨ha.frame, hlen, hin, fun hp => ?tlb, ha.kept, ha.ahead, fun hb hp => ?mem, fun hb hm hn => ?tables⟩
    case tlb =>
      obtain ⟨u, hu, rfl⟩ := memKeys_unpaged_ok hp h
      rw [busTurn_fields hu]
      exact ⟨rfl, rfl⟩
    case mem =>
      obtain ⟨u, hu, rfl⟩ := memKeys_unpaged_ok hp h
      rw [busTurn_nil hb] at hu
      cases hu
      exact ⟨rfl, rfl⟩
    case tables =>
      have hw := memKeys_within hb hm hn h
      exact ⟨hw.byte, hw.stale⟩
  case read => exact (M.bind_of_ok (memRead_ok.mpr ⟨keys, h, rfl⟩)).trans rfl
  case address =>
    intro x disp is is16 default indexed
    have hdisp : disp = dispValue d := by cases d <;> rfl
    have h16 (base : Base16) : is16 base (base16Seg base) (x.base16 base) := by
      have h := s.ea_based16 base d
      rw [← hdisp] at h
      exact h
    have hindexed (off : Word) : sibOffset s.freeIdx i scale (off + x.scaled i scale) = indexed off :=
      sibOffset_scaled x s.freeIdx i scale off
    refine ⟨s.ea_eq _, h16 .bxsi, h16 .bxdi, h16 .bpsi, h16 .bpdi, h16 .si, h16 .di, h16 .bp, h16 .bx, s.ea_eq _, ?based, ?sib, ?noBase⟩
    case based =>
      have h := s.ea_based32 b d
      rw [← hdisp] at h
      exact h
    case sib =>
      have h := s.ea_sib b i scale d
      rw [← hdisp, hindexed] at h
      exact h
    case noBase =>
      have h := s.ea_sibNoBase i scale d32
      rw [hindexed] at h
      exact h

end Sys2Proof.Machine
end


-- ==== Proofs: reading an encoding ====
section
/-!
PROOFS. What a reader of instruction bytes makes of an encoding: it takes the encoding's bytes and no other, and while they are not all
there it asks for more (30_encoding.md R500, R502). First the fields of an instruction, then its operands, then the opcodes.
-/
namespace Sys2Proof

/-! Readers. -/

section
variable {α β : Type}

theorem Parse.bind_of_ok {p : Parse α} {f : α → Parse β} {bs rest : List Byte} {a : α} (h : p bs = .ok a rest) :
    (p >>= f) bs = f a rest := by
  show EStateM.bind p f bs = _
  unfold EStateM.bind
  rw [h]

theorem Parse.bind_of_error {p : Parse α} {f : α → Parse β} {bs rest : List Byte} {e : DecodeStop} (h : p bs = .error e rest) :
    (p >>= f) bs = .error e rest := by
  show EStateM.bind p f bs = _
  unfold EStateM.bind
  rw [h]

/-- The reader takes exactly the bytes `bs` for the value `a`, whatever follows them, and stops for want of bytes before their end. -/
structure Reads (p : Parse α) (bs : List Byte) (a : α) : Prop where
  ok : ∀ rest, p (bs ++ rest) = .ok a rest
  more : ∀ pre x post, bs = pre ++ x :: post → ∃ rest, p pre = .error .more rest

protected theorem Reads.pure (a : α) : Reads (pure a) [] a := ⟨fun _ => rfl, fun pre x post h => by simp at h⟩

protected theorem Reads.bind {p : Parse α} {f : α → Parse β} {bs cs : List Byte} {a : α} {b : β} (hp : Reads p bs a)
    (hf : Reads (f a) cs b) : Reads (p >>= f) (bs ++ cs) b := by
  refine ⟨fun rest => ?_, fun pre x post h => ?_⟩
  · rw [List.append_assoc, Parse.bind_of_ok (hp.ok _), hf.ok]
  · have hsecond (mid : List Byte) (hc : cs = mid ++ x :: post) : ∃ rest, (p >>= f) (bs ++ mid) = .error .more rest := by
      rw [Parse.bind_of_ok (hp.ok mid)]
      exact hf.more mid x post hc
    rcases List.append_eq_append_iff.mp h with ⟨mid, rfl, hc⟩ | ⟨mid, hb, hc⟩
    · exact hsecond mid hc
    · cases mid with
      | nil =>
        rw [List.append_nil] at hb
        rw [← hb, ← List.append_nil bs]
        exact hsecond [] hc.symm
      | cons y mid =>
        obtain ⟨rest, hr⟩ := hp.more pre y mid hb
        exact ⟨rest, Parse.bind_of_error hr⟩

/-- The last reader of a sequence. -/
protected theorem Reads.map {p : Parse α} {bs : List Byte} {a : α} (hp : Reads p bs a) (k : α → β) :
    Reads (p >>= fun x => pure (k x)) bs (k a) := by
  have h := hp.bind (f := fun x => (pure (k x) : Parse β)) (.pure (k a))
  rwa [List.append_nil] at h

end

/-! Fields. -/

protected theorem Reads.nextByte (b : Byte) : Reads nextByte [b] b where
  ok _ := rfl
  more pre x post h := by
    cases pre with
    | nil => exact ⟨[], rfl⟩
    | cons y pre => simp at h

protected theorem Reads.next16 (v : Half) : Reads next16 (encode16 v) v := by
  have hv : v.extractLsb' 8 8 ++ v.extractLsb' 0 8 = v := by
    apply BitVec.eq_of_getLsbD_eq
    intro i hi
    rw [BitVec.getLsbD_append, BitVec.getLsbD_extractLsb', BitVec.getLsbD_extractLsb']
    rcases Nat.lt_or_ge i 8 with h | h
    · simp [h]
    · simp [Nat.not_lt.mpr h, show i - 8 < 8 by omega, show 8 + (i - 8) = i by omega]
  have h := (Reads.nextByte (v.extractLsb' 0 8)).bind ((Reads.nextByte (v.extractLsb' 8 8)).map fun b1 => b1 ++ v.extractLsb' 0 8)
    (f := fun b0 => nextByte >>= fun b1 => pure (b1 ++ b0))
  rwa [hv] at h

protected theorem Reads.next32 (v : Word) : Reads next32 (encode32 v) v := by
  have hv : v.extractLsb' 24 8 ++ v.extractLsb' 16 8 ++ v.extractLsb' 8 8 ++ v.extractLsb' 0 8 = v := by
    apply BitVec.eq_of_getLsbD_eq
    intro i hi
    simp only [BitVec.getLsbD_append, BitVec.getLsbD_extractLsb']
    rcases Nat.lt_or_ge i 8 with h | h
    · simp [h]
    rcases Nat.lt_or_ge i 16 with h' | h'
    · simp [Nat.not_lt.mpr h, show i - 8 < 8 by omega, show 8 + (i - 8) = i by omega]
    rcases Nat.lt_or_ge i 24 with h'' | h''
    · simp [Nat.not_lt.mpr h, show ¬ i - 8 < 8 by omega, show i - 8 - 8 < 8 by omega, show 16 + (i - 8 - 8) = i by omega]
    · simp [Nat.not_lt.mpr h, show ¬ i - 8 < 8 by omega, show ¬ i - 8 - 8 < 8 by omega, show i - 8 - 8 - 8 < 8 by omega,
        show 24 + (i - 8 - 8 - 8) = i by omega]
  have h := (Reads.nextByte (v.extractLsb' 0 8)).bind ((Reads.nextByte (v.extractLsb' 8 8)).bind
    ((Reads.nextByte (v.extractLsb' 16 8)).bind ((Reads.nextByte (v.extractLsb' 24 8)).map
      fun b3 => b3 ++ v.extractLsb' 16 8 ++ v.extractLsb' 8 8 ++ v.extractLsb' 0 8)
      (f := fun b2 => nextByte >>= fun b3 => pure (b3 ++ b2 ++ v.extractLsb' 8 8 ++ v.extractLsb' 0 8)))
      (f := fun b1 => nextByte >>= fun b2 => nextByte >>= fun b3 => pure (b3 ++ b2 ++ b1 ++ v.extractLsb' 0 8)))
    (f := fun b0 => nextByte >>= fun b1 => nextByte >>= fun b2 => nextByte >>= fun b3 =>
      pure (b3 ++ b2 ++ b1 ++ b0))
  rwa [hv] at h

theorem setWidth_setWidth_of_fits {bits : Nat} {v : Word} (h : Word.fits v bits = true) : (v.setWidth bits).setWidth 32 = v := by
  apply BitVec.eq_of_toNat_eq
  rw [BitVec.toNat_setWidth, BitVec.toNat_setWidth, Nat.mod_eq_of_lt (of_decide_eq_true h), Nat.mod_eq_of_lt v.isLt]

/-- A field of the encoding, of a length that fields have. -/
protected theorem Reads.nextBits {bits : Nat} {v : Word} (h : Word.fits v bits = true) : Reads (nextBits bits) (encodeBits bits v) v := by
  unfold nextBits encodeBits
  split
  case isTrue hb =>
    have hr := (Reads.nextByte (v.setWidth 8)).map fun b => b.setWidth 32
    rwa [setWidth_setWidth_of_fits (hb ▸ h)] at hr
  case isFalse =>
    split
    case isTrue hb =>
      have hr := (Reads.next16 (v.setWidth 16)).map fun b => b.setWidth 32
      rwa [setWidth_setWidth_of_fits (hb ▸ h)] at hr
    case isFalse => exact .next32 v

protected theorem Reads.nextModRM (md : BitVec 2) (mid rm : BitVec 3) : Reads nextModRM [md ++ mid ++ rm] ⟨md, mid, rm⟩ := by
  have hparts : (⟨(md ++ mid ++ rm).extractLsb' 6 2, (md ++ mid ++ rm).extractLsb' 3 3, (md ++ mid ++ rm).extractLsb' 0 3⟩ : ModRM) =
      ⟨md, mid, rm⟩ := by
    revert md mid rm
    decide
  rw [← hparts]
  exact (Reads.nextByte (md ++ mid ++ rm)).map fun b =>
    (⟨b.extractLsb' 6 2, b.extractLsb' 3 3, b.extractLsb' 0 3⟩ : ModRM)

/-! Codes. -/

@[simp] theorem Reg.ofCode_code (r : Reg) : Reg.ofCode r.code = r := by cases r <;> rfl

@[simp] theorem Reg.code_ofCode (c : BitVec 3) : (Reg.ofCode c).code = c := by
  revert c
  decide

@[simp] theorem Seg.ofCode_code (g : Seg) : Seg.ofCode g.code = some g := by cases g <;> rfl

@[simp] theorem Base16.ofCode_code (b : Base16) : Base16.ofCode b.code = b := by cases b <;> rfl

/-- ESP's code stands for no index. -/
theorem indexOfCode_indexCode {i : Option Reg} (h : i ≠ some .esp) : indexOfCode (indexCode i) = i := by
  cases i with
  | none => rfl
  | some r =>
    cases r with
    | esp => exact absurd rfl h
    | _ => rfl

/-! Operands. -/

protected theorem Reads.dispOf {bits : Nat} {d : Disp} (h : ∀ v, d = .full v → Word.fits v bits = true) :
    Reads (dispOf d.md bits) (d.encode bits) d := by
  cases d with
  | none => exact .pure _
  | d8 v => exact (Reads.nextByte v).map _
  | full v => exact (Reads.nextBits (h v rfl)).map _

theorem Word.fits_32 (v : Word) : Word.fits v 32 = true := decide_eq_true v.isLt

/-- A "mod" that names a displacement is not 11. -/
theorem Disp.md_ne_three (d : Disp) : d.md ≠ 3 := by
  cases d with
  | none => exact (by decide : (0 : BitVec 2) ≠ 3)
  | d8 v => exact (by decide : (1 : BitVec 2) ≠ 3)
  | full v => exact (by decide : (2 : BitVec 2) ≠ 3)

theorem Disp.md_eq_zero {d : Disp} (h : d.md = 0) : d = .none := by
  cases d with
  | none => rfl
  | d8 v => cases h
  | full v => cases h

theorem Base16.code_eq_six {b : Base16} (h : b.code = 6) : b = .bp := by
  revert h
  cases b <;> decide

theorem Reg.code_eq_four {r : Reg} (h : r.code = 4) : r = .esp := by
  revert h
  cases r <;> decide

theorem Reg.code_eq_five {r : Reg} (h : r.code = 5) : r = .ebp := by
  revert h
  cases r <;> decide

theorem Reads.memRef16_based {b : Base16} {d : Disp} (hd : d.wf 16 = true) (hb : ¬ (b = .bp ∧ d = .none)) :
    Reads (memRef16 d.md b.code) (d.encode 16) (.based16 b d) := by
  unfold memRef16
  rw [if_neg fun h => hb ⟨Base16.code_eq_six h.2, Disp.md_eq_zero h.1⟩, Base16.ofCode_code]
  exact (Reads.dispOf fun v hv => by subst hv; exact hd).map _

theorem Reads.memRef32_based {b : Reg} {d : Disp} (hs : b ≠ .esp) (hb : ¬ (b = .ebp ∧ d = .none)) :
    Reads (memRef32 d.md b.code) (d.encode 32) (.based32 b d) := by
  unfold memRef32
  rw [if_neg fun h => hs (Reg.code_eq_four h), if_neg fun h => hb ⟨Reg.code_eq_five h.2, Disp.md_eq_zero h.1⟩, Reg.ofCode_code]
  exact (Reads.dispOf fun v _ => Word.fits_32 v).map _

theorem sib_parts (ss : BitVec 2) (i b : BitVec 3) : (ss ++ i ++ b).extractLsb' 6 2 = ss ∧ (ss ++ i ++ b).extractLsb' 3 3 = i ∧
    (ss ++ i ++ b).extractLsb' 0 3 = b := by
  revert ss i b
  decide

theorem Reads.memRef32_sib {b : Reg} {i : Option Reg} {ss : BitVec 2} {d : Disp} (hi : i ≠ some .esp) (hb : ¬ (b = .ebp ∧ d = .none)) :
    Reads (memRef32 d.md 4) ((ss ++ indexCode i ++ b.code) :: d.encode 32) (.sib b i ss d) := by
  obtain ⟨hss, hix, hbase⟩ := sib_parts ss (indexCode i) b.code
  refine (Reads.nextByte (ss ++ indexCode i ++ b.code)).bind (cs := d.encode 32) ?_
  rw [hss, hix, hbase, if_neg fun h => hb ⟨Reg.code_eq_five h.2, Disp.md_eq_zero h.1⟩, Reg.ofCode_code, indexOfCode_indexCode hi]
  exact (Reads.dispOf fun v _ => Word.fits_32 v).map _

theorem Reads.memRef32_sibNoBase {i : Option Reg} {ss : BitVec 2} {off : Word} (hi : i ≠ some .esp) :
    Reads (memRef32 0 4) ((ss ++ indexCode i ++ (5 : BitVec 3)) :: encode32 off) (.sibNoBase i ss off) := by
  obtain ⟨hss, hix, hbase⟩ := sib_parts ss (indexCode i) 5
  refine (Reads.nextByte (ss ++ indexCode i ++ (5 : BitVec 3))).bind (cs := encode32 off) ?_
  rw [hss, hix, hbase, if_pos ⟨rfl, rfl⟩, indexOfCode_indexCode hi]
  exact (Reads.next32 off).map _

/-- A memory operand is read after its "mod r/m" byte in the address size in force. -/
theorem Reads.rmOperand_mem {c : Ctx} {md : BitVec 2} {rm : BitVec 3} {bs : List Byte} {x : MemRef} (hmd : md ≠ 3)
    (h : Reads (if c.asz32 then memRef32 md rm else memRef16 md rm) bs x) : Reads (rmOperand c md rm) bs (.mem x) := by
  unfold rmOperand
  rw [if_neg hmd]
  exact h.map _

/-- What the "mod r/m" byte of an operand says of it does not depend on the middle field. -/
theorem RM.encode_reads {c : Ctx} {m : RM} (h : m.wf c = true) :
    ∃ md rm tail, (∀ mid, m.encode mid = (md ++ mid ++ rm) :: tail) ∧ Reads (rmOperand c md rm) tail m := by
  cases m with
  | reg r =>
    refine ⟨3, r.code, [], fun _ => rfl, ?_⟩
    unfold rmOperand
    rw [if_pos rfl, Reg.ofCode_code]
    exact .pure _
  | mem x =>
    cases x with
    | direct16 off =>
      have ha : c.asz32 = false := by simpa [RM.wf, MemRef.wf] using h
      refine ⟨0, 6, encode16 off, fun _ => rfl, .rmOperand_mem (by decide) ?_⟩
      rw [ha]
      exact (Reads.next16 off).map _
    | based16 b d =>
      obtain ⟨⟨ha, hd⟩, hb⟩ : (c.asz32 = false ∧ d.wf 16 = true) ∧ (b ≠ .bp ∨ d ≠ .none) := by
        simpa [RM.wf, MemRef.wf] using h
      refine ⟨d.md, b.code, d.encode 16, fun _ => rfl, .rmOperand_mem d.md_ne_three ?_⟩
      rw [ha]
      exact .memRef16_based hd (not_and_or.mpr hb)
    | direct32 off =>
      have ha : c.asz32 = true := h
      refine ⟨0, 5, encode32 off, fun _ => rfl, .rmOperand_mem (by decide) ?_⟩
      rw [ha]
      exact (Reads.next32 off).map _
    | based32 b d =>
      obtain ⟨⟨ha, hs⟩, hb⟩ : (c.asz32 = true ∧ b ≠ .esp) ∧ (b ≠ .ebp ∨ d ≠ .none) := by
        simpa [RM.wf, MemRef.wf] using h
      refine ⟨d.md, b.code, d.encode 32, fun _ => rfl, .rmOperand_mem d.md_ne_three ?_⟩
      rw [ha]
      exact .memRef32_based hs (not_and_or.mpr hb)
    | sib b i ss d =>
      obtain ⟨⟨ha, hi⟩, hb⟩ : (c.asz32 = true ∧ i ≠ some .esp) ∧ (b ≠ .ebp ∨ d ≠ .none) := by
        simpa [RM.wf, MemRef.wf] using h
      refine ⟨d.md, 4, (ss ++ indexCode i ++ b.code) :: d.encode 32, fun _ => rfl, .rmOperand_mem d.md_ne_three ?_⟩
      rw [ha]
      exact .memRef32_sib hi (not_and_or.mpr hb)
    | sibNoBase i ss off =>
      obtain ⟨ha, hi⟩ : c.asz32 = true ∧ i ≠ some .esp := by simpa [RM.wf, MemRef.wf] using h
      refine ⟨0, 4, (ss ++ indexCode i ++ (5 : BitVec 3)) :: encode32 off, fun _ => rfl, .rmOperand_mem (by decide) ?_⟩
      rw [ha]
      exact .memRef32_sibNoBase hi

/-! Instructions with a "mod r/m" byte. -/

section
variable {c : Ctx} {m : RM} {mid : BitVec 3} {f : ModRM → Parse Instr}

/-- The "mod r/m" byte and what it asks for, and then the rest of the instruction. -/
protected theorem Reads.modRM {bs : List Byte} {i : Instr} (hm : m.wf c = true)
    (hf : ∀ md rm tail, Reads (rmOperand c md rm) tail m → Reads (f ⟨md, mid, rm⟩) (tail ++ bs) i) :
    Reads (nextModRM >>= f) (m.encode mid ++ bs) i := by
  obtain ⟨md, rm, tail, he, hr⟩ := RM.encode_reads hm
  rw [he]
  exact (Reads.nextModRM md mid rm).bind (hf md rm tail hr)

/-- The middle field chooses an instruction of the operand alone. -/
protected theorem Reads.rmOnly {k : RM → Instr} (hm : m.wf c = true)
    (hf : ∀ md rm, f ⟨md, mid, rm⟩ = rmOnly c ⟨md, mid, rm⟩ k) : Reads (nextModRM >>= f) (m.encode mid) (k m) := by
  have h := Reads.modRM (f := f) (mid := mid) (bs := []) (i := k m) hm fun md rm tail hr => by
    rw [hf, List.append_nil]
    exact hr.map k
  rwa [List.append_nil] at h

protected theorem Reads.rmImm {bits : Nat} {k : RM → Word → Instr} {imm : Word} (hm : m.wf c = true) (hi : Word.fits imm bits = true)
    (hf : ∀ md rm, f ⟨md, mid, rm⟩ = rmImm c ⟨md, mid, rm⟩ bits k) :
    Reads (nextModRM >>= f) (m.encode mid ++ encodeBits bits imm) (k m imm) :=
  .modRM hm fun md rm tail hr => by
    rw [hf]
    exact hr.bind ((Reads.nextBits hi).map _)

protected theorem Reads.rmImm8 {k : RM → Byte → Instr} {imm : Byte} (hm : m.wf c = true)
    (hf : ∀ md rm, f ⟨md, mid, rm⟩ = rmImm8 c ⟨md, mid, rm⟩ k) : Reads (nextModRM >>= f) (m.encode mid ++ [imm]) (k m imm) :=
  .modRM hm fun md rm tail hr => by
    rw [hf]
    exact hr.bind ((Reads.nextByte imm).map _)

/-- The middle field chooses an instruction that keeps the "mod r/m" byte and no more. -/
protected theorem Reads.modOnly {md : BitVec 2} {rm : BitVec 3} {i : Instr} (hf : f ⟨md, mid, rm⟩ = pure i) :
    Reads (nextModRM >>= f) [md ++ mid ++ rm] i :=
  (Reads.nextModRM md mid rm).bind (f := f) (cs := []) (hf ▸ .pure i)

protected theorem Reads.rmReg {k : RM → Reg → Instr} {r : Reg} (hm : m.wf c = true) : Reads (rmReg c k) (m.encode r.code) (k m r) := by
  have h := Reads.rmOnly (f := fun x => rmOnly c x fun m => k m (Reg.ofCode x.mid)) (mid := r.code)
    (k := fun m => k m (Reg.ofCode r.code)) hm fun _ _ => rfl
  rwa [Reg.ofCode_code] at h

protected theorem Reads.rmRegImm {bits : Nat} {k : RM → Reg → Word → Instr} {r : Reg} {imm : Word} (hm : m.wf c = true)
    (hi : Word.fits imm bits = true) : Reads (rmRegImm c bits k) (m.encode r.code ++ encodeBits bits imm) (k m r imm) := by
  have h := Reads.rmImm (f := fun x => rmImm c x bits fun m => k m (Reg.ofCode x.mid)) (mid := r.code)
    (k := fun m => k m (Reg.ofCode r.code)) hm hi fun _ _ => rfl
  rwa [Reg.ofCode_code] at h

/-- An immediate byte where the reader asks for a field of 8 bits. -/
protected theorem Reads.rmRegByte {k : RM → Reg → Byte → Instr} {r : Reg} {imm : Byte} (hm : m.wf c = true) :
    Reads (rmRegImm c 8 fun m r v => k m r (v.setWidth 8)) (m.encode r.code ++ [imm]) (k m r imm) := by
  have hb : (imm.setWidth 32).setWidth 8 = imm := by simp
  have hfits : Word.fits (imm.setWidth 32) 8 = true := by
    have hlt := imm.isLt
    exact decide_eq_true (by rw [BitVec.toNat_setWidth]; omega)
  have h := Reads.rmRegImm (k := fun m r v => k m r (v.setWidth 8)) (r := r) hm hfits
  rwa [encodeBits, if_pos rfl, hb] at h

protected theorem Reads.rmSeg {k : RM → Seg → Instr} {g : Seg} (hm : m.wf c = true) : Reads (rmSeg c k) (m.encode g.code) (k m g) := by
  have h := Reads.modRM (f := fun x => rmOperand c x.md x.rm >>= fun m => match Seg.ofCode x.mid with
    | none => rejected .undefinedOpcode
    | some g => pure (k m g)) (mid := g.code) (bs := []) (i := k m g) hm fun md rm tail hr => by
      refine hr.bind ?_
      rw [Seg.ofCode_code]
      exact .pure _
  rwa [List.append_nil] at h

protected theorem Reads.setcc {k : RM → Instr} (hm : m.wf c = true) : Reads (setcc c k) (m.encode 0) (k m) := by
  have h := Reads.modRM (f := fun x => rmOperand c x.md x.rm >>= fun m =>
    if x.mid ≠ 0 then rejected .setccField else pure (k m)) (mid := 0) (bs := []) (i := k m) hm fun md rm tail hr =>
      hr.bind (.pure _)
  rwa [List.append_nil] at h

end

/-! Instructions without one. -/

protected theorem Reads.byteOnly {k : Byte → Instr} (b : Byte) : Reads (byteOnly k) [b] (k b) := (Reads.nextByte b).map k

protected theorem Reads.immOnly {bits : Nat} {k : Word → Instr} {v : Word} (h : Word.fits v bits = true) :
    Reads (immOnly bits k) (encodeBits bits v) (k v) := (Reads.nextBits h).map k

protected theorem Reads.half {k : Half → Instr} (v : Half) : Reads (half k) (encode16 v) (k v) := (Reads.next16 v).map k

protected theorem Reads.farPtr {c : Ctx} {k : Word → Half → Instr} {off : Word} (sel : Half) (h : Word.fits off c.oszBits = true) :
    Reads (farPtr c k) (encodeBits c.oszBits off ++ encode16 sel) (k off sel) :=
  (Reads.nextBits h).bind ((Reads.next16 sel).map _)

protected theorem Reads.enterOperands (v : Half) (l : Byte) : Reads enterOperands (encode16 v ++ [l]) (.enter v l) :=
  (Reads.next16 v).bind ((Reads.nextByte l).map _)

/-- REP or REPNE and the string opcode after it are one instruction (R509). -/
protected theorem Reads.repPrefix {p : Rep} {alone i : Instr} {b : Byte} (h : repeated p b = some i) : Reads (repPrefix p alone) [b] i where
  ok rest := by
    show (match repeated p b with
      | some i => (.ok i rest : EStateM.Result DecodeStop (List Byte) Instr)
      | none => .ok alone (b :: rest)) = .ok i rest
    rw [h]
  more pre x post he := by
    cases pre with
    | nil => exact ⟨[], rfl⟩
    | cons y pre => simp at he

/-! The opcode. -/

/-- The first byte chooses a reader for the rest. -/
protected theorem Reads.opcode {c : Ctx} {b : Byte} {bs : List Byte} {p : Parse Instr} {i : Instr} (hp : decodeOpcode c b = p)
    (h : Reads p bs i) : Reads (nextByte >>= decodeOpcode c) (b :: bs) i :=
  (Reads.nextByte b).bind (cs := bs) (hp ▸ h)

end Sys2Proof
end


-- ==== Proofs: every encoding is read ====
section
/-!
PROOFS. The opcodes of the table choose the readers that its encodings need, and so the bytes of a well-formed instruction are fetched as
that instruction (30_encoding.md R550 to R552, R560; 20_memory.md R224).
-/
namespace Sys2Proof

/-- The second byte of a two-byte opcode chooses a reader for the rest. -/
protected theorem Reads.opcode0F {c : Ctx} {b : Byte} {bs : List Byte} {p : Parse Instr} {i : Instr}
    (hp : ∀ rest, decode0F c (b :: rest) = p rest) (h : Reads p bs i) : Reads (nextByte >>= decodeOpcode c) (0x0F :: b :: bs) i := by
  refine .opcode (p := decode0F c) rfl ⟨fun rest => (hp _).trans (h.ok rest), fun pre x post he => ?_⟩
  cases pre with
  | nil => exact ⟨[], rfl⟩
  | cons y pre =>
    obtain ⟨rfl, ht⟩ := List.cons.inj he
    obtain ⟨rest, hr⟩ := h.more pre x post ht
    exact ⟨rest, (hp pre).trans hr⟩

theorem reads_encode (c : Ctx) (i : Instr) (h : i.wf c = true) (hrep : i ≠ .pfxRep) (hrepne : i ≠ .pfxRepne) :
    Reads (nextByte >>= decodeOpcode c) (encode c i) i := by
  cases i with
  | addRmReg d w m r | orRmReg d w m r | adcRmReg d w m r | sbbRmReg d w m r | andRmReg d w m r | subRmReg d w m r
  | xorRmReg d w m r | cmpRmReg d w m r =>
    refine .opcode (p := rmReg c _) ?_ (.rmReg h)
    cases d <;> cases w <;> rfl
  | movRmReg w m r | movRegRm w m r | xchgRmReg w m r | testRmReg w m r =>
    refine .opcode (p := rmReg c _) ?_ (.rmReg h)
    cases w <;> rfl
  | lea m r | lds m r | les m r | bound m r | arpl m r =>
    exact .opcode (p := rmReg c _) rfl (.rmReg h)
  | movsx w m r | movzx w m r =>
    refine .opcode0F (p := rmReg c _) (fun _ => ?_) (.rmReg h)
    cases w <;> rfl
  | lfs m r | lgs m r | lss m r | imulReg m r | shldCl m r | shrdCl m r | bsf m r | bsr m r | btRmReg m r | btcRmReg m r
  | btrRmReg m r | btsRmReg m r | lar m r | lsl m r =>
    exact .opcode0F (p := rmReg c _) (fun _ => rfl) (.rmReg h)
  | shldImm m r imm | shrdImm m r imm =>
    exact .opcode0F (p := rmRegImm c 8 _) (fun _ => rfl) (.rmRegByte h)
  | imulImm s m r imm =>
    obtain ⟨hm, hi⟩ := Bool.and_eq_true_iff.mp h
    refine .opcode (p := rmRegImm c (c.immsBits s true) _) ?_ (.rmRegImm hm hi)
    cases s <;> rfl
  | addRmImm s w m imm | orRmImm s w m imm | adcRmImm s w m imm | sbbRmImm s w m imm | andRmImm s w m imm | subRmImm s w m imm
  | xorRmImm s w m imm | cmpRmImm s w m imm =>
    obtain ⟨hm, hi⟩ := Bool.and_eq_true_iff.mp h
    refine .opcode (p := group1 c s w) ?_ (.rmImm hm hi fun _ _ => rfl)
    cases s <;> cases w <;> rfl
  | movRmImm w m imm =>
    obtain ⟨hm, hi⟩ := Bool.and_eq_true_iff.mp h
    refine .opcode (p := groupC6 c w) ?_ (.rmImm hm hi fun _ _ => rfl)
    cases w <;> rfl
  | testRmImm w m imm =>
    obtain ⟨hm, hi⟩ := Bool.and_eq_true_iff.mp h
    refine .opcode (p := group3 c w) ?_ (.rmImm hm hi fun _ _ => rfl)
    cases w <;> rfl
  | rolImm w m imm | rorImm w m imm | rclImm w m imm | rcrImm w m imm | shlImm w m imm | shrImm w m imm | sarImm w m imm =>
    refine .opcode (p := group2Imm c w) ?_ (.rmImm8 h fun _ _ => rfl)
    cases w <;> rfl
  | rolOne w m | rorOne w m | rclOne w m | rcrOne w m | shlOne w m | shrOne w m | sarOne w m =>
    refine .opcode (p := group2One c w) ?_ (.rmOnly h fun _ _ => rfl)
    cases w <;> rfl
  | rolCl w m | rorCl w m | rclCl w m | rcrCl w m | shlCl w m | shrCl w m | sarCl w m =>
    refine .opcode (p := group2Cl c w) ?_ (.rmOnly h fun _ _ => rfl)
    cases w <;> rfl
  | notRm w m | negRm w m | mulRm w m | imulAcc w m | divRm w m | idivRm w m =>
    refine .opcode (p := group3 c w) ?_ (.rmOnly h fun _ _ => rfl)
    cases w <;> rfl
  | incRm w m | decRm w m =>
    cases w
    · exact .opcode (p := group4 c) rfl (.rmOnly h fun _ _ => rfl)
    · exact .opcode (p := group5 c) rfl (.rmOnly h fun _ _ => rfl)
  | pushRm m | callRm m | callFarMem m | jmpRm m | jmpFarMem m =>
    exact .opcode (p := group5 c) rfl (.rmOnly h fun _ _ => rfl)
  | popRm m =>
    exact .opcode (p := group8F c) rfl (.rmOnly h fun _ _ => rfl)
  | lldt m | ltr m | sldt m | str m | verr m | verw m =>
    exact .opcode0F (p := group6 c) (fun _ => rfl) (.rmOnly h fun _ _ => rfl)
  | lgdt m | lidt m | lmsw m | sgdt m | sidt m | smsw m =>
    exact .opcode0F (p := group7 c) (fun _ => rfl) (.rmOnly h fun _ _ => rfl)
  | btRmImm m imm | btcRmImm m imm | btrRmImm m imm | btsRmImm m imm =>
    exact .opcode0F (p := group8 c) (fun _ => rfl) (.rmImm8 h fun _ _ => rfl)
  | movSegRm m g | movRmSeg m g =>
    exact .opcode (p := rmSeg c _) rfl (.rmSeg h)
  | seto m | setno m | setb m | setnb m | sete m | setne m | setbe m | setnbe m | sets m | setns m | setp m | setnp m | setl m
  | setnl m | setle m | setnle m =>
    exact .opcode0F (p := setcc c _) (fun _ => rfl) (.setcc h)
  | esc ttt lll m =>
    refine .opcode (p := escOperands c ttt) ?_ (.rmOnly h fun _ _ => rfl)
    rw [← Reg.code_ofCode ttt]
    cases Reg.ofCode ttt <;> rfl
  | movCrReg x r | movRegCr x r =>
    refine .opcode0F (p := controlReg _) (fun _ => rfl) (.modOnly ?_)
    cases x <;> cases r <;> rfl
  | movDrReg x r | movRegDr x r =>
    refine .opcode0F (p := debugReg _) (fun _ => rfl) (.modOnly ?_)
    cases x <;> cases r <;> rfl
  | movTrReg x r | movRegTr x r =>
    refine .opcode0F (p := testReg _) (fun _ => rfl) (.modOnly ?_)
    cases x <;> cases r <;> rfl
  | und8F1 md rm | und8F2 md rm | und8F3 md rm | und8F4 md rm | und8F5 md rm | und8F6 md rm | und8F7 md rm =>
    exact .opcode (p := group8F c) rfl (.modOnly rfl)
  | undC61 w md rm | undC62 w md rm | undC63 w md rm | undC64 w md rm | undC65 w md rm | undC66 w md rm | undC67 w md rm =>
    refine .opcode (p := groupC6 c w) ?_ (.modOnly rfl)
    cases w <;> rfl
  | undFE2 md rm | undFE3 md rm | undFE4 md rm | undFE5 md rm | undFE6 md rm | undFE7 md rm =>
    exact .opcode (p := group4 c) rfl (.modOnly rfl)
  | undFF7 md rm =>
    exact .opcode (p := group5 c) rfl (.modOnly rfl)
  | und0F006 md rm | und0F007 md rm =>
    exact .opcode0F (p := group6 c) (fun _ => rfl) (.modOnly rfl)
  | und0F015 md rm | und0F017 md rm =>
    exact .opcode0F (p := group7 c) (fun _ => rfl) (.modOnly rfl)
  | und0FBA0 md rm | und0FBA1 md rm | und0FBA2 md rm | und0FBA3 md rm =>
    exact .opcode0F (p := group8 c) (fun _ => rfl) (.modOnly rfl)
  | undShift6 d w md rm =>
    cases d
    · refine .opcode (p := group2One c w) ?_ (.modOnly rfl)
      cases w <;> rfl
    · refine .opcode (p := group2Cl c w) ?_ (.modOnly rfl)
      cases w <;> rfl
  | undShiftImm6 w md rm =>
    refine .opcode (p := group2Imm c w) ?_ (.modOnly rfl)
    cases w <;> rfl
  | undF61 w md rm =>
    refine .opcode (p := group3 c w) ?_ (.modOnly rfl)
    cases w <;> rfl
  | addAccImm w imm | orAccImm w imm | adcAccImm w imm | sbbAccImm w imm | andAccImm w imm | subAccImm w imm | xorAccImm w imm
  | cmpAccImm w imm | testAccImm w imm =>
    refine .opcode (p := immOnly (c.immBits w) _) ?_ (.immOnly h)
    cases w <;> rfl
  | movRegImm w r imm =>
    refine .opcode (p := immOnly (c.immBits w) _) ?_ (.immOnly h)
    cases w <;> cases r <;> rfl
  | movAccMem w off | movMemAcc w off =>
    refine .opcode (p := immOnly c.aszBits _) ?_ (.immOnly h)
    cases w <;> rfl
  | pushImm s imm =>
    refine .opcode (p := immOnly (c.immsBits s true) _) ?_ (.immOnly h)
    cases s <;> rfl
  | callRel rel | jmpRel rel =>
    exact .opcode (p := immOnly c.oszBits _) rfl (.immOnly h)
  | joNear rel | jnoNear rel | jbNear rel | jnbNear rel | jeNear rel | jneNear rel | jbeNear rel | jnbeNear rel | jsNear rel
  | jnsNear rel | jpNear rel | jnpNear rel | jlNear rel | jnlNear rel | jleNear rel | jnleNear rel =>
    exact .opcode0F (p := immOnly c.oszBits _) (fun _ => rfl) (.immOnly h)
  | callFar off sel | jmpFar off sel =>
    exact .opcode (p := farPtr c _) rfl (.farPtr sel h)
  | retImm imm | retfImm imm =>
    exact .opcode (p := half _) rfl (.half imm)
  | enter imm level =>
    exact .opcode (p := enterOperands) rfl (.enterOperands imm level)
  | inImm w imm | outImm w imm =>
    refine .opcode (p := byteOnly _) ?_ (.byteOnly imm)
    cases w <;> rfl
  | aad b | aam b | intN b | jmpShort b | jcxz b | loop b | loopz b | loopnz b | joShort b | jnoShort b | jbShort b | jnbShort b
  | jeShort b | jneShort b | jbeShort b | jnbeShort b | jsShort b | jnsShort b | jpShort b | jnpShort b | jlShort b | jnlShort b
  | jleShort b | jnleShort b =>
    exact .opcode (p := byteOnly _) rfl (.byteOnly b)
  | cmps w | ins w | lods w | movs w | outs w | scas w | stos w =>
    have hr : c.rep = none := by simpa [Instr.wf] using h
    refine .opcode (p := pure _) ?_ (.pure _)
    cases w <;> simp [decodeOpcode, decode6, decodeA, stringOp, hr]
  | repeCmps w | repIns w | repLods w | repMovs w | repOuts w | repeScas w | repStos w =>
    refine .opcode (p := repPrefix .rep .pfxRep) rfl (.repPrefix ?_)
    cases w <;> rfl
  | repneCmps w | repneScas w =>
    refine .opcode (p := repPrefix .repne .pfxRepne) rfl (.repPrefix ?_)
    cases w <;> rfl
  | pfxRep =>
    exact absurd rfl hrep
  | pfxRepne =>
    exact absurd rfl hrepne
  | incReg r | decReg r | pushReg r | popReg r =>
    refine .opcode (p := pure _) ?_ (.pure _)
    cases r <;> rfl
  | xchgAccReg r =>
    refine .opcode (p := pure _) ?_ (.pure _)
    cases r with
    | eax => cases h
    | _ => rfl
  | pushSeg g =>
    refine .opcode (p := pure _) ?_ (.pure _)
    cases g with
    | fs | gs => cases h
    | _ => rfl
  | inDx w | outDx w =>
    refine .opcode (p := pure _) ?_ (.pure _)
    cases w <;> rfl
  | pushFs | pushGs | popFs | popGs | clts | und0F05 | und0F07 | und0FA6 | und0FA7 =>
    exact .opcode0F (p := pure _) (fun _ => rfl) (.pure _)
  | _ => exact .opcode (p := pure _) rfl (.pure _)

/-! Decoding. -/

/-- Bytes that a reader takes for an instruction decode as it, with their number as its length; before their end more are asked for. -/
theorem decode_of_reads {c : Ctx} {bs : List Byte} {i : Instr} (h : Reads (nextByte >>= decodeOpcode c) bs i) :
    decode c bs = .instr i bs.length ∧ ∀ pre x post, bs = pre ++ x :: post → decode c pre = .more := by
  constructor
  · have hok := h.ok []
    rw [List.append_nil] at hok
    unfold decode
    rw [hok]
    rfl
  · intro pre x post he
    obtain ⟨rest, hr⟩ := h.more pre x post he
    unfold decode
    rw [hr]

end Sys2Proof

namespace Sys2Proof.Machine

open Sys2Proof

/-! Fetching. -/

/-- With nothing in the queues and no other bus master a byte of the code segment is fetched from memory. -/
theorem fetchByte_unpaged {s : State} {off : Word} (hp : s.pg = false) (hstale : s.stale = []) (hq : s.queued = []) (hb : s.bus = [])
    (hr : s.rightsViolated .cs .execute = false) (hl : s.limitViolated .cs off 1 = false) :
    fetchByte off s = .ok (s.byte (s.physKey (s.linear .cs off))) s := by
  have hnone : s.queuedByte (s.linear .cs off) = none := by
    unfold State.queuedByte
    rw [hq]
    rfl
  have hkeys : (s.physKeys (s.linear .cs off) 1).headD 0 = s.physKey (s.linear .cs off) := by simp [State.physKeys]
  have hbyte (key : Nat) : s.fetchedByte key = s.byte key := by
    unfold State.fetchedByte
    rw [hstale]
    rfl
  unfold fetchByte
  rw [M.bind_of_ok (checkSeg_ok.mpr ⟨hr, hl, rfl⟩), M.get_bind, hnone]
  refine (M.bind_of_ok (linKeys_unpaged hp (busTurn_nil hb))).trans ?_
  rw [M.get_bind, M.pure_apply, hkeys, hbyte]

/-- The loop of the fetch, from any point within the bytes that are to be read. -/
theorem fetchInstr_of_decode {c : Ctx} {off : Word} {s : State} {bs : List Byte} {d : Decoded} (hd : decode c bs = d) (hne : d ≠ .more)
    (hmore : ∀ pre x post, bs = pre ++ x :: post → decode c pre = .more)
    (hbyte : ∀ pre x post, bs = pre ++ x :: post → fetchByte (off + BitVec.ofNat 32 pre.length) s = .ok x s)
    (post pre : List Byte) (room : Nat) (he : bs = pre ++ post) (hroom : post.length ≤ room) :
    fetchInstr c off room pre s = .ok d s := by
  induction post generalizing pre room with
  | nil =>
    rw [List.append_nil] at he
    rw [he] at hd
    unfold fetchInstr
    rw [hd]
    cases d with
    | more => exact absurd rfl hne
    | instr i len => rfl
    | reject r => rfl
  | cons x post ih =>
    cases room with
    | zero => simp at hroom
    | succ room =>
      unfold fetchInstr
      rw [hmore pre x post he]
      refine (M.bind_of_ok (hbyte pre x post he)).trans (ih (pre ++ [x]) room (by simpa using he) ?_)
      simpa using hroom

/-- Settles O3: every byte of the encoding is fetched from memory, and the reader asks for more until all of them are there. -/
theorem fetchReadsInstructionBytes : Obligations.FetchReadsInstructionBytes := by
  intro s i hp hstale hq hb hwf hrep hrepne hlen hr hbytes
  obtain ⟨hd, hmore⟩ := decode_of_reads (reads_encode s.ctx i hwf hrep hrepne)
  have hbyte (pre : List Byte) (x : Byte) (post : List Byte) (he : encode s.ctx i = pre ++ x :: post) :
      fetchByte (s.fetchOffset + BitVec.ofNat 32 pre.length) s = .ok x s := by
    obtain ⟨hl, hx⟩ := hbytes pre.length x (by rw [he, List.getElem?_append_right le_rfl]; simp)
    rw [fetchByte_unpaged hp hstale hq hb hr hl, hx]
  have hfetch := fetchInstr_of_decode hd nofun hmore hbyte (encode s.ctx i) [] (maxLength - s.pfx.count) rfl (by omega)
  have hahead (next : Word) : s.prefetched next = s := by
    unfold State.prefetched
    rw [hp]
    rfl
  unfold fetch
  rw [M.get_bind, M.bind_of_ok hfetch]
  show EStateM.Result.ok _ (s.prefetched _) = _
  rw [hahead]

end Sys2Proof.Machine
end

-- ==== Proofs: instructions that trap ====
section
/-!
PROOFS. Instructions that the level, the mode or the form of the operand does not allow fail at their first check (21_protection.md R404,
R405, R410, R411; 30_encoding.md R571, R572).
-/
namespace Sys2Proof.Machine

open Sys2Proof

/-! The checks, where they fail. -/

theorem State.unprivileged.refused {s : State} (h : s.unprivileged) : (s.v86 || (s.prot && s.cpl != 0)) = true := by
  rcases h with h | ⟨hp, hc⟩
  · simp [h]
  · rw [hp, bne_iff_ne.mpr hc, Bool.and_self, Bool.or_true]

theorem requireCpl0_error {s : State} (h : s.unprivileged) : requireCpl0 s = .error (.exc ⟨13, some 0⟩ false) s := by
  unfold requireCpl0
  rw [M.get_bind, h.refused]
  rfl

theorem requireProt_error {s : State} (h : s.decodedProt = false) : requireProt s = .error (.exc ⟨6, none⟩ false) s := by
  unfold requireProt
  rw [M.get_bind, h]
  rfl

theorem requireIopl_error {s : State} (hp : s.pe = true) (hi : s.flags.iopl.toNat < s.cpl.toNat) :
    requireIopl s = .error (.exc ⟨13, some 0⟩ false) s := by
  unfold requireIopl
  rw [M.get_bind, hp, decide_eq_true hi]
  rfl

theorem requireV86Iopl_error {s : State} (hv : s.v86 = true) (hi : s.flags.iopl ≠ 3) :
    requireV86Iopl s = .error (.exc ⟨13, some 0⟩ false) s := by
  unfold requireV86Iopl
  rw [M.get_bind, hv, bne_iff_ne.mpr hi]
  rfl

theorem requireCpl0_of_privileged {s : State} (h : s.pe = false ∨ (s.prot = true ∧ s.cpl = 0)) : requireCpl0 s = .ok () s := by
  refine requireCpl0_ok.mpr ⟨?_, rfl⟩
  unfold State.v86 State.prot at *
  rcases h with h | ⟨h, hc⟩
  · simp [h]
  · simp_all

/-- LGDT and LIDT with a register operand, below CPL 0: the check that comes first decides (49_system.md R987; 60_exceptions.md R1055). -/
theorem loadTable_reg_unprivileged {s : State} (h : s.unprivileged) (r : Reg) (k : TableReg → State → State) :
    loadTable (.reg r) k s = .error (.exc (if Config.formBeforePrivilege then ⟨6, none⟩ else ⟨13, some 0⟩) false) s := by
  show (raiseIf (true && Config.formBeforePrivilege) raiseUD >>= fun _ => _) s = _
  cases Config.formBeforePrivilege with
  | true => exact M.bind_of_error rfl
  | false => exact (M.bind_of_ok (a := ()) (t := s) rfl).trans (M.bind_of_error (requireCpl0_error h))

theorem loadTable_mem_unprivileged {s : State} (h : s.unprivileged) (x : MemRef) (k : TableReg → State → State) :
    loadTable (.mem x) k s = .error (.exc ⟨13, some 0⟩ false) s :=
  (M.bind_of_ok (a := ()) (t := s) rfl).trans (M.bind_of_error (requireCpl0_error h))

theorem loadTable_reg_privileged {s : State} (h : s.pe = false ∨ (s.prot = true ∧ s.cpl = 0)) (r : Reg) (k : TableReg → State → State) :
    loadTable (.reg r) k s = .error (.exc ⟨6, none⟩ false) s := by
  show (raiseIf (true && Config.formBeforePrivilege) raiseUD >>= fun _ => _) s = _
  cases Config.formBeforePrivilege with
  | true => exact M.bind_of_error rfl
  | false =>
    exact (M.bind_of_ok (a := ()) (t := s) rfl).trans ((M.bind_of_ok (requireCpl0_of_privileged h)).trans (M.bind_of_error rfl))

/-- A check that fails after the state has been read. -/
theorem M.get_check_error {α β : Type} {x : M α} {f : State → α → M β} {s t : State} {e : Stop} (h : x s = .error e t) :
    (get >>= fun u => x >>= f u) s = .error e t :=
  (M.get_bind _ s).trans (M.bind_of_error h)

theorem instr_gp0 {body : M Unit} {s : State} (hl : s.pfx.lock = false) (h : body s = .error (.exc ⟨13, some 0⟩ false) s) :
    instr body s = deliver { vector := 13, kind := .fault, code := some 0 } s.eip s := instr_exc hl h

theorem instr_ud {body : M Unit} {s : State} (hl : s.pfx.lock = false) (h : body s = .error (.exc ⟨6, none⟩ false) s) :
    instr body s = deliver { vector := 6, kind := .fault, code := none } s.eip s := instr_exc hl h

theorem interruptAfter_gp0 {pre : M Unit} {vec : Byte} {s : State} (hl : s.pfx.lock = false)
    (h : pre s = .error (.exc ⟨13, some 0⟩ false) s) :
    interruptAfter pre vec s = deliver { vector := 13, kind := .fault, code := some 0 } s.eip s := by
  unfold interruptAfter
  rw [M.seqRight_apply, M.bind_of_ok (a := ()) (t := s) (by rw [noLock_apply, hl]; rfl), h]
  rfl

/-- The mode by which the instruction was decoded is the old one or the new one. -/
theorem State.decodedProt_of_some {s : State} {old : Bool} (h : s.queuedMode = some old) : s.decodedProt = old ∨ s.decodedProt = s.prot := by
  unfold State.decodedProt
  rw [h]
  cases Config.decodedBefore s.freeIdx with
  | true => exact .inl rfl
  | false => exact .inr rfl

/-! The obligations. -/

/-- Settles O54: each body begins with the check that fails; for LGDT and LIDT of a register the free order of two checks decides. -/
theorem privilegedInstructionsTrap : Obligations.PrivilegedInstructionsTrap := by
  intro s m x r c d k n i hl
  refine ⟨fun hu hi => ?table, fun hu hi => ?cpl0, fun hp hu hi => ?task, fun hp hio hi => ?iopl, fun hv hio hi => ?v86⟩
  all_goals simp only [List.mem_cons, List.not_mem_nil, or_false] at hi
  case table =>
    have h (k : TableReg → State → State) := instr_exc hl (loadTable_reg_unprivileged hu r k)
    rcases hi with rfl | rfl
    all_goals
      refine (h _).trans ?_
      cases Config.formBeforePrivilege <;> rfl
  case cpl0 =>
    have h := requireCpl0_error hu
    rcases hi with rfl | rfl | rfl | rfl | rfl | rfl | rfl | rfl | rfl | rfl | rfl
    case inr.inr.inr.inl | inr.inr.inr.inr.inl => exact instr_gp0 hl (loadTable_mem_unprivileged hu ..)
    all_goals exact instr_gp0 hl (M.bind_of_error h)
  case task =>
    have h {f : Unit → M Unit} : (requireProt >>= fun _ => requireCpl0 >>= f) s = .error (.exc ⟨13, some 0⟩ false) s :=
      (M.bind_of_ok (requireProt_ok.mpr ⟨hp, rfl⟩)).trans (M.bind_of_error (requireCpl0_error hu))
    rcases hi with rfl | rfl
    all_goals exact instr_gp0 hl h
  case iopl =>
    rcases hi with rfl | rfl
    all_goals exact instr_gp0 hl (M.bind_of_error (requireIopl_error hp hio))
  case v86 =>
    have h := requireV86Iopl_error hv hio
    rcases hi with rfl | rfl | rfl | rfl
    · exact interruptAfter_gp0 hl h
    all_goals exact instr_gp0 hl (M.get_check_error h)

/-- Settles O55: the mode is checked before anything else, and a register is no operand in memory. -/
theorem invalidFormsTrap : Obligations.InvalidFormsTrap := by
  intro s m q r i hl
  refine ⟨State.decodedProt_of_none, fun _ => State.decodedProt_of_some, fun hp hi => ?mode, fun hi => ?form, fun hu hi => ?table⟩
  all_goals simp only [List.mem_cons, List.not_mem_nil, or_false] at hi
  case mode =>
    rcases hi with rfl | rfl | rfl | rfl | rfl | rfl | rfl | rfl | rfl
    all_goals exact instr_ud hl (M.bind_of_error (requireProt_error hp))
  case form =>
    have h : memOperand (.reg q) s = .error (.exc ⟨6, none⟩ false) s := rfl
    have hcs : raiseIf (Seg.cs == .cs) raiseUD s = .error (.exc ⟨6, none⟩ false) s := rfl
    rcases hi with rfl | rfl | rfl | rfl | rfl | rfl | rfl | rfl | rfl | rfl | rfl | rfl
    case inr.inr.inr.inr.inr.inr.inr.inr.inr.inr.inr => exact instr_ud hl (M.bind_of_error hcs)
    all_goals exact instr_ud hl (M.bind_of_error h)
  case table =>
    have h (k : TableReg → State → State) := instr_ud hl (loadTable_reg_privileged hu q k)
    rcases hi with rfl | rfl
    all_goals exact h _

end Sys2Proof.Machine
end

-- ==== Proofs: what an unprivileged instruction shelters ====
section
/-!
PROOFS. The registers that only privileged instructions load (21_protection.md R410). A computation `Shelters` if, however it ends, it keeps
them, takes the bus only as far as it goes, and stops at a bus operation only for what was to come there. Everything but the privileged
instructions is such a computation, so an instruction below CPL 0 changes none of these registers, the exceptions that it raises included.
-/
namespace Sys2Proof.Machine

open Sys2Proof

/-! The relation. -/

/-- GDTR, IDTR, DR0 to DR3, TR6, TR7, and CR0 but for TS (21_protection.md R410). -/
def State.shelter (s : State) : TableReg × TableReg × Word × Word × Word × Word × Word × Word × Word :=
  (s.gdtr, s.idtr, s.dr0, s.dr1, s.dr2, s.dr3, s.tr6, s.tr7, s.cr0 ||| 8)

/-- These and what other bus masters, RESET and READY# are to do: what an update of the state leaves alone. -/
def State.apart (s : State) := (s.shelter, s.bus)

/-- These are as before, and nothing is to come on the bus that was not to come. -/
structure State.Sheltered (s t : State) : Prop where
  kept : t.shelter = s.shelter
  bus : ∀ x ∈ t.bus, x ∈ s.bus

protected theorem State.Sheltered.refl (s : State) : s.Sheltered s := ⟨rfl, fun _ h => h⟩

protected theorem State.Sheltered.trans {s t u : State} (h : s.Sheltered t) (k : t.Sheltered u) : s.Sheltered u :=
  ⟨k.kept.trans h.kept, fun x hx => h.bus x (k.bus x hx)⟩

theorem State.Sheltered.of_apart {s t : State} (h : t.apart = s.apart) : s.Sheltered t := by
  obtain ⟨hk, hb⟩ := Prod.mk.inj h
  exact ⟨hk, fun x hx => hb ▸ hx⟩

theorem State.Sheltered.unstopped {s t : State} (h : s.Sheltered t) (hs : s.unstopped) : t.unstopped :=
  fun x hx => hs x (h.bus x hx)

theorem State.Sheltered.withBus {s : State} {b : List BusTurn} (h : ∀ x ∈ b, x ∈ s.bus) : s.Sheltered (s.withBus b) := ⟨rfl, h⟩

theorem State.mastered_apart (s : State) (w : List (BitVec 24 × Byte)) : (s.mastered w).apart = s.apart := by
  simp [State.apart, State.shelter]

theorem State.writeKeys_apart (s : State) (keys : List Nat) (v : Word) : (s.writeKeys keys v).apart = s.apart := by
  simp [State.apart, State.shelter]

/-- What other masters write between a read and a write is taken off the bus. -/
theorem State.Sheltered.between (s : State) : s.Sheltered s.between := by
  unfold State.between
  split
  · exact .refl s
  · split
    · exact .refl s
    · rename_i x rest hb
      split
      · refine .trans (.withBus fun y hy => ?_) (.of_apart (State.mastered_apart ..))
        rw [hb]
        exact List.mem_cons_of_mem _ hy
      · exact .refl s

/-- A failed instruction leaves the registers as they were, and the bus as it is. -/
theorem State.Sheltered.rollback {s t : State} (h : s.Sheltered t) : s.Sheltered (s.rollback t) := ⟨rfl, h.bus⟩

/-! Computations. -/

variable {α β : Type}

/-- However the computation ends, it has kept what is sheltered, and it is cut short at a bus operation only by what was to come there. -/
structure Shelters (x : M α) : Prop where
  keeps : Keeps State.Sheltered x
  stops : ∀ s b t, x s = .error (.bus b) t → ¬ s.unstopped

theorem Shelters.ok {x : M α} (h : Shelters x) {s t : State} {a : α} (hx : x s = .ok a t) : s.Sheltered t := by
  simpa [hx] using h.keeps s

theorem Shelters.error {x : M α} (h : Shelters x) {s t : State} {e : Stop} (hx : x s = .error e t) : s.Sheltered t := by
  simpa [hx] using h.keeps s

protected theorem Shelters.bind {x : M α} {f : α → M β} (hx : Shelters x) (hf : ∀ a, Shelters (f a)) : Shelters (x >>= f) where
  keeps := Keeps.bind (fun _ _ _ => .trans) hx.keeps fun a => (hf a).keeps
  stops s b u h hs := by
    rcases M.bind_error.mp h with h | ⟨a, t, ht, h⟩
    · exact hx.stops s b u h hs
    · exact (hf a).stops t b u h ((hx.ok ht).unstopped hs)

theorem Shelters.seq {x : M α} {y : M β} (hx : Shelters x) (hy : Shelters y) : Shelters (x >>= fun _ => y) := hx.bind fun _ => hy

theorem Shelters.seqRight {x : M α} {y : M β} (hx : Shelters x) (hy : Shelters y) : Shelters (x *> y) := hx.seq hy

protected theorem Shelters.pure (a : α) : Shelters (pure a : M α) := ⟨Keeps.pure .refl a, fun _ _ _ h => nomatch h⟩

theorem Shelters.get_bind {f : State → M α} (h : ∀ s, Shelters (f s)) : Shelters (get >>= f) :=
  ⟨fun s => (h s).keeps s, fun s => (h s).stops s⟩

protected theorem Shelters.raise (v : Byte) (c : Option Half) : Shelters (raise v c : M α) := ⟨Keeps.raise .refl v c, fun _ _ _ h => nomatch h⟩

protected theorem Shelters.refuse (r : Refusal) : Shelters (refuse r : M α) := ⟨Keeps.throw .refl _, fun _ _ _ h => nomatch h⟩

protected theorem Shelters.modify {k : State → State} (h : ∀ s : State, s.Sheltered (k s)) : Shelters (modify k : M Unit) :=
  ⟨Keeps.modify h, fun _ _ _ h => nomatch h⟩

/-- After a refusal nothing comes. -/
theorem Shelters.refuse_bind (r : Refusal) (f : α → M β) : Shelters (refuse r >>= f) := ⟨fun s => .refl s, fun _ _ _ h => nomatch h⟩

/-- A change of other parts of the state. -/
theorem Shelters.frame {k : State → State} (h : ∀ s : State, (k s).apart = s.apart) : Shelters (modify k : M Unit) :=
  .modify fun s => .of_apart (h s)

protected theorem Shelters.ite {c : Prop} [Decidable c] {x y : M α} (hx : Shelters x) (hy : Shelters y) :
    Shelters (if c then x else y) := by
  split
  · exact hx
  · exact hy

protected theorem Shelters.raiseIf {c : Bool} {x : M Unit} (hx : Shelters x) : Shelters (raiseIf c x) := .ite hx (.pure ())

/-- A check that raises an exception at once. -/
theorem Shelters.check {c : Bool} {v : Byte} {e : Option Half} : Shelters (Machine.raiseIf c (Machine.raise v e)) := .raiseIf (.raise v e)

/-- What a locked sequence holds off was to come before it, and is to come after it. -/
protected theorem Shelters.locked {x : M α} (hx : Shelters x) : Shelters (locked x) := by
  have before (s : State) : s.Sheltered (s.withBus (s.bus.takeWhile fun b => !b.heldOff)) :=
    .withBus fun _ hy => (List.takeWhile_prefix _).subset hy
  have after {s t : State} (h : s.Sheltered t) : s.Sheltered (t.withBus (t.bus ++ s.bus.dropWhile fun b => !b.heldOff)) :=
    ⟨h.kept, fun y hy => (List.mem_append.mp hy).elim (h.bus y) fun hy => (List.dropWhile_suffix _).subset hy⟩
  constructor
  · intro s
    have h := (before s).trans (hx.keeps (s.withBus (s.bus.takeWhile fun b => !b.heldOff)))
    unfold Machine.locked
    revert h
    cases x (s.withBus (s.bus.takeWhile fun b => !b.heldOff)) <;> exact after
  · intro s b t h hs
    unfold Machine.locked at h
    dsimp only at h
    split at h
    · cases h
    · rename_i hu
      cases h
      exact hx.stops _ _ _ hu ((before s).unstopped hs)

protected theorem Shelters.lockedIf {c : Bool} {x : M α} (hx : Shelters x) : Shelters (lockedIf c x) := by
  cases c with
  | false => exact hx
  | true => exact hx.locked

protected theorem Shelters.committed {x : M α} (hx : Shelters x) : Shelters (committed x) := by
  constructor
  · intro s
    have h := hx.keeps s
    unfold Machine.committed
    split <;> rename_i hu <;> rw [hu] at h <;> exact h
  · intro s b t h
    unfold Machine.committed at h
    split at h <;> cases h
    exact hx.stops s _ _ ‹_›

/-! Accesses to memory and ports. -/

/-- The first entry of the bus is taken, and ends the activity where it says so. -/
protected theorem Shelters.busTurn : Shelters busTurn := by
  have taken {s : State} {x : BusTurn} {rest : List BusTurn} (h : s.bus = x :: rest) (w : List (BitVec 24 × Byte)) :
      s.Sheltered ((s.withBus rest).mastered w) := by
    refine .trans (.withBus fun y hy => ?_) (.of_apart (State.mastered_apart ..))
    rw [h]
    exact List.mem_cons_of_mem _ hy
  constructor
  · intro s
    unfold Machine.busTurn
    cases hb : s.bus with
    | nil => exact .refl s
    | cons x rest =>
      obtain ⟨writes, stop⟩ := x
      cases stop <;> exact taken hb writes
  · intro s b t h hs
    unfold Machine.busTurn at h
    cases hb : s.bus with
    | nil => rw [hb] at h; cases h
    | cons x rest =>
      have hx : x.stop = none := hs x (by simp [hb])
      rw [hb] at h
      dsimp only at h
      rw [hx] at h
      cases h

protected theorem Shelters.cycleTurn : Shelters cycleTurn := .locked .busTurn

protected theorem Shelters.pageFault (la : Word) (p w u : Bool) : Shelters (pageFault la p w u : M α) :=
  .seq (.frame fun _ => rfl) <| .get_bind fun _ => .raise ..

theorem State.markEntry_apart (s : State) (pa bits : Word) : (s.markEntry pa bits).apart = s.apart := by
  unfold State.markEntry
  dsimp only
  split
  · rfl
  · exact State.writeKeys_apart ..

protected theorem Shelters.updateEntry (due : Bool) (pa bits : Word) : Shelters (updateEntry due pa bits) :=
  .ite (.seq .busTurn (.frame fun s => s.markEntry_apart pa bits)) (.pure _)

protected theorem Shelters.walk (la : Word) (w u : Bool) : Shelters (walk la w u) :=
  .seq .busTurn <| .get_bind fun _ => .seq (.raiseIf (.pageFault ..)) <| .seq .busTurn <| .get_bind fun _ =>
    .ite (.seq (.updateEntry ..) (.pageFault ..)) <| .seq (.raiseIf (.pageFault ..)) <| .seq (.updateEntry ..) <|
      .seq (.updateEntry ..) <| .seq (.frame fun _ => rfl) (.pure _)

protected theorem Shelters.translate (la : Word) (w u : Bool) : Shelters (translate la w u) :=
  .seq (.frame fun _ => rfl) <| .get_bind fun s => by
    cases s.tlbHit la with
    | some e =>
      exact .seq (.raiseIf (.pageFault ..)) (.ite (.seq (.frame fun _ => rfl) (.walk ..)) (.pure _))
    | none => exact .walk ..

protected theorem Shelters.linPages (la : Word) (nb : Nat) (w u : Bool) : Shelters (linPages la nb w u) :=
  .get_bind fun _ => .ite (.pure _) <| .bind (.translate ..) fun _ =>
    .ite (.get_bind fun _ => .pure _) (.bind (.translate ..) fun _ => .get_bind fun _ => .pure _)

protected theorem Shelters.linKeys (la : Word) (nb : Nat) (w u : Bool) : Shelters (linKeys la nb w u) :=
  .bind (.linPages ..) fun _ => .seq .busTurn (.pure _)

protected theorem Shelters.checkReg (r : SegReg) (stack : Bool) (off : Word) (nb : Nat) (a : Access) :
    Shelters (checkReg r stack off nb a) :=
  .get_bind fun _ => .seq .check (.raiseIf (.ite (.raise ..) (.raise ..)))

protected theorem Shelters.checkSeg (g : Seg) (off : Word) (nb : Nat) (a : Access) : Shelters (checkSeg g off nb a) :=
  .get_bind fun _ => .checkReg ..

protected theorem Shelters.regKeys (r : SegReg) (stack u : Bool) (off : Word) (nb : Nat) (w : Bool) :
    Shelters (regKeys r stack u off nb w) :=
  .seq (.checkReg ..) <| .bind (.linKeys ..) fun _ => .seq (.frame fun _ => rfl) (.pure _)

protected theorem Shelters.memKeys (g : Seg) (off : Word) (nb : Nat) (w : Bool) : Shelters (memKeys g off nb w) :=
  .get_bind fun _ => .regKeys ..

protected theorem Shelters.probeKeys (g : Seg) (off : Word) (nb : Nat) : Shelters (probeKeys g off nb) :=
  .seq (.checkSeg ..) <| .get_bind fun _ => .bind (.linKeys ..) fun _ => .seq (.frame fun _ => rfl) (.pure _)

protected theorem Shelters.linRead (la : Word) (nb : Nat) (u : Bool) : Shelters (linRead la nb u) :=
  .bind (.linKeys ..) fun _ => .get_bind fun _ => .pure _

protected theorem Shelters.linWrite (la : Word) (nb : Nat) (v : Word) (u : Bool) : Shelters (linWrite la nb v u) :=
  .bind (.linKeys ..) fun _ => .frame fun s => s.writeKeys_apart ..

protected theorem Shelters.memRead (g : Seg) (off : Word) (nb : Nat) : Shelters (memRead g off nb) :=
  .bind (.memKeys ..) fun _ => .get_bind fun _ => .pure _

protected theorem Shelters.memWrite (g : Seg) (off : Word) (nb : Nat) (v : Word) : Shelters (memWrite g off nb v) :=
  .bind (.memKeys ..) fun _ => .frame fun s => s.writeKeys_apart ..

theorem State.ioWrite_apart (s : State) (port : Half) (n : Nat) (v : Word) : (s.ioWrite port n v).apart = s.apart := by
  simp [State.apart, State.shelter]

protected theorem Shelters.portCycles (ns : List Nat) (port : Half) (v : Word) : Shelters (portCycles ns port v) := by
  induction ns generalizing port v with
  | nil => exact .pure _
  | cons n rest ih =>
    cases rest with
    | nil => exact .frame fun s => s.ioWrite_apart ..
    | cons m rest => exact .seq (.frame fun s => s.ioWrite_apart ..) (.seq .cycleTurn (ih ..))

protected theorem Shelters.portWrite (port : Half) (nb : Nat) (v : Word) : Shelters (portWrite port nb v) := .seq .busTurn (.portCycles ..)

protected theorem Shelters.portRead (port : Half) (nb : Nat) : Shelters (portRead port nb) := .seq .busTurn (.get_bind fun _ => .pure _)

/-! Operands, the stack, and the end of an instruction. -/

theorem State.setAddrReg_apart (s : State) (r : Reg) (v : Word) : (s.setAddrReg r v).apart = s.apart := by
  simp [State.apart, State.shelter]

theorem State.setSp_apart (s : State) (v : Word) : (s.setSp v).apart = s.apart := by simp [State.apart, State.shelter]

theorem State.setSeg_apart (s : State) (g : Seg) (r : SegReg) : (s.setSeg g r).apart = s.apart := by simp [State.apart, State.shelter]

/-- What an update of memory after the writes of other masters leaves. -/
theorem State.Sheltered.after_between {s t : State} (h : t.apart = s.between.apart) : s.Sheltered t :=
  (State.Sheltered.between s).trans (.of_apart h)

protected theorem Shelters.readRM (w : Width) (m : RM) : Shelters (readRM w m) := by
  cases m with
  | reg r => exact .get_bind fun _ => .pure _
  | mem x => exact .get_bind fun _ => .bind (.memRead ..) fun _ => .pure _

protected theorem Shelters.writeRM (w : Width) (m : RM) (v : BitVec w.bits) : Shelters (writeRM w m v) := by
  cases m with
  | reg r => exact .frame fun _ => rfl
  | mem x => exact .get_bind fun _ => .memWrite ..

protected theorem Shelters.updateRM (w : Width) (m : RM) (k : BitVec w.bits → Flags → BitVec w.bits × Flags) :
    Shelters (updateRM w m k) := by
  cases m with
  | reg r => exact .frame fun _ => rfl
  | mem x => exact .get_bind fun _ => .bind (.memKeys ..) fun _ => .modify fun s => .after_between (s.between.writeKeys_apart ..)

protected theorem Shelters.memOperand (m : RM) : Shelters (memOperand m) := by
  cases m with
  | reg r => exact .raise ..
  | mem x => exact .pure x

protected theorem Shelters.push (v : Word) (nb : Nat) : Shelters (push v nb) :=
  .get_bind fun _ => .seq (.memWrite ..) (.frame fun s => s.setSp_apart _)

protected theorem Shelters.stackRead (d nb : Nat) : Shelters (stackRead d nb) := .get_bind fun _ => .memRead ..

protected theorem Shelters.checkRoom (n w : Nat) : Shelters (checkRoom n w) := .get_bind fun _ => .check

protected theorem Shelters.checkStackTop (n : Nat) : Shelters (checkStackTop n) := .get_bind fun _ => .check

protected theorem Shelters.advance : Shelters advance := .frame fun _ => rfl

/-- What remains of an instruction after its effect. -/
theorem Shelters.finish {x : M Unit} (hx : Shelters x) : Shelters (x >>= fun _ => Machine.advance) := hx.seq .advance

/-- A change of other parts of the state, as an instruction. -/
protected theorem Shelters.change {k : State → State} (h : ∀ s : State, (k s).apart = s.apart) : Shelters (change k) :=
  .finish (.frame h)

protected theorem Shelters.checkTarget (t : Word) : Shelters (checkTarget t) := .get_bind fun _ => .check

protected theorem Shelters.nearJump (t : Word) : Shelters (nearJump t) := .seq (.checkTarget t) (.frame fun _ => rfl)

protected theorem Shelters.requireCpl0 : Shelters requireCpl0 := .get_bind fun _ => .check

protected theorem Shelters.requireProt : Shelters requireProt := .get_bind fun _ => .check

protected theorem Shelters.requireIopl : Shelters requireIopl := .get_bind fun _ => .check

protected theorem Shelters.requireV86Iopl : Shelters requireV86Iopl := .get_bind fun _ => .check

protected theorem Shelters.ioMapCheck (port : Half) (nb : Nat) : Shelters (ioMapCheck port nb) :=
  .get_bind fun _ => .seq .check <| .seq .check <| .bind (.linRead ..) fun _ => .seq .check <| .bind (.linRead ..) fun _ => .check

protected theorem Shelters.ioPermitted (port : Half) (nb : Nat) : Shelters (ioPermitted port nb) :=
  .get_bind fun _ => .ite (.ioMapCheck ..) (.pure _)

/-! Descriptors and the loads of segment registers. -/

protected theorem Shelters.linDescriptor (la : Word) : Shelters (linDescriptor la) :=
  .bind (.linKeys ..) fun _ => .get_bind fun _ => .pure _

protected theorem Shelters.readDescriptor (sel : Half) : Shelters (readDescriptor sel) :=
  .get_bind fun s => by
    cases s.descriptorAt sel with
    | none => exact .pure _
    | some la => exact .bind (.linDescriptor la) fun _ => .pure _

protected theorem Shelters.needDescriptor {sel : Half} {fail : M Unit} (hf : Shelters fail) : Shelters (needDescriptor sel fail) :=
  .bind (.readDescriptor sel) fun d => by
    cases d with
    | some d => exact .pure d
    | none => exact hf.seq (.pure _)

/-- A descriptor, with an exception where its table does not hold it. -/
theorem Shelters.descriptor {sel : Half} {v : Byte} {e : Option Half} : Shelters (Machine.needDescriptor sel (Machine.raise v e)) :=
  .needDescriptor (.raise v e)

protected theorem Shelters.writeAccessByte (sel : Half) (set clear : Word) : Shelters (writeAccessByte sel set clear) :=
  .get_bind fun s => by
    cases s.descriptorAt sel with
    | none => exact .pure _
    | some la => exact .locked (.bind (.linKeys ..) fun _ => .frame fun s => s.writeKeys_apart ..)

protected theorem Shelters.markAccessed (sel : Half) (d : Descriptor) : Shelters (markAccessed sel d) :=
  .ite (.pure _) (.writeAccessByte ..)

protected theorem Shelters.loadDataSeg {g : Seg} {sel : Half} {fail : Half → M Unit} (hf : ∀ x, Shelters (fail x)) :
    Shelters (loadDataSeg g sel fail) :=
  .ite (.frame fun s => s.setSeg_apart ..) <| .bind (.needDescriptor (hf _)) fun _ => .get_bind fun _ => .seq (.raiseIf (hf _)) <|
    .seq (.raiseIf (hf _)) <| .seq (.raiseIf (hf _)) <| .seq .check <| .seq (.markAccessed ..) (.frame fun s => s.setSeg_apart ..)

protected theorem Shelters.stackDescriptor {sel : Half} {n : BitVec 2} {nullFail : M Unit} {fail : Half → M Unit} (hn : Shelters nullFail)
    (hf : ∀ x, Shelters (fail x)) : Shelters (stackDescriptor sel n nullFail fail) :=
  .seq (.raiseIf hn) <| .bind (.needDescriptor (hf _)) fun _ => .seq (.raiseIf (hf _)) <| .seq (.raiseIf (hf _)) <|
    .seq (.raiseIf (hf _)) <| .seq .check (.pure _)

protected theorem Shelters.loadStack (sel : Half) (d : Descriptor) : Shelters (loadStack sel d) :=
  .seq (.markAccessed ..) (.frame fun _ => rfl)

protected theorem Shelters.loadSS (sel : Half) : Shelters (loadSS sel) :=
  .get_bind fun _ => .bind (.stackDescriptor (.raise ..) fun _ => .raise ..) fun d => .loadStack sel d

protected theorem Shelters.loadSeg (g : Seg) (sel : Half) : Shelters (loadSeg g sel) :=
  .get_bind fun _ => .ite (.frame fun s => s.setSeg_apart ..) (.ite (.loadSS sel) (.loadDataSeg fun _ => .raise ..))

protected theorem Shelters.loadCs (sel : Half) (d : Descriptor) (n : BitVec 2) : Shelters (loadCs sel d n) :=
  .seq (.markAccessed ..) (.frame fun _ => rfl)

protected theorem Shelters.checkOffset (d : Descriptor) (off : Word) : Shelters (checkOffset d off) := .check

/-! Far transfers within a task. -/

protected theorem Shelters.pushReturn (csImage : Word) (w : Nat) : Shelters (pushReturn csImage w) :=
  .get_bind fun _ => .seq (.push ..) (.push ..)

protected theorem Shelters.enterCode (sel : Half) (d : Descriptor) (n : BitVec 2) (off : Word) : Shelters (enterCode sel d n off) :=
  .seq (.loadCs ..) (.frame fun _ => rfl)

protected theorem Shelters.sameLevel (call : Bool) (sel : Half) (d : Descriptor) (off : Word) (w : Nat) :
    Shelters (sameLevel call sel d off w) := by
  refine .get_bind fun s => .seq .check ?_
  cases call with
  | false => exact .seq (.checkOffset ..) (.enterCode ..)
  | true => exact .seq (.checkRoom ..) <| .seq (.checkOffset ..) <| .seq (.pushReturn ..) (.enterCode ..)

protected theorem Shelters.directCode (call : Bool) (sel : Half) (d : Descriptor) (off : Word) : Shelters (directCode call sel d off) :=
  .get_bind fun _ => .ite (.seq .check (.sameLevel ..)) (.seq .check (.sameLevel ..))

protected theorem Shelters.innerStack (n : BitVec 2) : Shelters (innerStack n) :=
  .get_bind fun _ => .seq .check <| .seq .check <| .bind (.linRead ..) fun _ => .bind (.linRead ..) fun _ =>
    .bind (.stackDescriptor (.raise ..) fun _ => .raise ..) fun _ => .pure _

protected theorem Shelters.pushAll (w : Nat) (items : List Word) : Shelters (pushAll w items) := by
  induction items with
  | nil => exact .pure _
  | cons v rest ih => exact .seq (.push ..) ih

protected theorem Shelters.copyParams (r : SegReg) (u : Bool) (sp : Word) (w k : Nat) : Shelters (copyParams r u sp w k) := by
  induction k with
  | zero => exact .pure _
  | succ k ih => exact .bind (.regKeys ..) fun _ => .get_bind fun _ => .seq (.push ..) ih

protected theorem Shelters.callInner (csel : Half) (c : Descriptor) (off : Word) (w k : Nat) : Shelters (callInner csel c off w k) :=
  .get_bind fun _ => .bind (.innerStack _) fun _ => .seq .check <| .seq (.checkOffset ..) <| .seq (.loadStack ..) <|
    .seq (.frame fun _ => rfl) <| .seq (.pushAll ..) <| .seq (.copyParams ..) <| .seq (.pushAll ..) (.enterCode ..)

protected theorem Shelters.throughGate (call : Bool) (gsel : Half) (g : Descriptor) : Shelters (throughGate call gsel g) := by
  refine .get_bind fun s => .seq .check <| .seq .check <| .seq .check <| .bind .descriptor fun c => .seq .check <| .seq .check ?_
  cases call with
  | false => exact .seq .check (.lockedIf (.sameLevel ..))
  | true => exact .seq .check (.ite (.lockedIf (.callInner ..)) (.lockedIf (.sameLevel ..)))

protected theorem Shelters.returnDescriptor (sel : Half) : Shelters (returnDescriptor sel) :=
  .get_bind fun _ => .seq .check <| .seq .check <| .bind .descriptor fun _ => .seq .check <| .seq .check <|
    .seq .check <| .seq .check (.pure _)

theorem State.outerStack_apart (s : State) (w : Nat) (v : Word) (n : BitVec 2) (t : Word) :
    (((s.setEspW w v).nullUnusable n).transfer t).apart = s.apart := by
  unfold State.setEspW
  split <;> exact rfl

protected theorem Shelters.returnOuter (sel : Half) (c : Descriptor) (newEip : Word) (w frame : Nat) (imm : Word) :
    Shelters (returnOuter sel c newEip w frame imm) :=
  .seq (.checkStackTop _) <| .bind (.stackRead ..) fun _ => .bind (.stackRead ..) fun _ =>
    .bind (.stackDescriptor (.raise ..) fun _ => .raise ..) fun _ => .seq (.checkOffset ..) <| .seq (.loadCs ..) <|
      .seq (.loadStack ..) (.frame fun s => s.outerStack_apart ..)

protected theorem Shelters.farReturn (imm : Word) : Shelters (farReturn imm) :=
  .get_bind fun _ => .seq (.checkStackTop _) <| .bind (.stackRead ..) fun _ => .bind (.stackRead ..) fun _ =>
    .bind (.returnDescriptor _) fun _ => .ite
      (.seq (.checkOffset ..) <| .seq (.loadCs ..) (.frame fun _ => by simp [State.apart, State.shelter]))
      (.seq (.lockedIf (.returnOuter ..)) (.frame fun _ => rfl))

protected theorem Shelters.farReturn8086 (imm : Word) : Shelters (farReturn8086 imm) :=
  .get_bind fun _ => .seq (.checkStackTop _) <| .bind (.stackRead ..) fun _ => .bind (.stackRead ..) fun _ =>
    .seq (.checkTarget _) (.frame fun _ => by simp [State.apart, State.shelter])

protected theorem Shelters.far8086 (call : Bool) (sel : Half) (off : Word) : Shelters (far8086 call sel off) := by
  refine .get_bind fun s => ?_
  cases call with
  | false => exact .seq (.checkTarget _) (.frame fun _ => rfl)
  | true => exact .seq (.checkRoom ..) <| .seq (.checkTarget _) <| .seq (.pushReturn ..) (.frame fun _ => rfl)

/-! The task switch. -/

protected theorem Shelters.writeItems (base : Word) (items : List (Nat × Nat × Word)) : Shelters (writeItems base items) := by
  induction items with
  | nil => exact .pure _
  | cons x rest ih => exact .seq (.linWrite ..) ih

protected theorem Shelters.readItems (base : Word) (nb : Nat) (offs : List Nat) : Shelters (readItems base nb offs) := by
  induction offs with
  | nil => exact .pure _
  | cons off rest ih => exact .bind (.linRead ..) fun _ => .bind ih fun _ => .pure _

protected theorem Shelters.switchLdt (sel : Half) : Shelters (switchLdt sel) :=
  .ite (.frame fun _ => rfl) <| .seq .check <| .bind .descriptor fun _ => .seq .check <| .seq .check (.frame fun _ => rfl)

protected theorem Shelters.switchCs (sel : Half) : Shelters (switchCs sel) :=
  .seq .check <| .bind .descriptor fun _ => .seq .check <| .seq .check <| .seq .check <| .seq .check (.loadCs ..)

protected theorem Shelters.switchSs (sel : Half) : Shelters (switchSs sel) :=
  .get_bind fun _ => .bind (.stackDescriptor (.raise ..) fun _ => .raise ..) fun _ => .loadStack ..

protected theorem Shelters.switchSegments : Shelters switchSegments :=
  .get_bind fun _ => .ite (.frame fun _ => rfl) <| .seq (.switchCs _) <| .seq (.switchSs _) <| .seq (.loadDataSeg fun _ => .raise ..) <|
    .seq (.loadDataSeg fun _ => .raise ..) <| .seq (.loadDataSeg fun _ => .raise ..) (.loadDataSeg fun _ => .raise ..)

protected theorem Shelters.switchCr3 (base : Word) : Shelters (switchCr3 base) :=
  .get_bind fun _ => .ite (.bind (.linRead ..) fun _ => .frame fun _ => rfl) (.pure _)

protected theorem Shelters.load386 (base : Word) (kind : SwitchKind) : Shelters (load386 base kind) :=
  .bind (.linRead ..) fun _ => .seq (.switchCr3 base) <| .bind (.linRead ..) fun _ => .bind (.linRead ..) fun _ =>
    .bind (.readItems ..) fun _ => .bind (.readItems ..) fun _ => .bind (.linRead ..) fun _ => .seq (.frame fun _ => rfl) (.pure _)

protected theorem Shelters.load286 (base : Word) (kind : SwitchKind) : Shelters (load286 base kind) :=
  .bind (.linRead ..) fun _ => .bind (.linRead ..) fun _ => .bind (.linRead ..) fun _ => .bind (.readItems ..) fun _ =>
    .bind (.readItems ..) fun _ => .seq (.frame fun _ => rfl) (.pure _)

protected theorem Shelters.enterTask (nsel : Half) (t : Descriptor) (kind : SwitchKind) : Shelters (enterTask nsel t kind) := by
  have rest (debug : Bool) : Shelters (do
      let s ← get
      switchLdt s.ldtr.sel
      switchSegments
      modify fun u => { u with pend := { u.pend with bt := u.pend.bt || debug } }
      let u ← get
      raiseIf (decide (u.cs.limit.toNat < u.eip.toNat)) raiseGP0) :=
    .get_bind fun _ => .seq (.switchLdt _) <| .seq .switchSegments <| .seq (.frame fun _ => rfl) (.get_bind fun _ => .check)
  exact .seq (.frame fun s => by simp [State.apart, State.shelter, BitVec.or_assoc]) (.ite (.bind (.load386 ..) rest) (.bind (.load286 ..) rest))

protected theorem Shelters.leaveTask (nsel : Half) (t : Descriptor) (kind : SwitchKind) (savedEip image : Word) :
    Shelters (leaveTask nsel t kind savedEip image) := by
  refine .get_bind fun s => .bind (.linRead ..) fun _ => .seq (.get_bind fun _ => .writeItems ..) ?_
  cases kind with
  | jmp => exact .seq (.writeAccessByte ..) (.writeAccessByte ..)
  | call | int => exact .seq (.linWrite ..) (.writeAccessByte ..)
  | iret => exact .seq (.writeAccessByte ..) (.pure _)

protected theorem Shelters.taskSwitch (nsel : Half) (t : Descriptor) (kind : SwitchKind) (savedEip image : Word) :
    Shelters (taskSwitch nsel t kind savedEip image) :=
  .seq .check <| .seq (.lockedIf (.leaveTask ..)) (.committed (.enterTask ..))

protected theorem Shelters.gateTask (tsel : Half) : Shelters (gateTask tsel) :=
  .seq .check <| .bind .descriptor fun _ => .seq .check <| .seq .check (.pure _)

protected theorem Shelters.farSwitch (call : Bool) (tsel : Half) (t : Descriptor) : Shelters (farSwitch call tsel t) :=
  .get_bind fun _ => .taskSwitch ..

protected theorem Shelters.toTss (call : Bool) (sel : Half) (t : Descriptor) : Shelters (toTss call sel t) :=
  .get_bind fun _ => .seq .check <| .seq .check <| .seq .check (.farSwitch ..)

protected theorem Shelters.throughTaskGate (call : Bool) (gsel : Half) (g : Descriptor) : Shelters (throughTaskGate call gsel g) :=
  .get_bind fun _ => .seq .check <| .seq .check <| .bind (.gateTask _) fun _ => .farSwitch ..

/-! Far CALL, JMP and RET, and IRET. -/

protected theorem Shelters.farTarget (call : Bool) (sel : Half) (off : Word) : Shelters (farTarget call sel off) := by
  refine .seq .check <| .bind .descriptor fun d => ?_
  split
  · exact .ite (.lockedIf (.directCode ..)) (.raise ..)
  · exact .toTss ..
  · exact .throughGate ..
  · exact .throughTaskGate ..
  · exact .toTss ..
  · exact .throughGate ..
  · exact .raise ..

protected theorem Shelters.farTransfer (call : Bool) (sel : Half) (off : Word) : Shelters (farTransfer call sel off) :=
  .get_bind fun _ => .ite (.farTarget ..) (.far8086 ..)

protected theorem Shelters.farPointer (x : MemRef) : Shelters (farPointer x) :=
  .get_bind fun _ => .bind (.memRead ..) fun _ => .bind (.memRead ..) fun _ => .pure _

protected theorem Shelters.farIndirect (call : Bool) (m : RM) : Shelters (farIndirect call m) :=
  .bind (.memOperand m) fun x => .bind (.farPointer x) fun _ => .farTransfer ..

protected theorem Shelters.farRet (imm : Word) : Shelters (farRet imm) :=
  .get_bind fun _ => .ite (.farReturn imm) (.farReturn8086 imm)

protected theorem Shelters.iret8086 : Shelters iret8086 :=
  .get_bind fun _ => .seq (.checkStackTop _) <| .bind (.stackRead ..) fun _ => .bind (.stackRead ..) fun _ =>
    .bind (.stackRead ..) fun _ => .seq (.checkTarget _) (.frame fun _ => by simp [State.apart, State.shelter])

protected theorem Shelters.iretTask : Shelters iretTask :=
  .get_bind fun _ => .bind (.linRead ..) fun _ => .seq .check <| .bind .descriptor fun _ => .seq .check <| .seq .check (.taskSwitch ..)

protected theorem Shelters.iretV86 (newEip csImage image : Word) : Shelters (iretV86 newEip csImage image) :=
  .seq (.checkStackTop _) <| .bind (.stackRead ..) fun _ => .bind (.stackRead ..) fun _ => .bind (.stackRead ..) fun _ =>
    .bind (.stackRead ..) fun _ => .bind (.stackRead ..) fun _ => .bind (.stackRead ..) fun _ => .frame fun _ => rfl

protected theorem Shelters.iretCode (newEip csImage image : Word) (w : Nat) : Shelters (iretCode newEip csImage image w) :=
  .get_bind fun _ => .bind (.returnDescriptor _) fun _ => .ite
    (.seq (.checkOffset ..) <| .seq (.loadCs ..) <| .seq (.frame fun _ => by simp [State.apart, State.shelter]) (.frame fun _ => rfl))
    (.seq (.lockedIf (.returnOuter ..)) (.frame fun _ => rfl))

protected theorem Shelters.iretProt : Shelters iretProt :=
  .get_bind fun _ => .seq (.checkStackTop _) <| .bind (.stackRead ..) fun _ => .bind (.stackRead ..) fun _ =>
    .bind (.stackRead ..) fun _ => .ite (.iretV86 ..) (.iretCode ..)

protected theorem Shelters.iretBody : Shelters iretBody :=
  .get_bind fun _ => .seq .requireV86Iopl <| .ite (.seq .iret8086 (.frame fun _ => rfl)) <|
    .ite (.seq .iretTask (.frame fun _ => rfl)) (.seq .iretProt (.frame fun _ => rfl))

/-! Entries to handlers. -/

protected theorem Shelters.enterHandler (csel : Half) (c : Descriptor) (n : BitVec 2) (off : Word) (ig : Bool) :
    Shelters (enterHandler csel c n off ig) := .seq (.loadCs ..) (.frame fun _ => rfl)

protected theorem Shelters.sameEntry (e : Event) (savedEip : Word) (g c : Descriptor) (w : Nat) : Shelters (sameEntry e savedEip g c w) :=
  .get_bind fun _ => .seq (.checkRoom ..) <| .seq (.checkOffset ..) <| .seq (.pushAll ..) (.enterHandler ..)

protected theorem Shelters.innerEntry (e : Event) (savedEip : Word) (g c : Descriptor) (w : Nat) : Shelters (innerEntry e savedEip g c w) :=
  .get_bind fun _ => .bind (.innerStack _) fun _ => .seq .check <| .seq (.checkOffset ..) <| .seq (.loadStack ..) <|
    .seq (.frame fun _ => rfl) <| .seq (.pushAll ..) (.enterHandler ..)

protected theorem Shelters.v86Entry (e : Event) (savedEip : Word) (g c : Descriptor) : Shelters (v86Entry e savedEip g c) := by
  refine .get_bind fun s => .seq .check ?_
  cases g.isGate386 with
  | false => exact .refuse_bind _ _
  | true =>
    exact .bind (.innerStack _) fun _ => .seq .check <| .seq (.checkOffset ..) <| .seq (.frame fun _ => rfl) <| .seq (.loadStack ..) <|
      .seq (.frame fun _ => rfl) <| .seq (.pushAll ..) <| .seq (.frame fun _ => rfl) <| .seq (.pushAll ..) (.enterHandler ..)

protected theorem Shelters.taskEntry (e : Event) (savedEip : Word) (g : Descriptor) : Shelters (taskEntry e savedEip g) :=
  .get_bind fun _ => .bind (.gateTask _) fun _ => .seq (.taskSwitch ..) (.committed (.seq (.checkRoom ..) (.pushAll ..)))

protected theorem Shelters.gateEntry (e : Event) (savedEip : Word) (g : Descriptor) : Shelters (gateEntry e savedEip g) :=
  .get_bind fun _ => .seq .check <| .bind .descriptor fun _ => .seq .check <| .seq .check <| .seq .check <|
    .lockedIf <| .ite (.v86Entry ..) (.ite (.innerEntry ..) (.sameEntry ..))

protected theorem Shelters.protEntry (e : Event) (savedEip : Word) : Shelters (protEntry e savedEip) :=
  .get_bind fun _ => .seq .check <| .bind (.linDescriptor _) fun _ => .seq .check <| .seq .check <| .seq .check <|
    .ite (.taskEntry ..) (.gateEntry ..)

protected theorem Shelters.realEntry (e : Event) (savedEip : Word) : Shelters (realEntry e savedEip) :=
  .get_bind fun _ => .seq .check <| .bind (.linRead ..) fun _ => .bind (.linRead ..) fun _ => .seq (.checkRoom ..) <| .seq (.push ..) <|
    .seq (.push ..) <| .seq (.push ..) (.frame fun _ => rfl)

protected theorem Shelters.entry (e : Event) (savedEip : Word) : Shelters (entry e savedEip) :=
  .get_bind fun _ => .ite (.protEntry ..) (.realEntry ..)

/-! Arithmetic, logic, shifts and bits. -/

protected theorem Shelters.readOnly (w : Width) (m : RM) (k : BitVec w.bits → Flags → Flags) : Shelters (readOnly w m k) :=
  .bind (.readRM w m) fun _ => .finish (.frame fun _ => rfl)

protected theorem Shelters.aluTo (op : AluOp) (w : Width) (m : RM) (b : BitVec w.bits) : Shelters (aluTo op w m b) :=
  .get_bind fun _ => .finish (.updateRM ..)

protected theorem Shelters.readWrite (w : Width) (m : RM) (k : BitVec w.bits → Flags → BitVec w.bits × Flags) :
    Shelters (readWrite w m k) := .finish (.updateRM w m k)

protected theorem Shelters.aluFrom (op : AluOp) (w : Width) (m : RM) (r : Reg) : Shelters (aluFrom op w m r) :=
  .get_bind fun _ => .bind (.readRM w m) fun _ => .finish (.frame fun _ => rfl)

protected theorem Shelters.testBody (w : Width) (m : RM) (b : BitVec w.bits) : Shelters (testBody w m b) :=
  .get_bind fun _ => .readOnly ..

protected theorem Shelters.probeRM (w : Width) (m : RM) : Shelters (probeRM w m) := by
  cases m with
  | reg r => exact .pure _
  | mem x => exact .get_bind fun _ => .bind (.probeKeys ..) fun _ => .pure _

protected theorem Shelters.shiftBody (w : Width) (m : RM) (c : Nat) (k : BitVec w.bits → Flags → BitVec w.bits × Flags) :
    Shelters (shiftBody w m c k) := .ite (.finish (.probeRM w m)) (.finish (.updateRM ..))

protected theorem Shelters.asciiAdjust (k : Half → Bool → Half) : Shelters (asciiAdjust k) := .finish (.frame fun _ => rfl)

protected theorem Shelters.decimalAdjust (k : Byte → Flags → Byte × Bool) : Shelters (decimalAdjust k) := .finish (.frame fun _ => rfl)

protected theorem Shelters.multiplyAcc (w : Width) (m : RM) (lo hi : BitVec w.bits → BitVec w.bits → BitVec w.bits)
    (significant : BitVec w.bits → BitVec w.bits → Bool) : Shelters (multiplyAcc w m lo hi significant) :=
  .bind (.readRM w m) fun _ => .finish (.frame fun _ => rfl)

protected theorem Shelters.imulTo (w : Width) (m : RM) (r : Reg) (other : State → BitVec w.bits) : Shelters (imulTo w m r other) :=
  .bind (.readRM w m) fun _ => .finish (.frame fun _ => rfl)

protected theorem Shelters.divideAcc (w : Width) (m : RM) (k : State → BitVec w.bits → Option (BitVec w.bits × BitVec w.bits)) :
    Shelters (divideAcc w m k) :=
  .bind (.readRM w m) fun d => .get_bind fun s => by
    cases k s d with
    | none => exact .raise ..
    | some x => exact .finish (.frame fun _ => rfl)

protected theorem Shelters.aadBody (base : Byte) : Shelters (aadBody base) := .finish (.frame fun _ => rfl)

protected theorem Shelters.aamBody (base : Byte) : Shelters (aamBody base) := .seq .check (.finish (.frame fun _ => rfl))

theorem State.convertLow_apart (s : State) : s.convertLow.apart = s.apart := by
  unfold State.convertLow
  split <;> exact rfl

protected theorem Shelters.scanBits (w : Width) (m : RM) (r : Reg) (find : BitVec w.bits → Option Nat) : Shelters (scanBits w m r find) :=
  .bind (.readRM w m) fun _ => .finish (.frame fun _ => rfl)

protected theorem Shelters.bitAt (op : BitOp) (w : Width) (g : Seg) (off : Word) (i : Nat) : Shelters (bitAt op w g off i) :=
  .bind (.memKeys ..) fun _ => .modify fun s => by
    dsimp only
    split
    · exact .of_apart rfl
    · exact .after_between (s.between.writeKeys_apart ..)

protected theorem Shelters.bitImm (op : BitOp) (w : Width) (m : RM) (imm : Byte) : Shelters (bitImm op w m imm) :=
  .get_bind fun _ => by
    cases m with
    | reg q => exact .finish (.frame fun _ => rfl)
    | mem x => exact .finish (.bitAt ..)

protected theorem Shelters.bitReg (op : BitOp) (w : Width) (m : RM) (r : Reg) : Shelters (bitReg op w m r) :=
  .get_bind fun _ => by
    cases m with
    | reg q => exact .finish (.frame fun _ => rfl)
    | mem x => exact .finish (.bitAt ..)

/-! Data transfer. -/

protected theorem Shelters.storeReg (w : Bool) (m : RM) (r : Reg) : Shelters (storeReg w m r) := .get_bind fun _ => .finish (.writeRM ..)

protected theorem Shelters.loadReg (w : Bool) (m : RM) (r : Reg) : Shelters (loadReg w m r) :=
  .get_bind fun _ => .bind (.readRM ..) fun _ => .finish (.frame fun _ => rfl)

protected theorem Shelters.storeImm (w : Bool) (m : RM) (imm : Word) : Shelters (storeImm w m imm) :=
  .get_bind fun _ => .finish (.writeRM ..)

protected theorem Shelters.loadAcc (w : Bool) (off : Word) : Shelters (loadAcc w off) :=
  .get_bind fun _ => .bind (.memRead ..) fun _ => .finish (.frame fun _ => rfl)

protected theorem Shelters.storeAcc (w : Bool) (off : Word) : Shelters (storeAcc w off) := .get_bind fun _ => .finish (.memWrite ..)

protected theorem Shelters.moveToSeg (m : RM) (g : Seg) : Shelters (moveToSeg m g) :=
  .seq .check <| .bind (.readRM ..) fun _ => .seq (.loadSeg ..) (.finish (.frame fun _ => rfl))

protected theorem Shelters.storeHalf (m : RM) (v : Half) : Shelters (storeHalf m v) :=
  .get_bind fun s => by
    cases m with
    | reg r => exact .frame fun _ => by cases s.osz32 <;> exact rfl
    | mem x => exact .memWrite ..

protected theorem Shelters.moveFromSeg (m : RM) (g : Seg) : Shelters (moveFromSeg m g) := .get_bind fun _ => .finish (.storeHalf ..)

protected theorem Shelters.extendReg (signed w : Bool) (m : RM) (r : Reg) : Shelters (extendReg signed w m r) :=
  .get_bind fun _ => .bind (.readRM ..) fun _ => .finish (.frame fun _ => rfl)

protected theorem Shelters.pushValue (v : Word) : Shelters (pushValue v) := .get_bind fun _ => .finish (.push ..)

protected theorem Shelters.pushOperand (m : RM) : Shelters (pushOperand m) :=
  .get_bind fun _ => .bind (.readRM ..) fun _ => .pushValue _

protected theorem Shelters.pushSelector (g : Seg) : Shelters (pushSelector g) := .get_bind fun _ => .pushValue _

protected theorem Shelters.pushImmediate (signed8 : Bool) (imm : Word) : Shelters (pushImmediate signed8 imm) :=
  .get_bind fun _ => .pushValue _

protected theorem Shelters.pushAllRegs : Shelters pushAllRegs := .get_bind fun _ => .finish (.pushAll ..)

protected theorem Shelters.popOperand (m : RM) : Shelters (popOperand m) :=
  .get_bind fun _ => .bind (.stackRead ..) fun _ => .seq (.frame fun s => s.setSp_apart _) (.finish (.writeRM ..))

protected theorem Shelters.popSelector (g : Seg) : Shelters (popSelector g) :=
  .get_bind fun _ => .bind (.stackRead ..) fun _ => .seq (.loadSeg ..) <| .finish (.frame fun _ => by simp [State.apart, State.shelter])

protected theorem Shelters.stackItems (w i k : Nat) : Shelters (stackItems w i k) := by
  induction k generalizing i with
  | zero => exact .pure _
  | succ k ih => exact .bind (.stackRead ..) fun _ => .bind (ih _) fun _ => .pure _

protected theorem Shelters.popAll : Shelters popAll :=
  .get_bind fun _ => .bind (.stackItems ..) fun _ => .finish (.frame fun _ => by simp [State.apart, State.shelter, State.popAllRegs])

protected theorem Shelters.exchange (w : Width) (m : RM) (r : Reg) : Shelters (exchange w m r) :=
  .get_bind fun _ => by
    cases m with
    | reg q => exact .finish (.frame fun _ => rfl)
    | mem x => exact .bind (.memKeys ..) fun _ => .finish (.frame fun s => s.writeKeys_apart ..)

protected theorem Shelters.inPort (w : Bool) (port : Half) : Shelters (inPort w port) :=
  .get_bind fun _ => .seq (.ioPermitted ..) <| .bind (.portRead ..) fun _ => .finish (.frame fun _ => rfl)

protected theorem Shelters.outPort (w : Bool) (port : Half) : Shelters (outPort w port) :=
  .get_bind fun _ => .seq (.ioPermitted ..) <| .finish (.portWrite ..)

protected theorem Shelters.leaBody (m : RM) (r : Reg) : Shelters (leaBody m r) := .bind (.memOperand m) fun _ => .finish (.frame fun _ => rfl)

protected theorem Shelters.loadFarPtr (g : Seg) (m : RM) (r : Reg) : Shelters (loadFarPtr g m r) :=
  .bind (.memOperand m) fun x => .bind (.farPointer x) fun _ => .seq (.loadSeg ..) <| .finish (.frame fun _ => rfl)

/-! Near transfers, loops, SETcc, ENTER, LEAVE, BOUND. -/

protected theorem Shelters.nearCall (t : Word) : Shelters (nearCall t) :=
  .get_bind fun _ => .seq (.checkRoom ..) <| .seq (.checkTarget t) <| .seq (.push ..) (.nearJump t)

protected theorem Shelters.indirect {m : RM} {k : Word → M Unit} (hk : ∀ t, Shelters (k t)) : Shelters (indirect m k) :=
  .get_bind fun _ => .bind (.readRM ..) fun _ => hk _

protected theorem Shelters.nearRet (imm : Word) : Shelters (nearRet imm) :=
  .get_bind fun _ => .seq (.checkStackTop _) <| .bind (.stackRead ..) fun _ => .seq (.checkTarget _)
    (.frame fun _ => by simp [State.apart, State.shelter])

protected theorem Shelters.jumpIf (c : Bool) (t : Word) : Shelters (jumpIf c t) := .ite (.nearJump t) .advance

protected theorem Shelters.loopBody (c : Bool) (t : Word) : Shelters (loopBody c t) :=
  .get_bind fun _ => .seq (.frame fun s => s.setAddrReg_apart ..) (.jumpIf ..)

protected theorem Shelters.setByte (m : RM) (c : Bool) : Shelters (setByte m c) := .finish (.writeRM ..)

protected theorem Shelters.copyDisplay (w k : Nat) (bp : Word) : Shelters (copyDisplay w k bp) := by
  induction k generalizing bp with
  | zero => exact .pure _
  | succ k ih => exact .get_bind fun _ => .bind (.memRead ..) fun _ => .seq (.push ..) (ih _)

theorem State.frameSet_apart (s : State) (w : Width) (r : Reg) (v : BitVec w.bits) (sp : Word) :
    ((s.setReg w r v).setSp sp).apart = s.apart := by simp [State.apart, State.shelter]

protected theorem Shelters.enterBody (size : Half) (level : Byte) : Shelters (enterBody size level) :=
  .get_bind fun _ => .seq (.push ..) <| .get_bind fun _ => .ite (.finish (.frame fun s => s.frameSet_apart ..)) <|
    .seq (.copyDisplay ..) <| .seq (.push ..) <| .finish (.frame fun s => s.frameSet_apart ..)

protected theorem Shelters.leaveBody : Shelters leaveBody :=
  .get_bind fun _ => .bind (.memRead ..) fun _ => .finish (.frame fun _ => by simp [State.apart, State.shelter])

protected theorem Shelters.boundBody (m : RM) (r : Reg) : Shelters (boundBody m r) :=
  .bind (.memOperand m) fun _ => .get_bind fun _ => .bind (.memRead ..) fun _ => .bind (.memRead ..) fun _ => .finish .check

/-! Flag control. -/

protected theorem Shelters.setFlags (k : Flags → Flags) : Shelters (setFlags k) := .finish (.frame fun _ => rfl)

protected theorem Shelters.clearInterrupt : Shelters clearInterrupt := .seq .requireIopl (.setFlags _)

protected theorem Shelters.setInterrupt : Shelters setInterrupt := .seq .requireIopl <| .seq (.frame fun _ => rfl) (.setFlags _)

protected theorem Shelters.flagsToAh : Shelters flagsToAh := .finish (.frame fun _ => rfl)

protected theorem Shelters.ahToFlags : Shelters ahToFlags := .finish (.frame fun _ => rfl)

protected theorem Shelters.popFlags : Shelters popFlags :=
  .get_bind fun _ => .seq .requireV86Iopl <| .bind (.stackRead ..) fun _ => .frame fun _ => by simp [State.apart, State.shelter]

protected theorem Shelters.pushFlags : Shelters pushFlags := .get_bind fun _ => .seq .requireV86Iopl <| .finish (.push ..)

/-! String instructions. -/

theorem State.stepIndex_apart (s : State) (r : Reg) (w : Width) : (s.stepIndex r w).apart = s.apart := s.setAddrReg_apart ..

theorem State.stepBoth_apart (s : State) (w : Width) : ((s.stepIndex .esi w).stepIndex .edi w).apart = s.apart :=
  (State.stepIndex_apart ..).trans (State.stepIndex_apart ..)

protected theorem Shelters.readSource (w : Width) : Shelters (readSource w) := .get_bind fun _ => .bind (.memRead ..) fun _ => .pure _

protected theorem Shelters.readDest (w : Width) : Shelters (readDest w) := .get_bind fun _ => .bind (.memRead ..) fun _ => .pure _

protected theorem Shelters.writeDest (w : Width) (v : BitVec w.bits) : Shelters (writeDest w v) := .get_bind fun _ => .memWrite ..

protected theorem Shelters.cmpsElement (w : Width) : Shelters (cmpsElement w) :=
  .bind (.readSource w) fun _ => .bind (.readDest w) fun _ => .frame fun _ => by simp [State.apart, State.shelter, State.stepIndex]

protected theorem Shelters.scasElement (w : Width) : Shelters (scasElement w) :=
  .bind (.readDest w) fun _ => .frame fun _ => by simp [State.apart, State.shelter, State.stepIndex]

protected theorem Shelters.insElement (w : Width) : Shelters (insElement w) :=
  .get_bind fun _ => .seq (.ioPermitted ..) <| .bind (.memKeys ..) fun _ => .bind (.portRead ..) fun _ =>
    .frame fun _ => by simp [State.apart, State.shelter, State.stepIndex]

protected theorem Shelters.lodsElement (w : Width) : Shelters (lodsElement w) :=
  .bind (.readSource w) fun _ => .frame fun _ => by simp [State.apart, State.shelter, State.stepIndex]

protected theorem Shelters.movsElement (w : Width) : Shelters (movsElement w) :=
  .bind (.readSource w) fun _ => .seq (.writeDest ..) (.frame fun s => s.stepBoth_apart w)

protected theorem Shelters.outsElement (w : Width) : Shelters (outsElement w) :=
  .get_bind fun _ => .seq (.ioPermitted ..) <| .bind (.readSource w) fun _ => .seq (.portWrite ..) (.frame fun s => s.stepIndex_apart ..)

protected theorem Shelters.stosElement (w : Width) : Shelters (stosElement w) :=
  .get_bind fun _ => .seq (.writeDest ..) (.frame fun s => s.stepIndex_apart ..)

protected theorem Shelters.repStep {stop : Flags → Bool} {element : M Unit} (h : Shelters element) : Shelters (repStep stop element) :=
  .get_bind fun _ => .ite .advance <| .seq h <| .seq (.frame fun s => s.setAddrReg_apart ..) <|
    .get_bind fun _ => .ite .advance (.frame fun _ => rfl)

protected theorem Shelters.xlatBody : Shelters xlatBody := .get_bind fun _ => .bind (.memRead ..) fun _ => .finish (.frame fun _ => rfl)

/-! Protection control. -/

theorem State.Sheltered.adjustKeys (s : State) (keys : List Nat) (la : Word) (src : Half) : s.Sheltered (s.adjustKeys keys la src) := by
  unfold State.adjustKeys State.setZf
  dsimp only
  split
  · exact .after_between (State.writeKeys_apart ..)
  · exact .of_apart rfl

protected theorem Shelters.arplBody (m : RM) (r : Reg) : Shelters (arplBody m r) :=
  .seq .requireProt <| .get_bind fun _ => by
    cases m with
    | reg q => exact .finish (.frame fun _ => rfl)
    | mem x => exact .bind (.probeKeys ..) fun _ => .finish (.modify fun s => .adjustKeys s ..)

protected theorem Shelters.testDescriptor (sel : Half) : Shelters (testDescriptor sel) := .ite (.pure _) (.readDescriptor sel)

protected theorem Shelters.loadTested (m : RM) (r : Reg) (types : List Nat) (value : Descriptor → Word) :
    Shelters (loadTested m r types value) :=
  .seq .requireProt <| .bind (.readRM ..) fun _ => .bind (.testDescriptor _) fun x => .finish <| .frame fun s => by
    cases x with
    | none => exact rfl
    | some d => dsimp only; split <;> exact rfl

protected theorem Shelters.verify (m : RM) (k : State → Half → Descriptor → Bool) : Shelters (verify m k) :=
  .seq .requireProt <| .bind (.readRM ..) fun _ => .bind (.testDescriptor _) fun _ => .finish (.frame fun _ => rfl)

protected theorem Shelters.storeTable (m : RM) (k : State → TableReg) : Shelters (storeTable m k) :=
  .bind (.memOperand m) fun _ => .get_bind fun _ => .bind (.memKeys ..) fun _ => .bind (.memKeys ..) fun _ =>
    .finish (.frame fun _ => by simp [State.apart, State.shelter])

protected theorem Shelters.lldtBody (m : RM) : Shelters (lldtBody m) :=
  .seq .requireProt <| .seq .requireCpl0 <| .bind (.readRM ..) fun _ => .ite (.finish (.frame fun _ => rfl)) <|
    .seq .check <| .bind .descriptor fun _ => .seq .check <| .seq .check (.finish (.frame fun _ => rfl))

protected theorem Shelters.ltrBody (m : RM) : Shelters (ltrBody m) :=
  .seq .requireProt <| .seq .requireCpl0 <| .bind (.readRM ..) fun _ => .seq .check <| .seq .check <|
    .bind .descriptor fun _ => .seq .check <| .seq .check <| .seq (.writeAccessByte ..) (.finish (.frame fun _ => rfl))

protected theorem Shelters.storeSystem (m : RM) (k : State → Half) : Shelters (storeSystem m k) :=
  .get_bind fun _ => .finish (.storeHalf ..)

protected theorem Shelters.storeSelector (m : RM) (k : State → SegReg) : Shelters (storeSelector m k) :=
  .seq .requireProt (.storeSystem ..)

/-! Processor control, WAIT and ESC. -/

protected theorem Shelters.afterBusy {k : M Unit} (hk : Shelters k) : Shelters (afterBusy k) :=
  .get_bind fun _ => .ite (.frame fun _ => rfl) (.seq .check hk)

protected theorem Shelters.waitBody : Shelters waitBody := .get_bind fun _ => .seq .check (.afterBusy .advance)

protected theorem Shelters.escOperand (ttt lll : BitVec 3) (m : RM) : Shelters (escOperand ttt lll m) := by
  cases m with
  | reg r => exact .frame fun _ => rfl
  | mem x => exact .get_bind fun _ => .seq (.checkReg ..) <| .bind (.linKeys ..) fun _ => .frame fun _ => rfl

protected theorem Shelters.escHandOver (ttt lll : BitVec 3) (m : RM) : Shelters (escHandOver ttt lll m) :=
  .seq (.escOperand ..) <| .seq .busTurn <| .seq (.frame fun _ => rfl) <| .ite (.finish (.seq .busTurn (.frame fun _ => rfl))) .advance

protected theorem Shelters.escBody (ttt lll : BitVec 3) (m : RM) : Shelters (escBody ttt lll m) :=
  have go : Shelters (if escNoWait ttt lll m then escHandOver ttt lll m else afterBusy (escHandOver ttt lll m)) :=
    .ite (.escHandOver ..) (.afterBusy (.escHandOver ..))
  .get_bind fun _ => .seq .check <| .ite (.refuse_bind _ _) go

/-! Outcomes, from a state on whose bus no RESET is to come. -/

/-- What is sheltered is as before in the state that the outcome leads to, if any. -/
def State.Shields (s : State) (r : Result) : Prop := ∀ t, r = .next t → s.Sheltered t

theorem State.Shields.next {s t : State} (h : s.Sheltered t) : s.Shields (.next t) := fun _ k => by cases k; exact h

theorem State.Shields.refused {s : State} (r : Refusal) : s.Shields (.refused r) := fun _ k => nomatch k

theorem State.Shields.deliverWith (n : Nat) (e : Event) (savedEip : Word) {s t : State} (hs : s.unstopped) (ht : s.Sheltered t) :
    s.Shields (deliverWith n e savedEip t) := by
  induction n generalizing e savedEip t with
  | zero => exact .next (ht.trans (.of_apart rfl))
  | succ n ih =>
    have entry := Shelters.entry e savedEip
    unfold Machine.deliverWith
    split <;> rename_i u hx
    · exact .next ((ht.trans (entry.ok hx)).trans (.of_apart rfl))
    · exact .refused _
    · exact absurd (ht.unstopped hs) (entry.stops t _ u hx)
    · rename_i x keep
      have hu := entry.error hx
      have base : t.Sheltered (if keep then u else t.rollback u) := by
        cases keep with
        | true => exact hu
        | false => exact hu.rollback
      dsimp only
      split
      · exact .next ((ht.trans base).trans (.of_apart rfl))
      · exact ih _ _ (ht.trans base)

theorem State.Shields.deliver (e : Event) (savedEip : Word) {s t : State} (hs : s.unstopped) (ht : s.Sheltered t) :
    s.Shields (deliver e savedEip t) := .deliverWith 5 e savedEip hs ht

/-- A computation that stops short, as the meaning of an instruction. -/
theorem Shelters.stopped {α : Type} {x : M α} (h : Shelters x) {s t : State} (hs : s.unstopped) {e : Stop} (hx : x s = .error e t) :
    s.Shields (stopped s t e) := by
  have ht := h.error hx
  cases e with
  | exc x keep =>
    cases keep with
    | true => exact .deliver _ _ hs ht
    | false => exact .deliver _ _ hs ht.rollback
  | refuse r => exact .refused r
  | bus b => exact absurd hs (h.stops s b t hx)

theorem Shelters.perform {body : M Unit} (h : Shelters body) {s : State} (hs : s.unstopped) : s.Shields (perform body s) := by
  unfold Machine.perform
  split <;> rename_i hx
  · exact .next ((h.ok hx).trans (.of_apart rfl))
  · exact h.stopped hs hx

protected theorem Shelters.noLock : Shelters noLock := .get_bind fun _ => .check

theorem Shelters.instr {body : M Unit} (h : Shelters body) {s : State} (hs : s.unstopped) : s.Shields (instr body s) :=
  (Shelters.noLock.seqRight h).perform hs

theorem Shelters.lockable {body : M Unit} (h : Shelters body) (m : RM) {s : State} (hs : s.unstopped) : s.Shields (lockable m body s) := by
  cases m with
  | reg r => exact h.instr hs
  | mem x => exact ((Shelters.pure ()).seqRight h).perform hs

theorem State.Shields.aluRmReg (op : AluOp) (d w : Bool) (m : RM) (r : Reg) {s : State} (hs : s.unstopped) :
    s.Shields (aluRmReg op d w m r s) := by
  cases d with
  | true => exact (Shelters.aluFrom ..).instr hs
  | false => exact (Shelters.aluTo ..).lockable m hs

theorem State.Shields.interruptAfter {pre : M Unit} (h : Shelters pre) (vec : Byte) {s : State} (hs : s.unstopped) :
    s.Shields (interruptAfter pre vec s) := by
  have check := Shelters.noLock.seqRight h
  unfold Machine.interruptAfter
  split <;> rename_i hx
  · exact .deliver _ _ hs (check.ok hx)
  · exact check.stopped hs hx

/-- An instruction that the level does not allow raises `#GP(0)` or `#UD`, whatever its prefixes. -/
theorem State.Shields.privileged {i : Instr} {body : M Unit} {s : State} (hi : exec i s = Machine.instr body s) (hs : s.unstopped)
    (h : ∃ x, body s = .error (.exc x false) s) : s.Shields (exec i s) := by
  obtain ⟨x, hx⟩ := h
  rw [hi]
  cases hl : s.pfx.lock with
  | true =>
    rw [instr_of_lock hl]
    exact .deliver _ _ hs (.refl s)
  | false =>
    rw [instr_exc hl hx]
    exact .deliver _ _ hs (.refl s)

/-- Every instruction, below CPL 0, shields what is sheltered. -/
theorem State.Shields.exec (i : Instr) {s : State} (hs : s.unstopped) (hu : s.unprivileged) : s.Shields (exec i s) := by
  cases i
  case pfxAddrSize | pfxLock | pfxOpSize | pfxCs | pfxDs | pfxEs | pfxFs | pfxGs | pfxSs | pfxRep | pfxRepne =>
    exact .next (.of_apart rfl)
  case movRmReg => exact (Shelters.storeReg ..).instr hs
  case movRegRm => exact (Shelters.loadReg ..).instr hs
  case movRmImm | movRegImm => exact (Shelters.storeImm ..).instr hs
  case movAccMem => exact (Shelters.loadAcc ..).instr hs
  case movMemAcc => exact (Shelters.storeAcc ..).instr hs
  case movSegRm => exact (Shelters.moveToSeg ..).instr hs
  case movRmSeg => exact (Shelters.moveFromSeg ..).instr hs
  case movsx | movzx => exact (Shelters.extendReg ..).instr hs
  case pushRm | pushReg => exact (Shelters.pushOperand _).instr hs
  case pushSeg | pushFs | pushGs => exact (Shelters.pushSelector _).instr hs
  case pushImm => exact (Shelters.pushImmediate ..).instr hs
  case pusha => exact Shelters.pushAllRegs.instr hs
  case popRm | popReg => exact (Shelters.popOperand _).instr hs
  case popEs | popSs | popDs | popFs | popGs => exact (Shelters.popSelector _).instr hs
  case popa => exact Shelters.popAll.instr hs
  case xchgRmReg m _ => exact (Shelters.exchange ..).lockable m hs
  case xchgAccReg => exact (Shelters.exchange ..).instr hs
  case inImm | inDx => exact (Shelters.inPort ..).instr hs
  case outImm | outDx => exact (Shelters.outPort ..).instr hs
  case lea => exact (Shelters.leaBody ..).instr hs
  case lds | les | lfs | lgs | lss => exact (Shelters.loadFarPtr ..).instr hs
  case addRmReg | adcRmReg | subRmReg | sbbRmReg | andRmReg | orRmReg | xorRmReg => exact .aluRmReg _ _ _ _ _ hs
  case addRmImm m _ | adcRmImm m _ | subRmImm m _ | sbbRmImm m _ | andRmImm m _ | orRmImm m _ | xorRmImm m _ =>
    exact (Shelters.aluTo ..).lockable m hs
  case addAccImm | adcAccImm | subAccImm | sbbAccImm | andAccImm | orAccImm | xorAccImm => exact (Shelters.aluTo ..).instr hs
  case cmpRmReg | cmpRmImm | cmpAccImm => exact (Shelters.readOnly ..).instr hs
  case testRmReg | testRmImm | testAccImm => exact (Shelters.testBody ..).instr hs
  case incRm m | decRm m | negRm m | notRm m => exact (Shelters.readWrite ..).lockable m hs
  case incReg | decReg => exact (Shelters.readWrite ..).instr hs
  case aaa | aas => exact (Shelters.asciiAdjust _).instr hs
  case daa | das => exact (Shelters.decimalAdjust _).instr hs
  case mulRm | imulAcc => exact (Shelters.multiplyAcc ..).instr hs
  case imulReg | imulImm => exact (Shelters.imulTo ..).instr hs
  case divRm | idivRm => exact (Shelters.divideAcc ..).instr hs
  case aad => exact (Shelters.aadBody _).instr hs
  case aam => exact (Shelters.aamBody _).instr hs
  case cbw => exact (Shelters.change State.convertLow_apart).instr hs
  case cwd => exact (Shelters.change (k := State.convertHigh) fun _ => rfl).instr hs
  case rolOne | rolCl | rolImm | rorOne | rorCl | rorImm | rclOne | rclCl | rclImm | rcrOne | rcrCl | rcrImm | shlOne | shlCl | shlImm |
      shrOne | shrCl | shrImm | sarOne | sarCl | sarImm | shldImm | shldCl | shrdImm | shrdCl => exact (Shelters.shiftBody ..).instr hs
  case bsf | bsr => exact (Shelters.scanBits ..).instr hs
  case btRmImm => exact (Shelters.bitImm ..).instr hs
  case btRmReg => exact (Shelters.bitReg ..).instr hs
  case btcRmImm m _ | btrRmImm m _ | btsRmImm m _ => exact (Shelters.bitImm ..).lockable m hs
  case btcRmReg m _ | btrRmReg m _ | btsRmReg m _ => exact (Shelters.bitReg ..).lockable m hs
  case cmps => exact (Shelters.cmpsElement _).finish.instr hs
  case ins => exact (Shelters.insElement _).finish.instr hs
  case lods => exact (Shelters.lodsElement _).finish.instr hs
  case movs => exact (Shelters.movsElement _).finish.instr hs
  case outs => exact (Shelters.outsElement _).finish.instr hs
  case scas => exact (Shelters.scasElement _).finish.instr hs
  case stos => exact (Shelters.stosElement _).finish.instr hs
  case repeCmps | repneCmps => exact (Shelters.cmpsElement _).repStep.instr hs
  case repIns => exact (Shelters.insElement _).repStep.instr hs
  case repLods => exact (Shelters.lodsElement _).repStep.instr hs
  case repMovs => exact (Shelters.movsElement _).repStep.instr hs
  case repOuts => exact (Shelters.outsElement _).repStep.instr hs
  case repeScas | repneScas => exact (Shelters.scasElement _).repStep.instr hs
  case repStos => exact (Shelters.stosElement _).repStep.instr hs
  case xlat => exact Shelters.xlatBody.instr hs
  case callRel => exact (Shelters.nearCall _).instr hs
  case callRm => exact (Shelters.indirect .nearCall).instr hs
  case callFar | jmpFar => exact (Shelters.farTransfer ..).instr hs
  case callFarMem | jmpFarMem => exact (Shelters.farIndirect ..).instr hs
  case jmpShort | jmpRel => exact (Shelters.nearJump _).instr hs
  case jmpRm => exact (Shelters.indirect .nearJump).instr hs
  case ret | retImm => exact (Shelters.nearRet _).instr hs
  case retf | retfImm => exact (Shelters.farRet _).instr hs
  case joShort | jnoShort | jbShort | jnbShort | jeShort | jneShort | jbeShort | jnbeShort | jsShort | jnsShort | jpShort | jnpShort |
      jlShort | jnlShort | jleShort | jnleShort | joNear | jnoNear | jbNear | jnbNear | jeNear | jneNear | jbeNear | jnbeNear | jsNear |
      jnsNear | jpNear | jnpNear | jlNear | jnlNear | jleNear | jnleNear | jcxz => exact (Shelters.jumpIf ..).instr hs
  case loop | loopz | loopnz => exact (Shelters.loopBody ..).instr hs
  case seto | setno | setb | setnb | sete | setne | setbe | setnbe | sets | setns | setp | setnp | setl | setnl | setle | setnle =>
    exact (Shelters.setByte ..).instr hs
  case enter => exact (Shelters.enterBody ..).instr hs
  case leave => exact Shelters.leaveBody.instr hs
  case bound => exact (Shelters.boundBody ..).instr hs
  case intN imm => exact .interruptAfter .requireV86Iopl imm hs
  case int3 => exact .interruptAfter (.pure ()) 3 hs
  case into =>
    show s.Shields (execInto s)
    unfold execInto
    split
    · exact .interruptAfter (.pure ()) 4 hs
    · exact Shelters.advance.instr hs
  case iret => exact Shelters.iretBody.instr hs
  case clc | cld | cmc | stc | std => exact (Shelters.setFlags _).instr hs
  case cli => exact Shelters.clearInterrupt.instr hs
  case sti => exact Shelters.setInterrupt.instr hs
  case lahf => exact Shelters.flagsToAh.instr hs
  case sahf => exact Shelters.ahToFlags.instr hs
  case popf => exact Shelters.popFlags.instr hs
  case pushf => exact Shelters.pushFlags.instr hs
  case clts | hlt | lmsw | movRegCr | movRegTr | movCrReg | movRegDr | movDrReg | movTrReg =>
    exact .privileged rfl hs ⟨_, M.bind_of_error (requireCpl0_error hu)⟩
  case lgdt m | lidt m =>
    refine .privileged rfl hs ?_
    cases m with
    | reg r => exact ⟨_, loadTable_reg_unprivileged hu ..⟩
    | mem x => exact ⟨_, loadTable_mem_unprivileged hu ..⟩
  case nop => exact Shelters.advance.instr hs
  case wait => exact Shelters.waitBody.instr hs
  case esc => exact (Shelters.escBody ..).instr hs
  case arpl => exact (Shelters.arplBody ..).instr hs
  case lar | lsl => exact (Shelters.loadTested ..).instr hs
  case verr | verw => exact (Shelters.verify ..).instr hs
  case sgdt | sidt => exact (Shelters.storeTable ..).instr hs
  case sldt | str => exact (Shelters.storeSelector ..).instr hs
  case smsw => exact (Shelters.storeSystem ..).instr hs
  case lldt => exact (Shelters.lldtBody _).instr hs
  case ltr => exact (Shelters.ltrBody _).instr hs
  case und8F1 | und8F2 | und8F3 | und8F4 | und8F5 | und8F6 | und8F7 | undC61 | undC62 | undC63 | undC64 | undC65 | undC66 | undC67 |
      undFE2 | undFE3 | undFE4 | undFE5 | undFE6 | undFE7 | undFF7 | und0F006 | und0F007 | und0F015 | und0F017 | und0FBA0 | und0FBA1 |
      und0FBA2 | und0FBA3 => exact (Shelters.raise ..).instr hs
  case undShift6 | undShiftImm6 | undF61 | undD6 | undF1 | und0F05 | und0F07 | und0FA6 | und0FA7 => exact (Shelters.refuse _).instr hs

/-- Settles O11: below CPL 0 the instructions that load these registers raise an exception, and nothing else changes them. -/
theorem unprivilegedKeepsSystemRegisters : Obligations.UnprivilegedKeepsSystemRegisters := by
  intro i s t hu hs ht
  have h := (State.Shields.exec i hs hu t ht).kept
  simpa [State.shelter] using h

end Sys2Proof.Machine
end

-- ==== Proofs: an exception during a delivery ====
section
/-!
PROOFS. What becomes of an exception that an entry meets (60_exceptions.md R1100, R1141; 21_protection.md R337).
-/
namespace Sys2Proof.Machine

open Sys2Proof

theorem selectorVector_iff (v : Byte) : v ∈ ([10, 11, 12, 13] : List Byte) ↔ 10 ≤ v.toNat ∧ v.toNat ≤ 13 := by
  simp only [List.mem_cons, List.not_mem_nil, or_false, ← BitVec.toNat_inj, BitVec.ofNat_eq_ofNat, BitVec.toNat_ofNat]
  omega

theorem Event.contributory_iff (e : Event) : e.contributory = true ↔ e.kind = .fault ∧ e.vector ∈ ([0, 10, 11, 12, 13] : List Byte) := by
  rw [List.mem_cons, selectorVector_iff]
  simp [Event.contributory]

theorem Event.isDoubleFault_iff (e : Event) : e.isDoubleFault = true ↔ e.kind = .abort ∧ e.vector = 8 := by
  simp [Event.isDoubleFault]

theorem Event.isDoubleFault_of_fault {e : Event} (h : e.kind = .fault) : e.isDoubleFault = false := by
  simp [Event.isDoubleFault, h]

theorem Exc.withExt_eq (x : Exc) (first : Event) : x.withExt first =
    { x with code := if first.kind ≠ .software ∧ x.vector ∈ ([10, 11, 12, 13] : List Byte) then x.code.map (· ||| 1) else x.code } := by
  unfold Exc.withExt
  simp only [selectorVector_iff, Bool.and_eq_true, bne_iff_ne, decide_eq_true_eq, and_assoc]
  split <;> rfl

/-! What `combine` answers. -/

theorem combine_doubleFault {first : Event} {second : Exc} (h : first.isDoubleFault = true) : combine first second = none := by
  simp [combine, h]

theorem combine_pageFault {first : Event} {second : Exc} (hk : first.kind = .fault) (hv : first.vector = 14) :
    combine first second = some doubleFault := by
  simp [combine, Event.isDoubleFault_of_fault hk, hk, hv]

theorem combine_contributory {first : Event} {second : Exc} (hk : first.kind = .fault)
    (hv : first.vector ∈ ([0, 10, 11, 12, 13] : List Byte)) (h : second.vector ≠ 14) : combine first second = some doubleFault := by
  have hp : first.vector ≠ 14 := fun e => absurd (e ▸ hv) (by decide)
  unfold combine
  rw [if_neg (by simp [Event.isDoubleFault_of_fault hk]), if_neg fun k => hp k.2, if_pos ⟨first.contributory_iff.mpr ⟨hk, hv⟩, h⟩]

/-- The second exception is delivered itself. -/
theorem combine_itself {first : Event} {second : Exc} (hd : first.isDoubleFault = false) (hp : ¬ (first.kind = .fault ∧ first.vector = 14))
    (hc : ¬ (first.contributory = true ∧ second.vector ≠ 14)) : combine first second = some (second.withExt first).event := by
  unfold combine
  rw [if_neg (by simp [hd]), if_neg hp, if_neg hc]

/-- The delivery goes on with what `combine` answers, from the state that the failed entry leaves. -/
theorem deliver_of_exc {first : Event} {second : Exc} {savedEip : Word} {s t : State}
    (h : entry first savedEip s = .error (.exc second false) t) :
    deliver first savedEip s = match combine first second with
      | none => .next (s.rollback t).shut
      | some e => deliverWith 4 e (s.rollback t).eip (s.rollback t) := by
  unfold deliver
  rw [deliverWith, h]
  rfl

/-- Settles O50. -/
theorem doubleFaults : Obligations.DoubleFaults := by
  intro s t first second savedEip h
  have hd := deliver_of_exc h
  refine ⟨fun hf => ?shutdown, fun hk hv => combine_pageFault hk hv, fun hk hv hs => combine_contributory hk hv hs,
    fun hk hv hs => ?pageFault, fun hf hv => ?other, second.withExt_eq first, fun e he => ?delivered, rfl,
    first.isDoubleFault_iff, rfl, rfl, rfl⟩
  case shutdown => rw [hd, combine_doubleFault hf]
  case pageFault =>
    refine combine_itself (Event.isDoubleFault_of_fault hk) (fun hp => ?_) fun hc => hc.2 hs
    rw [hp.2] at hv
    exact absurd hv (by decide)
  case other =>
    refine combine_itself hf (fun hp => hv hp.1 (by simp [hp.2])) fun hc => ?_
    obtain ⟨hk, hm⟩ := first.contributory_iff.mp hc.1
    exact hv hk (List.mem_append_left [14] hm)
  case delivered => rw [hd, he]

end Sys2Proof.Machine
end

-- ==== Proofs: selector tests ====
section
/-!
PROOFS. The fields of a selector as numbers, and the instructions that test one (21_protection.md R305, R306; 49_system.md R985, R986, R991,
R998, R999).
-/
namespace Sys2Proof.Machine

open Sys2Proof

/-! Selectors. -/

theorem rpl_toNat (sel : Half) : (rpl sel).toNat = sel.toNat % 4 := by
  simp [rpl, BitVec.extractLsb'_toNat]

theorem withRpl_rpl (d src : Half) : withRpl d (rpl src) = (d &&& 0xFFFC) ||| (src &&& 3) := by
  refine BitVec.eq_of_getLsbD_eq fun i hi => ?_
  unfold withRpl
  rw [BitVec.getLsbD_append]
  interval_cases i <;> simp [rpl]

theorem selOffset_eq (sel : Half) : selOffset sel = sel.toNat / 8 * 8 := by
  have h : sel &&& (0xFFF8 : Half) = (sel >>> 3) <<< 3 := by
    refine BitVec.eq_of_getLsbD_eq fun i hi => ?_
    interval_cases i <;> simp
  unfold selOffset
  rw [h, BitVec.toNat_shiftLeft, BitVec.toNat_ushiftRight, Nat.shiftRight_eq_div_pow, Nat.shiftLeft_eq]
  have := sel.isLt
  omega

theorem adjustRpl_eq (d src : Half) : adjustRpl d src =
    (if decide (d.toNat % 4 < src.toNat % 4) then (d &&& 0xFFFC) ||| (src &&& 3) else d, decide (d.toNat % 4 < src.toNat % 4)) := by
  unfold adjustRpl
  simp only [rpl_toNat, withRpl_rpl]
  split <;> rename_i h <;> simp [h]

/-! A descriptor that a selector names, or does not. -/

theorem readDescriptor_none {sel : Half} {s : State} (h : s.descriptorAt sel = none) : readDescriptor sel s = .ok none s := by
  unfold readDescriptor
  rw [M.get_bind, h]
  rfl

theorem State.descriptorAt_beyond {s : State} {sel : Half}
    (h : if sel.getLsbD 2 then s.ldtr.valid = false ∨ s.ldtr.limit.toNat < sel.toNat / 8 * 8 + 7
      else s.gdtr.limit.toNat < sel.toNat / 8 * 8 + 7) : s.descriptorAt sel = none := by
  unfold State.descriptorAt State.table selTI
  rw [selOffset_eq]
  split at h
  · rename_i ht
    rw [if_pos ht]
    cases hv : s.ldtr.valid with
    | false => rfl
    | true => simpa [hv] using h
  · rename_i ht
    rw [if_neg ht]
    exact if_pos h

theorem testDescriptor_null {sel : Half} {s : State} (h : selNull sel = true) : testDescriptor sel s = .ok none s := by
  unfold testDescriptor
  rw [if_pos h]
  rfl

theorem testDescriptor_notNull {sel : Half} {s : State} (h : selNull sel = false) : testDescriptor sel s = readDescriptor sel s := by
  unfold testDescriptor
  rw [if_neg (by simp [h])]

/-! The instructions. -/

theorem loadTested_ok {m : RM} {r : Reg} {types : List Nat} {value : Descriptor → Word} {s t u : State} {sel : Half}
    {x : Option Descriptor} (hp : s.decodedProt = true) (hr : readRM .b16 m s = .ok sel t) (hx : testDescriptor sel t = .ok x u) :
    loadTested m r types value s = .ok () (State.advance (match (generalizing := false) x with
      | none => u.setZf false
      | some d =>
        if d.accepted types && u.visible sel d then (u.setReg u.osz r ((value d).setWidth u.osz.bits)).setZf true
        else u.setZf false)) :=
  (M.bind_of_ok (requireProt_ok.mpr ⟨hp, rfl⟩)).trans ((M.bind_of_ok hr).trans (M.bind_of_ok hx))

theorem verify_ok {m : RM} {k : State → Half → Descriptor → Bool} {s t u : State} {sel : Half} {x : Option Descriptor}
    (hp : s.decodedProt = true) (hr : readRM .b16 m s = .ok sel t) (hx : testDescriptor sel t = .ok x u) :
    verify m k s = .ok () (u.setZf (match (generalizing := false) x with
      | none => false
      | some d => k u sel d)).advance :=
  (M.bind_of_ok (requireProt_ok.mpr ⟨hp, rfl⟩)).trans ((M.bind_of_ok hr).trans (M.bind_of_ok hx))

theorem arplBody_reg {q r : Reg} {s : State} (hp : s.decodedProt = true) :
    arplBody (.reg q) r s = .ok () ((s.setReg .b16 q (adjustRpl (s.reg .b16 q) (s.reg .b16 r)).1).setZf
      (adjustRpl (s.reg .b16 q) (s.reg .b16 r)).2).advance := M.bind_of_ok (requireProt_ok.mpr ⟨hp, rfl⟩)

theorem arplBody_mem {x : MemRef} {r : Reg} {s t : State} {keys : List Nat} (hp : s.decodedProt = true)
    (hk : probeKeys (s.ea x).1 (s.ea x).2 2 s = .ok keys t) :
    arplBody (.mem x) r s = .ok () (t.adjustKeys keys (s.linear (s.ea x).1 (s.ea x).2) (s.reg .b16 r)).advance :=
  (M.bind_of_ok (requireProt_ok.mpr ⟨hp, rfl⟩)).trans (M.bind_of_ok hk)

/-- Settles O58: each body runs to its end, and the comparison of RPLs is one of two-bit numbers. -/
theorem selectorTests : Obligations.SelectorTests := by
  refine ⟨fun s t q r x keys hl hp => ?arpl, fun s t u m r sel hl hp hr => ?tests⟩
  case arpl =>
    refine ⟨(instr_ok hl (arplBody_reg hp)).trans ?_, fun hk => (instr_ok hl (arplBody_mem hp hk)).trans ?_⟩
    · rw [adjustRpl_eq]
      rfl
    · unfold State.adjustKeys
      rw [adjustRpl_eq]
      rfl
  case tests =>
    refine ⟨testDescriptor_null, fun h => ?beyond, testDescriptor_notNull, fun hx => ?noneFound, fun d hx => ?found⟩
    case beyond =>
      cases hn : selNull sel with
      | true => exact testDescriptor_null hn
      | false => exact (testDescriptor_notNull hn).trans (readDescriptor_none (State.descriptorAt_beyond h))
    case noneFound =>
      have loads {types : List Nat} {value : Descriptor → Word} := instr_ok hl (loadTested_ok (r := r) (types := types) (value := value) hp hr hx)
      have verifies {k : State → Half → Descriptor → Bool} := instr_ok hl (verify_ok (k := k) hp hr hx)
      exact ⟨loads, loads, verifies, verifies⟩
    case found =>
      have loads (types : List Nat) (value : Descriptor → Word) : instr (loadTested m r types value) s =
          if d.accepted types && u.visible sel d then .next ((u.setReg u.osz r ((value d).setWidth u.osz.bits)).setZf true).advance.complete
          else .next (u.setZf false).advance.complete := by
        rw [instr_ok hl (loadTested_ok hp hr hx)]
        dsimp only
        split <;> rfl
      have verifies {k : State → Half → Descriptor → Bool} := instr_ok hl (verify_ok (k := k) hp hr hx)
      exact ⟨loads .., loads .., verifies, verifies⟩

end Sys2Proof.Machine
end

-- ==== Proofs: what accesses to memory, descriptors and stacks leave alone ====
section
/-!
PROOFS. What a computation that succeeds leaves alone: the reads of memory and of descriptors, the Accessed bit, the pushes onto a new stack,
the save of a task.
-/
namespace Sys2Proof.Machine

open Sys2Proof

section
variable {α β γ : Type} {p : State → γ}

/-- Where the computation succeeds, what `p` shows of the state is as before. -/
structure Leaves (p : State → γ) (x : M α) : Prop where
  same : ∀ {s a t}, x s = .ok a t → p t = p s

protected theorem Leaves.bind {x : M α} {f : α → M β} (hx : Leaves p x) (hf : ∀ a, Leaves p (f a)) : Leaves p (x >>= f) := by
  refine ⟨fun h => ?_⟩
  obtain ⟨a, t, h1, h2⟩ := M.bind_ok.mp h
  exact ((hf a).same h2).trans (hx.same h1)

protected theorem Leaves.seq {x : M α} {y : M β} (hx : Leaves p x) (hy : Leaves p y) : Leaves p (x >>= fun _ => y) := hx.bind fun _ => hy

protected theorem Leaves.get_bind {f : State → M α} (h : ∀ s, Leaves p (f s)) : Leaves p (get >>= f) := ⟨fun {s _ _} hs => (h s).same hs⟩

protected theorem Leaves.pure (a : α) : Leaves p (pure a : M α) := ⟨fun h => by cases h; rfl⟩

protected theorem Leaves.raise (v : Byte) (c : Option Half) : Leaves p (raise v c : M α) := ⟨fun h => nomatch h⟩

protected theorem Leaves.refuse_bind (r : Refusal) (f : α → M β) : Leaves p (refuse r >>= f) := ⟨fun h => nomatch h⟩

protected theorem Leaves.pageFault (la : Word) (b w u : Bool) : Leaves p (pageFault la b w u : M α) :=
  ⟨fun h => absurd h pageFault_ne_ok⟩

protected theorem Leaves.modify {k : State → State} (h : ∀ s, p (k s) = p s) : Leaves p (modify k : M Unit) :=
  ⟨fun {s _ _} hs => by cases hs; exact h s⟩

protected theorem Leaves.ite {c : Prop} [Decidable c] {x y : M α} (hx : Leaves p x) (hy : Leaves p y) : Leaves p (if c then x else y) := by
  split
  · exact hx
  · exact hy

protected theorem Leaves.raiseIf {c : Bool} {x : M Unit} (hx : Leaves p x) : Leaves p (raiseIf c x) := .ite hx (.pure ())

/-- A check that raises an exception at once. -/
protected theorem Leaves.check {c : Bool} {v : Byte} {e : Option Half} : Leaves p (raiseIf c (raise v e)) := .raiseIf (.raise v e)

protected theorem Leaves.locked {x : M α} (hx : Leaves p x) (hp : ∀ s b, p (State.withBus s b) = p s) : Leaves p (locked x) := by
  refine ⟨fun h => ?_⟩
  obtain ⟨u, hu, rfl⟩ := locked_ok.mp h
  exact (hp ..).trans ((hx.same hu).trans (hp ..))

protected theorem Leaves.lockedIf {c : Bool} {x : M α} (hx : Leaves p x) (hp : ∀ s b, p (State.withBus s b) = p s) :
    Leaves p (lockedIf c x) := by
  cases c with
  | false => exact hx
  | true => exact hx.locked hp

/-- What the computation leaves alone, it leaves alone of any part of that. -/
protected theorem Leaves.part {δ : Type} {q : State → δ} {x : M α} (hx : Leaves p x) (f : γ → δ) (hf : ∀ s, f (p s) = q s) : Leaves q x :=
  ⟨fun {s _ t} h => by rw [← hf s, ← hf t, hx.same h]⟩

end

/-! Accesses. -/

/-- The state without what an access to memory may change. -/
def State.unaccessed (s : State) : State :=
  { s with mem := [], stale := [], queued := [], tlb := [], bus := [], accessIdx := 0, pend := { s.pend with hits := 0, fire := false } }

section
variable {α γ : Type}

/-- An access leaves what `q` shows, where that is nothing that an access may change. -/
protected theorem Leaves.of_unaccessed {q : State → γ} {x : M α} (hx : Leaves State.unaccessed x) (hq : ∀ s, q s.unaccessed = q s) :
    Leaves q x :=
  hx.part q hq

theorem State.writeKeys_unaccessed (s : State) (keys : List Nat) (v : Word) : (s.writeKeys keys v).unaccessed = s.unaccessed := by
  rw [State.writeKeys_eq]
  rfl

theorem State.markEntry_unaccessed (s : State) (pa bits : Word) : (s.markEntry pa bits).unaccessed = s.unaccessed := by
  unfold State.markEntry
  dsimp only
  split
  · rfl
  · exact State.writeKeys_unaccessed ..

protected theorem Leaves.busTurn : Leaves State.unaccessed busTurn := ⟨fun h => by rw [busTurn_fields h]; rfl⟩

protected theorem Leaves.updateEntry (due : Bool) (pa bits : Word) : Leaves State.unaccessed (updateEntry due pa bits) :=
  .ite (.seq .busTurn (.modify fun s => s.markEntry_unaccessed pa bits)) (.pure _)

protected theorem Leaves.walk (la : Word) (w u : Bool) : Leaves State.unaccessed (walk la w u) :=
  .seq .busTurn <| .get_bind fun _ => .seq (.raiseIf (.pageFault ..)) <| .seq .busTurn <| .get_bind fun _ =>
    .ite (.seq (.updateEntry ..) (.pageFault ..)) <| .seq (.raiseIf (.pageFault ..)) <| .seq (.updateEntry ..) <|
      .seq (.updateEntry ..) <| .seq (.modify fun _ => rfl) (.pure _)

protected theorem Leaves.translate (la : Word) (w u : Bool) : Leaves State.unaccessed (translate la w u) :=
  .seq (.modify fun _ => rfl) <| .get_bind fun s => by
    cases s.tlbHit la with
    | some e => exact .seq (.raiseIf (.pageFault ..)) (.ite (.seq (.modify fun _ => rfl) (.walk ..)) (.pure _))
    | none => exact .walk ..

protected theorem Leaves.linPages (la : Word) (nb : Nat) (w u : Bool) : Leaves State.unaccessed (linPages la nb w u) :=
  .get_bind fun _ => .ite (.pure _) <| .bind (.translate ..) fun _ =>
    .ite (.get_bind fun _ => .pure _) (.bind (.translate ..) fun _ => .get_bind fun _ => .pure _)

protected theorem Leaves.linKeys (la : Word) (nb : Nat) (w u : Bool) : Leaves State.unaccessed (linKeys la nb w u) :=
  .bind (.linPages ..) fun _ => .seq .busTurn (.pure _)

protected theorem Leaves.linRead (la : Word) (nb : Nat) (u : Bool) : Leaves State.unaccessed (linRead la nb u) :=
  .bind (.linKeys ..) fun _ => .get_bind fun _ => .pure _

protected theorem Leaves.linWrite (la : Word) (nb : Nat) (v : Word) (u : Bool) : Leaves State.unaccessed (linWrite la nb v u) :=
  .bind (.linKeys ..) fun _ => .modify fun s => s.writeKeys_unaccessed ..

protected theorem Leaves.checkReg (r : SegReg) (stack : Bool) (off : Word) (nb : Nat) (a : Access) :
    Leaves State.unaccessed (checkReg r stack off nb a) :=
  .get_bind fun _ => .seq .check (.raiseIf (.ite (.raise ..) (.raise ..)))

protected theorem Leaves.regKeys (r : SegReg) (stack u : Bool) (off : Word) (nb : Nat) (w : Bool) :
    Leaves State.unaccessed (regKeys r stack u off nb w) :=
  .seq (.checkReg ..) <| .bind (.linKeys ..) fun _ => .seq (.modify fun _ => rfl) (.pure _)

protected theorem Leaves.memKeys (g : Seg) (off : Word) (nb : Nat) (w : Bool) : Leaves State.unaccessed (memKeys g off nb w) :=
  .get_bind fun _ => .regKeys ..

protected theorem Leaves.memRead (g : Seg) (off : Word) (nb : Nat) : Leaves State.unaccessed (memRead g off nb) :=
  .bind (.memKeys ..) fun _ => .get_bind fun _ => .pure _

protected theorem Leaves.memWrite (g : Seg) (off : Word) (nb : Nat) (v : Word) : Leaves State.unaccessed (memWrite g off nb v) :=
  .bind (.memKeys ..) fun _ => .modify fun s => s.writeKeys_unaccessed ..

protected theorem Leaves.stackRead (d nb : Nat) : Leaves State.unaccessed (stackRead d nb) := .get_bind fun _ => .memRead ..

protected theorem Leaves.stackItems (w i k : Nat) : Leaves State.unaccessed (stackItems w i k) := by
  induction k generalizing i with
  | zero => exact .pure _
  | succ k ih => exact .bind (.stackRead ..) fun _ => .bind (ih _) fun _ => .pure _

protected theorem Leaves.farPointer (x : MemRef) : Leaves State.unaccessed (farPointer x) :=
  .get_bind fun _ => .bind (.memRead ..) fun _ => .bind (.memRead ..) fun _ => .pure _

/-- What later steps look at, after an access. -/
structure State.AccessKept (s t : State) : Prop where
  regs : t.regs = s.regs
  eip : t.eip = s.eip
  eipNext : t.eipNext = s.eipNext
  flags : t.flags = s.flags
  cs : t.cs = s.cs
  ss : t.ss = s.ss
  es : t.es = s.es
  ds : t.ds = s.ds
  fs : t.fs = s.fs
  gs : t.gs = s.gs
  sp : t.sp = s.sp
  cpl : t.cpl = s.cpl
  user : t.user = s.user
  prot : t.prot = s.prot
  v86 : t.v86 = s.v86
  osz32 : t.osz32 = s.osz32
  osz : t.osz = s.osz
  ssz32 : t.ssz32 = s.ssz32
  transferProt : t.transferProt = s.transferProt
  loadFlags : t.loadFlags = s.loadFlags
  limitViolated : t.limitViolated = s.limitViolated

theorem State.AccessKept.of_unaccessed {s t : State} (h : t.unaccessed = s.unaccessed) : s.AccessKept t where
  regs := (congrArg State.regs h :)
  eip := (congrArg State.eip h :)
  eipNext := (congrArg State.eipNext h :)
  flags := (congrArg State.flags h :)
  cs := (congrArg State.cs h :)
  ss := (congrArg State.ss h :)
  es := (congrArg State.es h :)
  ds := (congrArg State.ds h :)
  fs := (congrArg State.fs h :)
  gs := (congrArg State.gs h :)
  sp := (congrArg State.sp h :)
  cpl := (congrArg State.cpl h :)
  user := (congrArg State.user h :)
  prot := (congrArg State.prot h :)
  v86 := (congrArg State.v86 h :)
  osz32 := (congrArg State.osz32 h :)
  osz := (congrArg State.osz h :)
  ssz32 := (congrArg State.ssz32 h :)
  transferProt := (congrArg State.transferProt h :)
  loadFlags := (congrArg State.loadFlags h :)
  limitViolated := (congrArg State.limitViolated h :)

protected theorem Leaves.kept {x : M α} (hx : Leaves State.unaccessed x) {s t : State} {a : α} (h : x s = .ok a t) : s.AccessKept t :=
  .of_unaccessed (hx.same h)

/-! Descriptors. -/

protected theorem Leaves.linDescriptor (la : Word) : Leaves State.unaccessed (linDescriptor la) :=
  .bind (.linKeys ..) fun _ => .get_bind fun _ => .pure _

protected theorem Leaves.readDescriptor (sel : Half) : Leaves State.unaccessed (readDescriptor sel) :=
  .get_bind fun s => by
    cases s.descriptorAt sel with
    | none => exact .pure _
    | some la => exact .bind (.linDescriptor la) fun _ => .pure _

/-- A descriptor, with an exception where its table does not hold it. -/
protected theorem Leaves.descriptor {sel : Half} {v : Byte} {e : Option Half} :
    Leaves State.unaccessed (needDescriptor sel (raise v e)) :=
  .bind (.readDescriptor sel) fun d => by
    cases d with
    | some d => exact .pure d
    | none => exact .seq (.raise ..) (.pure _)

protected theorem Leaves.writeAccessByte (sel : Half) (set clear : Word) : Leaves State.unaccessed (writeAccessByte sel set clear) :=
  .get_bind fun s => by
    cases s.descriptorAt sel with
    | none => exact .pure _
    | some la => exact .locked (.bind (.linKeys ..) fun _ => .modify fun s => s.writeKeys_unaccessed ..) fun _ _ => rfl

protected theorem Leaves.markAccessed (sel : Half) (d : Descriptor) : Leaves State.unaccessed (markAccessed sel d) :=
  .ite (.pure _) (.writeAccessByte ..)

protected theorem Leaves.stackDescriptor {sel : Half} {n : BitVec 2} {v : Byte} {e : Option Half} {w : Half → Byte} {c : Half → Option Half} :
    Leaves State.unaccessed (stackDescriptor sel n (raise v e) fun x => raise (w x) (c x)) :=
  .seq .check <| .bind .descriptor fun _ => .seq .check <| .seq .check <| .seq .check <| .seq .check (.pure _)

protected theorem Leaves.returnDescriptor (sel : Half) : Leaves State.unaccessed (returnDescriptor sel) :=
  .get_bind fun _ => .seq .check <| .seq .check <| .bind .descriptor fun _ => .seq .check <| .seq .check <|
    .seq .check <| .seq .check (.pure _)

protected theorem Leaves.innerStack (n : BitVec 2) : Leaves State.unaccessed (innerStack n) :=
  .get_bind fun _ => .seq .check <| .seq .check <| .bind (.linRead ..) fun _ => .bind (.linRead ..) fun _ =>
    .bind .stackDescriptor fun _ => .pure _

/-! The save of a task. -/

protected theorem Leaves.writeItems (base : Word) (items : List (Nat × Nat × Word)) : Leaves State.unaccessed (writeItems base items) := by
  induction items with
  | nil => exact .pure _
  | cons x rest ih => exact .seq (.linWrite ..) ih

protected theorem Leaves.readItems (base : Word) (nb : Nat) (offs : List Nat) : Leaves State.unaccessed (readItems base nb offs) := by
  induction offs with
  | nil => exact .pure _
  | cons off rest ih => exact .bind (.linRead ..) fun _ => .bind ih fun _ => .pure _

protected theorem Leaves.leaveTask (nsel : Half) (t : Descriptor) (kind : SwitchKind) (savedEip image : Word) :
    Leaves State.unaccessed (leaveTask nsel t kind savedEip image) := by
  refine .get_bind fun s => .bind (.linRead ..) fun _ => .seq (.get_bind fun _ => .writeItems ..) ?_
  cases kind with
  | jmp => exact .seq (.writeAccessByte ..) (.writeAccessByte ..)
  | call | int => exact .seq (.linWrite ..) (.writeAccessByte ..)
  | iret => exact .seq (.writeAccessByte ..) (.pure _)

/-! Stacks. -/

/-- The state without what pushes, also onto a stack just loaded, may change. -/
def State.unpushed (s : State) : State := { s.unaccessed with regs := State.reset.regs, ss := State.reset.ss }

/-- Pushes leave what `q` shows, where that is nothing that they may change. -/
protected theorem Leaves.of_unpushed {q : State → γ} {x : M α} (hx : Leaves State.unpushed x) (hq : ∀ s, q s.unpushed = q s) : Leaves q x :=
  hx.part q hq

/-- An access is no more than a push. -/
protected theorem Leaves.access {x : M α} (hx : Leaves State.unaccessed x) : Leaves State.unpushed x := hx.of_unaccessed fun _ => rfl

theorem State.setSp_unpushed (s : State) (v : Word) : (s.setSp v).unpushed = s.unpushed := by
  unfold State.setSp
  split <;> rfl

protected theorem Leaves.push (v : Word) (nb : Nat) : Leaves State.unpushed (push v nb) :=
  .get_bind fun _ => .seq (Leaves.memWrite ..).access (.modify fun s => s.setSp_unpushed _)

protected theorem Leaves.pushAll (w : Nat) (items : List Word) : Leaves State.unpushed (pushAll w items) := by
  induction items with
  | nil => exact .pure _
  | cons v rest ih => exact .seq (.push ..) ih

protected theorem Leaves.copyParams (r : SegReg) (u : Bool) (sp : Word) (w k : Nat) : Leaves State.unpushed (copyParams r u sp w k) := by
  induction k with
  | zero => exact .pure _
  | succ k ih => exact .bind (Leaves.regKeys ..).access fun _ => .get_bind fun _ => .seq (.push ..) ih

protected theorem Leaves.loadStack (sel : Half) (d : Descriptor) : Leaves State.unpushed (loadStack sel d) :=
  .seq (Leaves.markAccessed ..).access (.modify fun _ => rfl)

protected theorem Leaves.checkRoom (n w : Nat) : Leaves State.unaccessed (checkRoom n w) := .get_bind fun _ => .check

end

end Sys2Proof.Machine
end

-- ==== Proofs: the steps of a transfer in Protected Mode ====
section
/-!
PROOFS. What the shared steps of far transfers, gates and returns do where their checks are passed (21_protection.md R343, R351 to R356, R363,
R370 to R372).
-/
namespace Sys2Proof.Machine

open Sys2Proof

variable {α : Type}

/-! Checks and reads. -/

/-- A check that is passed. -/
theorem M.check_bind {c : Bool} {x : M Unit} {f : Unit → M α} {s : State} (h : c = false) : (raiseIf c x >>= f) s = f () s := by
  rw [h]
  rfl

theorem needDescriptor_of_read {sel : Half} {fail : M Unit} {s t : State} {d : Descriptor} (h : readDescriptor sel s = .ok (some d) t) :
    needDescriptor sel fail s = .ok d t :=
  M.bind_of_ok h

theorem checkTarget_pass {a : Word} {s : State} (h : a.toNat ≤ s.cs.limit.toNat) : checkTarget a s = .ok () s := checkTarget_ok.mpr ⟨h, rfl⟩

theorem checkRoom_pass {n w : Nat} {s : State} (h : s.ss.hasRoom s.sp n w s.prot = true) : checkRoom n w s = .ok () s :=
  checkRoom_ok.mpr ⟨h, rfl⟩

theorem checkStackTop_pass {n : Nat} {s : State} (h : s.limitViolated .ss s.sp n = false) : checkStackTop n s = .ok () s :=
  checkStackTop_ok.mpr ⟨h, rfl⟩

theorem checkOffset_pass {d : Descriptor} {off : Word} {s : State} (h : off.toNat ≤ d.limit.toNat) : checkOffset d off s = .ok () s := by
  unfold checkOffset
  rw [decide_eq_false (by omega)]
  rfl

theorem stackDescriptor_of_read {sel : Half} {n : BitVec 2} {nullFail : M Unit} {fail : Half → M Unit} {s t : State} {d : Descriptor}
    (hnull : selNull sel = false) (hread : readDescriptor sel s = .ok (some d) t) (hrpl : rpl sel = n) (hwritable : d.isWritable = true)
    (hdpl : arDpl d.ar = n) (hpresent : arP d.ar = true) : stackDescriptor sel n nullFail fail s = .ok d t := by
  unfold stackDescriptor
  refine (M.check_bind hnull).trans <| (M.bind_of_ok (needDescriptor_of_read hread)).trans ?_
  refine (M.check_bind ?rpl).trans <| (M.check_bind ?writable).trans <| (M.check_bind ?dpl).trans <| (M.check_bind ?present).trans rfl
  all_goals simp_all

theorem returnDescriptor_of_read {sel : Half} {s t : State} {d : Descriptor} (hnull : selNull sel = false)
    (hlevel : s.cpl.toNat ≤ (rpl sel).toNat) (hread : readDescriptor sel s = .ok (some d) t) (hd : d.returnable sel) :
    returnDescriptor sel s = .ok d t := by
  obtain ⟨hcode, hpresent, hplain, hconforming⟩ := hd
  unfold returnDescriptor
  refine (M.get_bind _ s).trans <| (M.check_bind hnull).trans <| (M.check_bind (decide_eq_false (by omega))).trans <|
    (M.bind_of_ok (needDescriptor_of_read hread)).trans ?_
  refine (M.check_bind ?code).trans <| (M.check_bind ?dpl).trans <| (M.check_bind ?level).trans <| (M.check_bind ?present).trans rfl
  case code => simp [hcode]
  case dpl => cases hc : arC d.ar <;> simp_all
  case level => cases hc : arC d.ar <;> simp_all
  case present => simp [hpresent]

/-! The Accessed bit and the sequence locked until it is set. -/

theorem untilMarked_apply {d : Descriptor} {x : M α} {s : State} (h : arA d.ar = true ∨ s.bus = []) : untilMarked d x s = x s := by
  unfold untilMarked
  rcases h with h | h
  · rw [h]
    rfl
  · exact lockedIf_of_nil h ..

/-- Of a locked sequence counts what it does on any bus. -/
theorem untilMarked_congr {d : Descriptor} {x y : M α} {s : State} (h : ∀ b, x (s.withBus b) = y (s.withBus b)) :
    untilMarked d x s = untilMarked d y s := by
  unfold untilMarked
  cases arA d.ar with
  | true => exact h s.bus
  | false =>
    show locked x s = locked y s
    unfold locked
    rw [h]

/-- Where no other bus master is to write, a locked sequence is the same as another. -/
theorem locked_of_free {s : State} (h : ∀ x ∈ s.bus, (!x.heldOff) = true) (x : M α) : locked x s = x s := by
  unfold locked
  rw [List.takeWhile_eq_self_iff.mpr h, List.dropWhile_eq_nil_iff.mpr h, show s.withBus s.bus = s from rfl]
  cases x s <;> simp only [List.append_nil] <;> rfl

theorem takeWhile_heldOff (b : List BusTurn) : ∀ x ∈ b.takeWhile fun x => !x.heldOff, (!x.heldOff) = true :=
  fun _ h => List.mem_takeWhile_imp (p := fun x : BusTurn => !x.heldOff) h

/-- A locked sequence within another one is locked already. -/
theorem locked_locked (x : M α) : locked (locked x) = locked x := by
  funext s
  have h := locked_of_free (s := s.withBus (s.bus.takeWhile fun b => !b.heldOff)) (takeWhile_heldOff s.bus) x
  show (match locked x (s.withBus (s.bus.takeWhile fun b => !b.heldOff)) with
    | .ok a t => EStateM.Result.ok a (t.withBus (t.bus ++ s.bus.dropWhile fun b => !b.heldOff))
    | .error e t => .error e (t.withBus (t.bus ++ s.bus.dropWhile fun b => !b.heldOff))) = locked x s
  rw [h]
  rfl

theorem locked_pure (a : α) : locked (pure a : M α) = pure a := by
  funext s
  show EStateM.Result.ok a (s.withBus (s.bus.takeWhile _ ++ s.bus.dropWhile _)) = _
  rw [List.takeWhile_append_dropWhile]
  rfl

/-- The write of the access rights byte is locked as it stands. -/
theorem locked_writeAccessByte (sel : Half) (set clear : Word) : locked (writeAccessByte sel set clear) = writeAccessByte sel set clear := by
  have table (s : State) (b : List BusTurn) : (s.withBus b).descriptorAt sel = s.descriptorAt sel := rfl
  have run (s : State) : writeAccessByte sel set clear s = (match s.descriptorAt sel with
    | none => pure ()
    | some la => locked (linKeys (la + 5) 1 true false >>= fun keys =>
        modify fun t => t.writeKeys keys ((t.readKeys keys ||| set) &&& ~~~ clear)) : M Unit) s := rfl
  have inside {s : State} {x : M Unit} (h : ∀ b, writeAccessByte sel set clear (s.withBus b) = x (s.withBus b)) :
      locked (writeAccessByte sel set clear) s = locked x s := by
    unfold locked
    rw [h]
  funext s
  rw [run s]
  cases hla : s.descriptorAt sel with
  | none => exact (inside fun b => by rw [run, table, hla]).trans (congrFun (locked_pure ()) s)
  | some la => exact (inside fun b => by rw [run, table, hla]).trans (congrFun (locked_locked _) s)

theorem locked_modify {x : M Unit} {k : State → State} (hk : ∀ s b, k (State.withBus s b) = (k s).withBus b) (hb : ∀ s, (k s).bus = s.bus) :
    locked (x >>= fun _ => modify k) = (locked x >>= fun _ => modify k) := by
  funext s
  rw [M.bind_apply]
  unfold locked
  rw [M.bind_apply]
  cases x (s.withBus (s.bus.takeWhile fun b => !b.heldOff)) with
  | error e t => rfl
  | ok a t =>
    show EStateM.Result.ok () ((k t).withBus ((k t).bus ++ _)) = EStateM.Result.ok () (k (t.withBus (t.bus ++ _)))
    rw [hk, hb]

/-- Nothing but a change of registers beside the write of the Accessed bit: the sequence needs no lock of its own. -/
theorem untilMarked_mark {sel : Half} {d : Descriptor} {k : State → State} {x : M Unit} {s u : State}
    (hx : ∀ b, x (s.withBus b) = (markAccessed sel d >>= fun _ => modify k) (s.withBus b))
    (hk : ∀ s b, k (State.withBus s b) = (k s).withBus b) (hb : ∀ s, (k s).bus = s.bus) (h : markAccessed sel d s = .ok () u) :
    untilMarked d x s = .ok () (k u) := by
  rw [untilMarked_congr hx]
  have hmark : (markAccessed sel d >>= fun _ => modify k) s = .ok () (k u) := M.bind_of_ok h
  unfold markAccessed at hmark
  unfold untilMarked markAccessed
  cases ha : arA d.ar with
  | true =>
    rw [ha] at hmark
    exact hmark
  | false =>
    rw [ha] at hmark
    show locked (writeAccessByte sel 1 0 >>= fun _ => modify k) s = _
    rw [locked_modify hk hb, locked_writeAccessByte]
    exact hmark

end Sys2Proof.Machine
end

-- ==== Proofs: levels, gates and returns ====
section
/-!
PROOFS. Where gates and returns lead: the level never rises through a gate and never falls by a return, and what each of them does to the
stack and to CS (21_protection.md R330, R352, R355, R356, R363, R370, R372, R376; 48_interrupt_instructions.md R934).
-/
namespace Sys2Proof.Machine

open Sys2Proof

variable {α β γ : Type}

/-! Conditions before and after a computation. -/

/-- From a state with `P` the computation, where it succeeds, reaches one with `Q`. -/
structure Brings (P Q : State → Prop) (x : M α) : Prop where
  ends : ∀ {s a t}, P s → x s = .ok a t → Q t

section
variable {P Q R : State → Prop}

protected theorem Brings.bind {x : M α} {f : α → M β} (hx : Brings P Q x) (hf : ∀ a, Brings Q R (f a)) : Brings P R (x >>= f) := by
  refine ⟨fun hs h => ?_⟩
  obtain ⟨a, t, h1, h2⟩ := M.bind_ok.mp h
  exact (hf a).ends (hx.ends hs h1) h2

protected theorem Brings.seq {x : M α} {y : M β} (hx : Brings P Q x) (hy : Brings Q R y) : Brings P R (x >>= fun _ => y) := hx.bind fun _ => hy

protected theorem Brings.get_bind {f : State → M α} (h : ∀ s, P s → Brings P Q (f s)) : Brings P Q (get >>= f) :=
  ⟨fun {s _ _} hs hx => (h s hs).ends hs hx⟩

protected theorem Brings.pure (a : α) : Brings P P (pure a : M α) := ⟨fun hs h => by cases h; exact hs⟩

protected theorem Brings.modify {k : State → State} (h : ∀ s, P s → Q (k s)) : Brings P Q (modify k : M Unit) :=
  ⟨fun {s _ _} hs hx => by cases hx; exact h s hs⟩

/-- After a check that raises an exception at once, what it looked for is not the case. -/
protected theorem Brings.check {c : Bool} {v : Byte} {e : Option Half} {f : Unit → M α} (h : c = false → Brings P Q (f ())) :
    Brings P Q (raiseIf c (raise v e) >>= f) := by
  cases c with
  | false => exact h rfl
  | true => exact ⟨fun _ hx => nomatch hx⟩

protected theorem Brings.ite {c : Prop} [Decidable c] {x y : M α} (hx : c → Brings P Q x) (hy : ¬ c → Brings P Q y) :
    Brings P Q (if c then x else y) := by
  split
  · exact hx ‹_›
  · exact hy ‹_›

/-- Whatever came before. -/
protected theorem Brings.any {x : M α} (h : Brings (fun _ => True) Q x) : Brings P Q x := ⟨fun _ hx => h.ends trivial hx⟩

protected theorem Brings.weaken {x : M α} (h : Brings P Q x) (hq : ∀ s, Q s → R s) : Brings P R x := ⟨fun hs hx => hq _ (h.ends hs hx)⟩

/-- Only the end of a sequence counts. -/
protected theorem Brings.last {x : M α} {f : α → M β} (h : ∀ a, Brings (fun _ => True) Q (f a)) : Brings P Q (x >>= f) :=
  .bind (Q := fun _ => True) ⟨fun _ _ => trivial⟩ h

/-- What a computation leaves alone, it keeps the value of. -/
protected theorem Leaves.brings {p : State → γ} {x : M α} (hx : Leaves p x) {k : γ} : Brings (fun s => p s = k) (fun s => p s = k) x :=
  ⟨fun hs h => (hx.same h).trans hs⟩

protected theorem Brings.lockedIf {c : Bool} {x : M α} (hx : Brings P Q x) (hp : ∀ s b, P s → P (State.withBus s b))
    (hq : ∀ s b, Q s → Q (State.withBus s b)) : Brings P Q (lockedIf c x) := by
  cases c with
  | false => exact hx
  | true =>
    refine ⟨fun hs h => ?_⟩
    obtain ⟨u, hu, rfl⟩ := locked_ok.mp h
    exact hq _ _ (hx.ends (hp _ _ hs) hu)

end

/-! The level after a transfer. -/

/-- The level is `n`. -/
def AtLevel (n : BitVec 2) (s : State) : Prop := s.cpl = n

/-- The level is at most `n`. -/
def Within (n : BitVec 2) (s : State) : Prop := s.cpl.toNat ≤ n.toNat

/-- The level is at least `n`. -/
def Outside (n : BitVec 2) (s : State) : Prop := n.toNat ≤ s.cpl.toNat

protected theorem Leaves.level {x : M α} (hx : Leaves State.unaccessed x) {n : BitVec 2} : Brings (AtLevel n) (AtLevel n) x :=
  (hx.of_unaccessed (q := State.cpl) fun _ => rfl).brings

protected theorem Brings.loadCs (sel : Half) (d : Descriptor) (n : BitVec 2) {P : State → Prop} : Brings P (AtLevel n) (loadCs sel d n) :=
  .last fun _ => .modify fun _ _ => rfl

protected theorem Brings.enterCode (sel : Half) (d : Descriptor) (n : BitVec 2) (off : Word) {P : State → Prop} :
    Brings P (AtLevel n) (enterCode sel d n off) :=
  .seq (.loadCs ..) (.modify fun _ h => h)

protected theorem Brings.enterHandler (sel : Half) (d : Descriptor) (n : BitVec 2) (off : Word) (ig : Bool) {P : State → Prop} :
    Brings P (AtLevel n) (enterHandler sel d n off ig) :=
  .seq (.loadCs ..) (.modify fun _ h => h)

protected theorem Brings.sameLevel (call : Bool) (sel : Half) (d : Descriptor) (off : Word) (w : Nat) (n : BitVec 2) :
    Brings (AtLevel n) (AtLevel n) (sameLevel call sel d off w) := by
  refine .get_bind fun s hs => .last fun _ => ?_
  rw [show s.cpl = n from hs]
  cases call with
  | false => exact .last fun _ => .enterCode ..
  | true => exact .last fun _ => .last fun _ => .last fun _ => .enterCode ..

protected theorem Brings.callInner (csel : Half) (c : Descriptor) (off : Word) (w k : Nat) {P : State → Prop} :
    Brings P (AtLevel (arDpl c.ar)) (callInner csel c off w k) :=
  .last fun _ => .last fun _ => .last fun _ => .last fun _ => .last fun _ => .last fun _ => .last fun _ => .last fun _ => .last fun _ =>
    .enterCode ..

theorem AtLevel.within {n m : BitVec 2} {s : State} (h : AtLevel n s) (hn : n.toNat ≤ m.toNat) : Within m s := by
  unfold Within
  rw [show s.cpl = n from h]
  exact hn

theorem AtLevel.outside {n m : BitVec 2} {s : State} (h : AtLevel n s) (hn : m.toNat ≤ n.toNat) : Outside m s := by
  unfold Outside
  rw [show s.cpl = n from h]
  exact hn

protected theorem Brings.untilMarked {P Q : State → Prop} {d : Descriptor} {x : M α} (hx : Brings P Q x)
    (hp : ∀ s b, P s → P (State.withBus s b))
    (hq : ∀ s b, Q s → Q (State.withBus s b)) : Brings P Q (untilMarked d x) := hx.lockedIf hp hq

/-- A transfer through a gate ends at the same or at a more privileged level. -/
protected theorem Brings.throughGate (call : Bool) (gsel : Half) (g : Descriptor) (n : BitVec 2) :
    Brings (AtLevel n) (Within n) (throughGate call gsel g) := by
  refine .get_bind fun s hs => .check fun _ => .check fun _ => .check fun _ => .bind Leaves.descriptor.level fun c => .check fun _ =>
    .check fun hle => ?_
  have hdpl : (arDpl c.ar).toNat ≤ n.toNat := by simpa [show s.cpl = n from hs] using hle
  have same (call : Bool) (off : Word) (w : Nat) : Brings (AtLevel n) (Within n) (untilMarked c (sameLevel call g.gateSel c off w)) :=
    (Brings.sameLevel ..).weaken (fun _ h => h.within le_rfl) |>.untilMarked (fun _ _ h => h) fun _ _ h => h
  cases call with
  | false => exact .check fun _ => same ..
  | true =>
    refine .check fun _ => .ite (fun _ => ?_) fun _ => same ..
    exact (Brings.callInner ..).weaken (fun _ h => h.within hdpl) |>.untilMarked (fun _ _ h => h) fun _ _ h => h

/-- An entry through a gate ends at the same or at a more privileged level. -/
protected theorem Brings.gateEntry (e : Event) (savedEip : Word) (g : Descriptor) (n : BitVec 2) :
    Brings (AtLevel n) (Within n) (gateEntry e savedEip g) := by
  refine .get_bind fun s hs => .check fun _ => .bind Leaves.descriptor.level fun c => .check fun _ => .check fun hle => .check fun _ =>
    .untilMarked ?_ (fun _ _ h => h) fun _ _ h => h
  have hdpl : (arDpl c.ar).toNat ≤ n.toNat := by simpa [show s.cpl = n from hs] using hle
  refine .ite (fun _ => ?v86) fun _ => .ite (fun _ => ?inner) fun _ => ?same
  case v86 =>
    refine .get_bind fun u _ => .last fun _ => ?_
    cases g.isGate386 with
    | false => exact ⟨fun _ h => nomatch h⟩
    | true =>
      exact .last fun _ => .last fun _ => .last fun _ => .last fun _ => .last fun _ => .last fun _ => .last fun _ => .last fun _ =>
        .last fun _ => (Brings.enterHandler ..).weaken fun _ h => h.within (Nat.zero_le _)
  case inner =>
    exact .get_bind fun u _ => .last fun _ => .last fun _ => .last fun _ => .last fun _ => .last fun _ => .last fun _ =>
      (Brings.enterHandler ..).weaken fun _ h => h.within hdpl
  case same =>
    refine .get_bind fun u hu => .last fun _ => .last fun _ => .last fun _ => (Brings.enterHandler ..).weaken fun _ h => h.within ?_
    rw [show u.cpl = n from hu]

/-- A fact about the values at hand, found on the way. -/
protected theorem Brings.of_fact {P Q : State → Prop} {c : Prop} {x : M α} (h : c → Brings P Q x) : Brings (fun s => P s ∧ c) Q x :=
  ⟨fun hs hx => (h hs.2).ends hs.1 hx⟩

/-- The checks of a return selector allow no more privileged level. -/
protected theorem Brings.returnDescriptor (sel : Half) (n : BitVec 2) :
    Brings (AtLevel n) (fun s => AtLevel n s ∧ n.toNat ≤ (rpl sel).toNat) (returnDescriptor sel) := by
  refine ⟨fun {s c t} hs h => ⟨(Leaves.returnDescriptor sel).level.ends hs h, ?_⟩⟩
  have checked : Brings (AtLevel n) (fun _ => n.toNat ≤ (rpl sel).toNat) (returnDescriptor sel) :=
    .get_bind fun u hu => .check fun _ => .check fun hle => by
      rw [show u.cpl = n from hu, decide_eq_false_iff_not, not_lt] at hle
      exact ⟨fun _ _ => hle⟩
  exact checked.ends hs h

protected theorem Brings.returnOuter (sel : Half) (c : Descriptor) (newEip : Word) (w frame : Nat) (imm : Word) {P : State → Prop} :
    Brings P (AtLevel (rpl sel)) (returnOuter sel c newEip w frame imm) := by
  refine .last fun _ => .last fun _ => .last fun _ => .last fun d => .last fun _ => .seq (.loadCs ..) ?_
  refine .bind (Leaves.brings (p := State.cpl) ((Leaves.loadStack _ d).of_unpushed fun _ => rfl)) fun _ => .modify fun u hu => ?_
  show ((u.setEspW w _).cpl) = rpl sel
  unfold State.setEspW
  split <;> exact hu

/-- What follows the checks of a return, at its own level or further out. -/
protected theorem Brings.returned {sel : Half} {c : Descriptor} {newEip imm : Word} {w frame : Nat} {n : BitVec 2} {p : Prop} [Decidable p]
    {x y : M Unit} (hn : n.toNat ≤ (rpl sel).toNat) (hx : Brings (AtLevel (rpl sel)) (AtLevel (rpl sel)) x)
    (hy : Brings (AtLevel (rpl sel)) (AtLevel (rpl sel)) y) :
    Brings (AtLevel n) (Outside n) (if p then (do
        checkOffset c newEip
        returnCs sel c
        x)
      else (do
        untilMarked c (returnOuter sel c newEip w frame imm)
        y)) := by
  refine Brings.weaken (Q := AtLevel (rpl sel)) (.ite (fun _ => ?_) fun _ => ?_) fun _ h => h.outside hn
  · exact .last fun _ => .seq (.loadCs ..) hx
  · exact .seq ((Brings.returnOuter ..).untilMarked (fun _ _ h => h) fun _ _ h => h) hy

theorem State.dropStack_cpl (s : State) (n : Word) : (s.dropStack n).cpl = s.cpl := by simp

protected theorem Brings.checkStackTop (len : Nat) {n : BitVec 2} : Brings (AtLevel n) (AtLevel n) (checkStackTop len) :=
  .get_bind fun _ _ => Leaves.check.brings (p := State.cpl)

/-- A far return ends at the same or at a less privileged level. -/
protected theorem Brings.farReturn (imm : Word) (n : BitVec 2) : Brings (AtLevel n) (Outside n) (farReturn imm) := by
  refine .get_bind fun s hs => .seq (.checkStackTop _) <| .bind (Leaves.stackRead ..).level fun _ => .bind (Leaves.stackRead ..).level fun _ =>
    .bind (.returnDescriptor ..) fun c => .of_fact fun hn => .returned hn (.modify fun u hu => ?_) (.modify fun _ hu => hu)
  exact (u.dropStack_cpl _).trans hu

/-- So does an IRET within the task. -/
protected theorem Brings.iretCode (newEip csImage image : Word) (w : Nat) (n : BitVec 2) :
    Brings (AtLevel n) (Outside n) (iretCode newEip csImage image w) := by
  refine .get_bind fun s hs => .bind (.returnDescriptor ..) fun c => .of_fact fun hn => ?_
  have hdrop (u : State) (hu : AtLevel (rpl (csImage.setWidth 16)) u) : AtLevel (rpl (csImage.setWidth 16))
      ((u.dropStack (BitVec.ofNat 32 (3 * w))).transfer newEip) := (u.dropStack_cpl _).trans hu
  refine Brings.returned (c := c) (newEip := newEip) hn (.seq (.modify hdrop) (.modify fun _ hu => hu)) (.modify fun _ hu => hu)

/-! What the transfers do, step by step. -/

theorem loadCs_of_mark {sel : Half} {d : Descriptor} {n : BitVec 2} {s u : State} (h : markAccessed sel d s = .ok () u) :
    loadCs sel d n s = .ok () (u.withCode sel d n) := M.bind_of_ok h

theorem loadStack_of_mark {sel : Half} {d : Descriptor} {s u : State} (h : markAccessed sel d s = .ok () u) :
    loadStack sel d s = .ok () (u.setSeg .ss (d.toSegReg sel)) := M.bind_of_ok h

theorem enterCode_of_mark {sel : Half} {d : Descriptor} {n : BitVec 2} {off : Word} {s u : State} (h : markAccessed sel d s = .ok () u) :
    enterCode sel d n off s = .ok () ((u.withCode sel d n).jump off) := M.bind_of_ok (loadCs_of_mark h)

theorem enterCode_eq (sel : Half) (d : Descriptor) (n : BitVec 2) (off : Word) (s : State) :
    enterCode sel d n off s = (markAccessed sel d >>= fun _ => modify fun v => (v.withCode sel d n).jump off) s := by
  unfold enterCode loadCs
  rw [bind_assoc]
  rfl

/-- A JMP to a checked code segment marks it and enters it. -/
theorem sameLevel_jump {sel : Half} {d : Descriptor} {off : Word} {w : Nat} (hp : arP d.ar = true) (ho : off.toNat ≤ d.limit.toNat)
    (s : State) : sameLevel false sel d off w s =
      (markAccessed sel d >>= fun _ => modify fun v => (v.withCode sel d s.cpl).jump off) s := by
  refine (M.get_bind _ s).trans <| (M.check_bind (by rw [hp]; rfl)).trans <| (M.bind_of_ok (checkOffset_pass ho)).trans ?_
  exact enterCode_eq ..

theorem untilMarked_sameLevel_jump {sel : Half} {d : Descriptor} {off : Word} {w : Nat} {s u : State} (hp : arP d.ar = true)
    (ho : off.toNat ≤ d.limit.toNat) (h : markAccessed sel d s = .ok () u) :
    untilMarked d (sameLevel false sel d off w) s = .ok () ((u.withCode sel d s.cpl).jump off) :=
  untilMarked_mark (k := fun v => (v.withCode sel d s.cpl).jump off) (fun b => sameLevel_jump hp ho (s.withBus b)) (fun _ _ => rfl)
    (fun _ => rfl) h

theorem sameLevel_call {sel : Half} {d : Descriptor} {off : Word} {w : Nat} {s p u : State} (hp : arP d.ar = true)
    (hr : s.ss.hasRoom s.sp 2 w s.prot = true) (ho : off.toNat ≤ d.limit.toNat)
    (hpush : pushReturn (s.cs.sel.setWidth 32) w s = .ok () p) (h : markAccessed sel d p = .ok () u) :
    sameLevel true sel d off w s = .ok () ((u.withCode sel d s.cpl).jump off) :=
  (M.get_bind _ s).trans <| (M.check_bind (by rw [hp]; rfl)).trans <| (M.bind_of_ok (checkRoom_pass hr)).trans <|
    (M.bind_of_ok (checkOffset_pass ho)).trans <| (M.bind_of_ok hpush).trans (enterCode_of_mark h)

theorem callInner_of_steps {csel ssel : Half} {c sd : Descriptor} {off newEsp : Word} {w k : Nat} {s a b p q x y : State}
    (hstack : innerStack (arDpl c.ar) s = .ok (ssel, sd, newEsp) a)
    (hroom : (sd.toSegReg ssel).hasRoom (if arD (sd.toSegReg ssel).ar then newEsp else low16 newEsp) (4 + k) w true = true)
    (hoff : off.toNat ≤ c.limit.toNat) (hload : loadStack ssel sd a = .ok () b)
    (hold : pushAll w [s.ss.sel.setWidth 32, s.regs.esp] { b.setReg .b32 .esp newEsp with cpl := arDpl c.ar } = .ok () p)
    (hcopy : copyParams s.ss s.user s.sp w k p = .ok () q) (hret : pushAll w [s.cs.sel.setWidth 32, s.eipNext] q = .ok () x)
    (hmark : markAccessed csel c x = .ok () y) :
    callInner csel c off w k s = .ok () ((y.withCode csel c (arDpl c.ar)).jump off) := by
  refine (M.get_bind _ s).trans <| (M.bind_of_ok hstack).trans <| (M.check_bind ?room).trans <| (M.bind_of_ok (checkOffset_pass hoff)).trans <|
    (M.bind_of_ok hload).trans <| (M.modify_bind _ _ b).trans <| (M.bind_of_ok hold).trans <| (M.bind_of_ok hcopy).trans <|
    (M.bind_of_ok hret).trans (enterCode_of_mark hmark)
  case room => simp [hroom]

/-- The call gate `g` of the selector `gsel` may be used, and names the code segment `c`, not of a less privileged level (R355). -/
structure State.GateLeads (s : State) (gsel : Half) (g c : Descriptor) (t : State) : Prop where
  cpl : s.cpl.toNat ≤ (arDpl g.ar).toNat
  rpl : (rpl gsel).toNat ≤ (arDpl g.ar).toNat
  present : arP g.ar = true
  notNull : selNull g.gateSel = false
  read : readDescriptor g.gateSel s = .ok (some c) t
  code : c.isCode = true
  level : (arDpl c.ar).toNat ≤ s.cpl.toNat

section
variable {s t : State} {gsel : Half} {g c : Descriptor}

theorem throughGate_jump (h : s.GateLeads gsel g c t) (hl : arC c.ar = false → arDpl c.ar = s.cpl) :
    throughGate false gsel g s = untilMarked c
      (sameLevel false g.gateSel c (g.gateOffset (g.system == some 12)) (if g.system == some 12 then 4 else 2)) t := by
  refine (M.get_bind _ s).trans <| (M.check_bind (decide_eq_false ?dpl)).trans <| (M.check_bind ?present).trans <|
    (M.check_bind h.notNull).trans <| (M.bind_of_ok (needDescriptor_of_read h.read)).trans <| (M.check_bind ?code).trans <|
    (M.check_bind (decide_eq_false ?level)).trans <| M.check_bind ?same
  case dpl => have := h.cpl; have := h.rpl; omega
  case present => rw [h.present]; rfl
  case code => rw [h.code]; rfl
  case level => have := h.level; omega
  case same => cases hc : arC c.ar <;> simp_all

theorem throughGate_call (h : s.GateLeads gsel g c t) (hp : arP c.ar = true) : throughGate true gsel g s =
    (if (!arC c.ar && decide ((arDpl c.ar).toNat < s.cpl.toNat)) = true then untilMarked c
        (callInner g.gateSel c (g.gateOffset (g.system == some 12)) (if g.system == some 12 then 4 else 2) g.gateCount)
      else untilMarked c
        (sameLevel true g.gateSel c (g.gateOffset (g.system == some 12)) (if g.system == some 12 then 4 else 2))) t := by
  refine (M.get_bind _ s).trans <| (M.check_bind (decide_eq_false ?dpl)).trans <| (M.check_bind ?present).trans <|
    (M.check_bind h.notNull).trans <| (M.bind_of_ok (needDescriptor_of_read h.read)).trans <| (M.check_bind ?code).trans <|
    (M.check_bind (decide_eq_false ?level)).trans <| M.check_bind ?segment
  case dpl => have := h.cpl; have := h.rpl; omega
  case present => rw [h.present]; rfl
  case code => rw [h.code]; rfl
  case level => have := h.level; omega
  case segment => rw [hp]; rfl

end

/-- The two pushes of the return address, one after the other. -/
theorem pushReturn_of_pushAll {a : Word} {w : Nat} {s t : State} (h : pushAll w [a, s.eipNext] s = .ok () t) :
    pushReturn a w s = .ok () t := by
  obtain ⟨_, u, h1, h2⟩ := M.bind_ok.mp h
  obtain ⟨_, v, h3, h4⟩ := M.bind_ok.mp h2
  cases h4
  exact (M.get_bind _ s).trans ((M.bind_of_ok h1).trans h3)

/-- A register that the outer level may use stays as it is. -/
theorem State.nullUnusable_eq (s : State) (n : BitVec 2) :
    let kept (r : SegReg) : SegReg :=
      if r.valid = true ∧ ((arE r.ar = true ∧ arC r.ar = true) ∨ n.toNat ≤ (arDpl r.ar).toNat) then r else { r with sel := 0, valid := false }
    s.nullUnusable n = { s with ds := kept s.ds, es := kept s.es, fs := kept s.fs, gs := kept s.gs } := by
  have h (r : SegReg) : (if r.unusable n then r.nulled else r) =
      if r.valid = true ∧ ((arE r.ar = true ∧ arC r.ar = true) ∨ n.toNat ≤ (arDpl r.ar).toNat) then r
      else { r with sel := 0, valid := false } := by
    have hiff : r.unusable n = true ↔ ¬ (r.valid = true ∧ ((arE r.ar = true ∧ arC r.ar = true) ∨ n.toNat ≤ (arDpl r.ar).toNat)) := by
      unfold SegReg.unusable
      cases r.valid <;> cases arE r.ar <;> cases arC r.ar <;> simp
    by_cases hu : r.unusable n = true
    · rw [if_pos hu, if_neg (hiff.mp hu)]
      rfl
    · rw [if_neg hu, if_pos (not_not.mp fun k => hu (hiff.mpr k))]
  unfold State.nullUnusable
  simp only [h]

theorem returnOuter_of_steps {sel ssel : Half} {c d : Descriptor} {newEip newEsp ssImage imm : Word} {w frame : Nat} {s t u v x y : State}
    (hssel : ssImage.setWidth 16 = ssel) (htop : s.limitViolated .ss s.sp (frame + 2 * w) = false)
    (hesp : stackRead frame w s = .ok newEsp t) (hss : stackRead (frame + w) w t = .ok ssImage u)
    (hd : stackDescriptor ssel (rpl sel) raiseGP0 raiseGP u = .ok d v) (hoff : newEip.toNat ≤ c.limit.toNat)
    (hcs : markAccessed sel c v = .ok () x) (hmark : markAccessed ssel d (x.withCode sel c (rpl sel)) = .ok () y) :
    returnOuter sel c newEip w frame imm s =
      .ok () ((((y.setSeg .ss (d.toSegReg ssel)).setEspW w (newEsp + imm)).nullUnusable (rpl sel)).transfer newEip) := by
  subst hssel
  exact (M.bind_of_ok (checkStackTop_pass htop)).trans <| (M.bind_of_ok hesp).trans <| (M.bind_of_ok hss).trans <| (M.bind_of_ok hd).trans <|
    (M.bind_of_ok (checkOffset_pass hoff)).trans <| (M.bind_of_ok (loadCs_of_mark hcs)).trans <| M.bind_of_ok (loadStack_of_mark hmark)

theorem innerStack_unpaged {s u : State} {n : BitVec 2} {d : Descriptor} (hpg : s.pg = false) (hb : s.bus = []) :
    let w := if s.tr.isTss386 then 4 else 2
    let at_ := if s.tr.isTss386 then 4 + 8 * n.toNat else 2 + 4 * n.toNat
    let item (off nb : Nat) : Word := s.readKeys (s.physKeys (s.tr.base + BitVec.ofNat 32 off) nb)
    let ssel : Half := (item (at_ + w) 2).setWidth 16
    s.tr.isTss386 = true ∨ s.tr.isTss286 = true → at_ + w + 1 ≤ s.tr.limit.toNat →
    stackDescriptor ssel n (raise 10 (some 0)) raiseTS s = .ok d u → innerStack n s = .ok (ssel, d, item at_ w) u := by
  intro w at_ item ssel htss hlimit hd
  have reads (off nb : Nat) : linRead (s.tr.base + BitVec.ofNat 32 off) nb false s = .ok (item off nb) s :=
    linRead_unpaged hpg (busTurn_nil hb)
  refine (M.get_bind _ s).trans <| (M.check_bind ?tss).trans <| (M.check_bind (decide_eq_false ?limit)).trans <|
    (M.bind_of_ok (reads at_ w)).trans <| (M.bind_of_ok (reads (at_ + w) 2)).trans <| (M.bind_of_ok hd).trans rfl
  case tss => rcases htss with h | h <;> simp [h]
  case limit => exact Nat.not_lt.mpr hlimit

/-- Settles O42: the levels by what the checks have found, the rest step by step through the transfers. -/
theorem levelChangesByGateAndReturn : Obligations.LevelChangesByGateAndReturn := by
  refine ⟨fun s t hp => ⟨fun call sel g h => ?gateDown, fun e eip g h => ?entryDown, fun imm h => ?retUp, fun eip cs image w h => ?iretUp⟩,
    fun s t u v x y sel c d newEip newEsp ssImage imm w frame => ?outer,
    fun s t a b p q x y gsel ssel g c sd newEsp => ?inner, fun s t p u gsel g c => ?same, ?pushes, fun s u n d hpg hb => ?stack⟩
  case gateDown => exact (Brings.throughGate ..).ends rfl h
  case entryDown => exact (Brings.gateEntry ..).ends rfl h
  case retUp => exact (Brings.farReturn ..).ends rfl h
  case iretUp => exact (Brings.iretCode ..).ends rfl h
  case outer =>
    intro ssel n kept htop hesp hss hnull hread hrpl hw hdpl hpresent hoff hcs hmark
    have hd := stackDescriptor_of_read (nullFail := raiseGP0) (fail := raiseGP) hnull hread hrpl hw hdpl hpresent
    rw [returnOuter_of_steps rfl htop hesp hss hd hoff hcs hmark, State.nullUnusable_eq]
    unfold State.setEspW
    split <;> rfl
  case inner =>
    intro is386 w k n off newSs hcpl hrpl hP hnull hread hcode hPc hC hn hA hstack hroom hoff hload hold hcopy hret hmark
    have hs := (Leaves.readDescriptor _).kept hread
    have h : s.GateLeads gsel g c t := ⟨hcpl, hrpl, hP, hnull, hread, hcode, hn.le⟩
    rw [throughGate_call h hPc, if_pos (by simp [hC, show (arDpl c.ar).toNat < s.cpl.toNat from hn]), untilMarked_apply hA]
    rw [← hs.ss] at hold hcopy
    rw [← hs.regs] at hold
    rw [← hs.user, ← hs.sp] at hcopy
    rw [← hs.cs, ← hs.eipNext] at hret
    exact callInner_of_steps hstack hroom hoff hload hold hcopy hret hmark
  case same =>
    intro is386 w off entered hcpl hrpl hP hnull hread hcode hPc hconf hplain hoff
    have hs := (Leaves.readDescriptor _).kept hread
    have hlevel : (arDpl c.ar).toNat ≤ s.cpl.toNat := by
      cases hC : arC c.ar with
      | true => exact hconf hC
      | false => exact (congrArg BitVec.toNat (hplain hC)).le
    have h : s.GateLeads gsel g c t := ⟨hcpl, hrpl, hP, hnull, hread, hcode, hlevel⟩
    have hentered : (u.withCode g.gateSel c t.cpl).jump off = entered := by rw [hs.cpl]
    refine ⟨fun hmark => ?jump, fun hA hroom hpush hmark => ?call⟩
    case jump => exact (throughGate_jump h hplain).trans ((untilMarked_sameLevel_jump hPc hoff hmark).trans (congrArg _ hentered))
    case call =>
      rw [throughGate_call h hPc, if_neg (by cases hC : arC c.ar <;> simp_all), untilMarked_apply hA, ← hentered]
      rw [← hs.cs, ← hs.eipNext] at hpush
      rw [← hs.ss, ← hs.sp,
        ← hs.prot] at hroom
      exact sameLevel_call hPc hroom hoff (pushReturn_of_pushAll hpush) hmark
  case pushes =>
    intro r user sp v w k rest keys a b e
    refine ⟨rfl, fun h => M.bind_of_ok h, rfl, fun hkeys hpush => ?_⟩
    exact (M.bind_of_ok hkeys).trans ((M.get_bind _ b).trans (M.bind_of_ok hpush))
  case stack =>
    intro w at_ item ssel htss hlimit hnull hread hrpl hw hdpl hP
    exact innerStack_unpaged hpg hb htss hlimit (stackDescriptor_of_read hnull hread hrpl hw hdpl hP)

end Sys2Proof.Machine
end

-- ==== Proofs: far transfers ====
section
/-!
PROOFS. Far JMP, CALL and RET in every mode: which of the transfers each of them is, and that it runs to its end (21_protection.md R351, R352,
R370, R371, R385, R386; 46_control_transfer.md R863 to R876).
-/
namespace Sys2Proof.Machine

open Sys2Proof

/-! Outside Protected Mode. -/

theorem far8086_jump {sel : Half} {off : Word} {s : State} (h : off.toNat ≤ s.cs.limit.toNat) :
    far8086 false sel off s = .ok () ((s.setSeg .cs (s.load8086 s.cs sel)).jump off) :=
  (M.get_bind _ s).trans (M.bind_of_ok (checkTarget_pass h))

theorem far8086_call {sel : Half} {off : Word} {s u : State} (hr : s.ss.hasRoom s.sp 2 s.osz.bytes s.prot = true)
    (h : off.toNat ≤ s.cs.limit.toNat) (hp : pushReturn (undefHigh s.freeIdx s.cs.sel) s.osz.bytes s = .ok () u) :
    far8086 true sel off s = .ok () ((u.setSeg .cs (u.load8086 u.cs sel)).jump off) :=
  (M.get_bind _ s).trans <| (M.bind_of_ok (checkRoom_pass hr)).trans <| (M.bind_of_ok (checkTarget_pass h)).trans (M.bind_of_ok hp)

theorem farReturn8086_of_reads {imm off csImage : Word} {s t u : State} (htop : s.limitViolated .ss s.sp (2 * s.osz.bytes) = false)
    (hoff : stackRead 0 s.osz.bytes s = .ok off t) (hcs : stackRead s.osz.bytes s.osz.bytes t = .ok csImage u)
    (h : off.toNat ≤ u.cs.limit.toNat) : farReturn8086 imm s = .ok ()
      (((u.dropStack (BitVec.ofNat 32 (2 * s.osz.bytes) + imm)).setSeg .cs (u.load8086 u.cs (csImage.setWidth 16))).jump off) :=
  (M.get_bind _ s).trans <| (M.bind_of_ok (checkStackTop_pass htop)).trans <| (M.bind_of_ok hoff).trans <| (M.bind_of_ok hcs).trans <|
    M.bind_of_ok (checkTarget_pass h)

/-! What a selector leads to in Protected Mode (R351). -/

section
variable {call : Bool} {sel : Half} {off : Word} {s t : State} {d : Descriptor}

theorem farJump_8086 (h : s.prot = false) : farTransfer false sel off s = far8086 false sel off s := by
  refine (M.get_bind _ s).trans ?_
  rw [if_neg (by simp [h])]

theorem farCall_8086 (h : s.transferProt = false) : farTransfer true sel off s = far8086 true sel off s := by
  refine (M.get_bind _ s).trans ?_
  rw [if_neg (by simp [h])]

theorem farTransfer_prot (hp : s.prot = true) (hc : call = true → s.transferProt = true) :
    farTransfer call sel off s = farTarget call sel off s := by
  refine (M.get_bind _ s).trans ?_
  cases call with
  | false => rw [if_pos (by simpa using hp)]
  | true => rw [if_pos (by simpa using hc rfl)]

theorem Descriptor.system_of_isCode (h : d.isCode = true) : d.system = none ∧ arE d.ar = true := by
  obtain ⟨hs, he⟩ := Bool.and_eq_true_iff.mp h
  exact ⟨if_pos hs, he⟩

theorem Descriptor.system_of_isFreeTss (h : d.isFreeTss = true) : d.system = some 1 ∨ d.system = some 9 := by
  simpa [Descriptor.isFreeTss] using h

theorem farTarget_code (hn : selNull sel = false) (hr : readDescriptor sel s = .ok (some d) t) (hd : d.isCode = true) :
    farTarget call sel off s = untilMarked d (directCode call sel d off) t := by
  obtain ⟨hsys, he⟩ := Descriptor.system_of_isCode hd
  refine (M.check_bind hn).trans <| (M.bind_of_ok (needDescriptor_of_read hr)).trans ?_
  rw [hsys]
  dsimp only
  rw [if_pos he]

theorem farTarget_gate (hn : selNull sel = false) (hr : readDescriptor sel s = .ok (some d) t) (hd : d.system = some 4 ∨ d.system = some 12) :
    farTarget call sel off s = throughGate call sel d t := by
  refine (M.check_bind hn).trans <| (M.bind_of_ok (needDescriptor_of_read hr)).trans ?_
  rcases hd with hd | hd
  all_goals
    rw [hd]
    rfl

theorem farTarget_tss (hn : selNull sel = false) (hr : readDescriptor sel s = .ok (some d) t) (hd : d.isFreeTss = true) :
    farTarget call sel off s = toTss call sel d t := by
  refine (M.check_bind hn).trans <| (M.bind_of_ok (needDescriptor_of_read hr)).trans ?_
  rcases Descriptor.system_of_isFreeTss hd with hd | hd
  all_goals
    rw [hd]
    rfl

theorem farTarget_taskGate (hn : selNull sel = false) (hr : readDescriptor sel s = .ok (some d) t) (hd : d.system = some 5) :
    farTarget call sel off s = throughTaskGate call sel d t := by
  refine (M.check_bind hn).trans <| (M.bind_of_ok (needDescriptor_of_read hr)).trans ?_
  rw [hd]
  rfl

/-- The privilege checks of a direct transfer (R352). -/
theorem directCode_apply (h : s.entersCode sel d) : directCode call sel d off s = sameLevel call sel d (s.target off) s.osz.bytes s := by
  obtain ⟨-, -, hconf, hplain⟩ := h
  refine (M.get_bind _ s).trans ?_
  cases hC : arC d.ar with
  | true =>
    have := hconf hC
    exact M.check_bind (decide_eq_false (by omega))
  | false =>
    obtain ⟨hdpl, hrpl⟩ := hplain hC
    refine M.check_bind ?_
    rw [hdpl, decide_eq_false (by omega)]
    simp

theorem gateTask_of_read {tsel : Half} (hti : selTI tsel = false) (hn : selNull tsel = false)
    (hr : readDescriptor tsel s = .ok (some d) t) (hd : d.isFreeTss = true) (hp : arP d.ar = true) : gateTask tsel s = .ok d t :=
  (M.check_bind (by rw [hti, hn]; rfl)).trans <| (M.bind_of_ok (needDescriptor_of_read hr)).trans <| (M.check_bind (by rw [hd]; rfl)).trans <|
    (M.check_bind (by rw [hp]; rfl)).trans rfl

theorem toTss_apply (hc : s.cpl.toNat ≤ (arDpl d.ar).toNat) (hr : (rpl sel).toNat ≤ (arDpl d.ar).toNat) (hti : selTI sel = false)
    (hp : arP d.ar = true) : toTss call sel d s = taskSwitch sel d (farKind call) s.eipNext s.flags.image s :=
  (M.get_bind _ s).trans <| (M.check_bind (decide_eq_false (by omega))).trans <| (M.check_bind hti).trans (M.check_bind (by rw [hp]; rfl))

theorem throughTaskGate_apply {td : Descriptor} (hc : s.cpl.toNat ≤ (arDpl d.ar).toNat) (hr : (rpl sel).toNat ≤ (arDpl d.ar).toNat)
    (hp : arP d.ar = true) (hg : gateTask d.gateSel s = .ok td t) :
    throughTaskGate call sel d s = taskSwitch d.gateSel td (farKind call) t.eipNext t.flags.image t :=
  (M.get_bind _ s).trans <| (M.check_bind (decide_eq_false (by omega))).trans <| (M.check_bind (by rw [hp]; rfl)).trans (M.bind_of_ok hg)

end

/-! The instructions. -/

section
variable {s r u : State} {x : MemRef} {off : Word} {sel : Half}

theorem exec_jmpFar_ok (hl : s.pfx.lock = false) (h : farTransfer false sel off s = .ok () u) : exec (.jmpFar off sel) s = .next u.complete :=
  instr_ok hl h

theorem exec_callFar_ok (hl : s.pfx.lock = false) (h : farTransfer true sel off s = .ok () u) : exec (.callFar off sel) s = .next u.complete :=
  instr_ok hl h

theorem farIndirect_ok {call : Bool} (hx : farPointer x s = .ok (off, sel) r) (h : farTransfer call sel off r = .ok () u) :
    farIndirect call (.mem x) s = .ok () u :=
  (M.bind_of_ok (a := x) (t := s) rfl).trans ((M.bind_of_ok hx).trans h)

theorem exec_jmpFarMem_ok (hl : s.pfx.lock = false) (hx : farPointer x s = .ok (off, sel) r) (h : farTransfer false sel off r = .ok () u) :
    exec (.jmpFarMem (.mem x)) s = .next u.complete := instr_ok hl (farIndirect_ok hx h)

theorem exec_callFarMem_ok (hl : s.pfx.lock = false) (hx : farPointer x s = .ok (off, sel) r) (h : farTransfer true sel off r = .ok () u) :
    exec (.callFarMem (.mem x)) s = .next u.complete := instr_ok hl (farIndirect_ok hx h)

/-- What holds of a direct and of an indirect JMP and CALL, where it holds of the transfer from the state `r` in which the pointer is known. -/
theorem far_forms {P Q : Instr → Prop} (hl : s.pfx.lock = false)
    (hP : ∀ i, (∀ v, farTransfer false sel off r = .ok () v → exec i s = .next v.complete) → P i)
    (hQ : ∀ i, (∀ v, farTransfer true sel off r = .ok () v → exec i s = .next v.complete) → Q i) :
    (r = s → P (.jmpFar off sel) ∧ Q (.callFar off sel)) ∧
    (∀ x, farPointer x s = .ok (off, sel) r → P (.jmpFarMem (.mem x)) ∧ Q (.callFarMem (.mem x))) := by
  refine ⟨fun h => ?_, fun x hx => ⟨hP _ fun _ h => exec_jmpFarMem_ok hl hx h, hQ _ fun _ h => exec_callFarMem_ok hl hx h⟩⟩
  subst h
  exact ⟨hP _ fun _ h => exec_jmpFar_ok hl h, hQ _ fun _ h => exec_callFar_ok hl h⟩

theorem farRet_prot {imm : Word} (h : s.transferProt = true) : farRet imm s = farReturn imm s := by
  refine (M.get_bind _ s).trans ?_
  rw [if_pos h]

theorem farRet_8086 {imm : Word} (h : s.transferProt = false) : farRet imm s = farReturn8086 imm s := by
  refine (M.get_bind _ s).trans ?_
  rw [if_neg (by simp [h])]

end

/-- The reads and checks with which a far RET of Protected Mode begins. -/
theorem farReturn_of_reads {imm off csImage : Word} {d : Descriptor} {s t u v : State} (htop : s.limitViolated .ss s.sp (2 * s.osz.bytes) = false)
    (hoff : stackRead 0 s.osz.bytes s = .ok off t) (hcs : stackRead s.osz.bytes s.osz.bytes t = .ok csImage u)
    (hd : returnDescriptor (csImage.setWidth 16) u = .ok d v) : farReturn imm s =
      (if rpl (csImage.setWidth 16) = s.cpl then (do
        checkOffset d off
        returnCs (csImage.setWidth 16) d
        modify fun t => ((t.dropStack (BitVec.ofNat 32 (2 * s.osz.bytes) + imm)).transfer off).clearRf)
      else (do
        untilMarked d (returnOuter (csImage.setWidth 16) d off s.osz.bytes (2 * s.osz.bytes + imm.toNat) imm)
        modify State.clearRf) : M Unit) v :=
  (M.get_bind _ s).trans <| (M.bind_of_ok (checkStackTop_pass htop)).trans <| (M.bind_of_ok hoff).trans <| (M.bind_of_ok hcs).trans <|
    M.bind_of_ok hd

theorem Word.add_zero_lit (n : Word) : n + 0 = n := BitVec.add_zero n

/-- Settles O41: each transfer runs step by step; what an access leaves alone is as the instruction found it. -/
theorem farTransfers : Obligations.FarTransfers := by
  refine ⟨fun s old => ⟨rfl, State.decodedProt_of_none, State.decodedProt_of_some⟩, fun s t u hl => ?real,
    fun s r t sel off d hl hp hn hr he => ?direct, fun s t u v y off csImage d hl hp => ?sameReturn,
    fun s t u v y off csImage d hl hp => ?outerReturn, fun s r t u sel off g hl hp hn hr hg => ?gate,
    fun s r t v u sel off d td hl hp hn hr hc hrpl hP => ?task⟩
  case real =>
    intro into called
    refine ⟨fun sel off => ⟨fun hp h => ?jump, fun hp h => ?call⟩, fun x off sel hx => ⟨fun hp h => ?jumpMem, fun hp h => ?callMem⟩,
      fun off csImage hp htop hoff hcs h => ?ret⟩
    case jump => exact exec_jmpFar_ok hl ((farJump_8086 hp).trans (far8086_jump h))
    case call =>
      obtain ⟨hroom, hoff, hpush⟩ := h
      exact exec_callFar_ok hl ((farCall_8086 hp).trans (far8086_call hroom hoff hpush))
    case jumpMem =>
      have hk := (Leaves.farPointer x).kept hx
      exact exec_jmpFarMem_ok hl hx ((farJump_8086 (hk.prot.trans hp)).trans (far8086_jump h))
    case callMem =>
      have hk := (Leaves.farPointer x).kept hx
      obtain ⟨hroom, hoff, hpush⟩ := h
      exact exec_callFarMem_ok hl hx ((farCall_8086 (hk.transferProt.trans hp)).trans (far8086_call hroom hoff hpush))
    case ret =>
      have run (imm : Word) : farRet imm s = .ok () _ := (farRet_8086 hp).trans (farReturn8086_of_reads htop hoff hcs h)
      have same (n : Word) : ((u.dropStack n).setSeg .cs (u.load8086 u.cs (csImage.setWidth 16))).jump off =
          ((u.dropStack n).setSeg .cs (if (u.dropStack n).v86 then v86Load (csImage.setWidth 16)
            else realLoad (u.dropStack n).cs (csImage.setWidth 16))).jump off := by
        simp [State.load8086, State.v86, State.pe]
      refine ⟨(instr_ok hl (run 0)).trans ?_, fun imm => (instr_ok hl (run _)).trans ?_⟩
      · rw [Word.add_zero_lit, same]
      · rw [same]
  case direct =>
    intro target hoff jumps calls
    have hk := (Leaves.readDescriptor _).kept hr
    have htarget : t.target off = target := by
      unfold State.target
      rw [hk.osz32, low16_eq]
    have het : t.entersCode sel d := by
      unfold State.entersCode
      rw [hk.cpl]
      exact he
    refine far_forms hl (fun i run u hmark => run _ ?jump) fun i run p u htp hA hroom hpush hmark => run _ ?call
    case jump =>
      rw [farTransfer_prot (call := false) hp nofun, farTarget_code hn hr he.1, ← hk.cpl]
      refine untilMarked_mark (k := fun v => (v.withCode sel d t.cpl).jump target) (fun b => ?_) (fun _ _ => rfl) (fun _ => rfl) hmark
      refine (directCode_apply (s := t.withBus b) het).trans ?_
      rw [show (t.withBus b).target off = target from htarget]
      exact sameLevel_jump he.2.1 hoff _
    case call =>
      rw [farTransfer_prot hp fun _ => htp, farTarget_code hn hr he.1, untilMarked_apply hA, directCode_apply het, htarget, ← hk.cpl]
      rw [← hk.cs, ← hk.osz] at hpush
      rw [← hk.ss, ← hk.sp, ← hk.osz] at hroom
      refine sameLevel_call he.2.1 ?_ hoff hpush hmark
      rw [hk.prot, hp]
      exact hroom
  case sameReturn =>
    intro w sel htop hoff hcs hn hrpl hr hd hlimit hmark imm done
    have hk := ((Leaves.stackRead ..).kept hoff)
    have hk' := ((Leaves.stackRead ..).kept hcs)
    have hcpl : u.cpl = s.cpl := hk'.cpl.trans hk.cpl
    have hret := returnDescriptor_of_read hn (by rw [hrpl, hcpl]) hr hd
    have run (imm : Word) : farRet imm s = .ok () (((y.withCode sel d s.cpl).dropStack (BitVec.ofNat 32 (2 * w) + imm)).jump off) := by
      rw [farRet_prot hp, farReturn_of_reads htop hoff hcs hret, if_pos hrpl]
      refine (M.bind_of_ok (checkOffset_pass hlimit)).trans <| (M.bind_of_ok (loadCs_of_mark hmark)).trans ?_
      rw [hrpl]
      rfl
    refine ⟨(instr_ok hl (run 0)).trans ?_, instr_ok hl (run _)⟩
    rw [Word.add_zero_lit]
  case outerReturn =>
    intro w sel htop hoff hcs hn hlevel hr hd outer done
    have hk := ((Leaves.stackRead ..).kept hoff)
    have hk' := ((Leaves.stackRead ..).kept hcs)
    have hcpl : u.cpl = s.cpl := hk'.cpl.trans hk.cpl
    have hret := returnDescriptor_of_read hn (by rw [hcpl]; exact hlevel.le) hr hd
    have run (imm : Word) (h : outer (2 * w + imm.toNat) imm = .ok () y) : farRet imm s = .ok () y.clearRf := by
      rw [farRet_prot hp, farReturn_of_reads htop hoff hcs hret, if_neg fun e => hlevel.ne (congrArg BitVec.toNat e).symm]
      exact M.bind_of_ok h
    refine ⟨fun h => instr_ok hl (run 0 h), fun imm h => instr_ok hl (run _ ?_), fun hA frame imm => untilMarked_apply hA⟩
    rw [BitVec.toNat_setWidth_of_le (by decide)]
    exact h
  case gate =>
    intro through
    refine far_forms hl (fun i run _ h => run _ ?_) fun i run hc h => run _ ?_
    · rw [farTransfer_prot (call := false) hp nofun, farTarget_gate hn hr hg, h]
    · rw [farTransfer_prot hp fun _ => hc rfl, farTarget_gate hn hr hg, h]
  case task =>
    intro switches
    have hk := (Leaves.readDescriptor _).kept hr
    have run (he : r.eipNext = s.eipNext) (hf : r.flags = s.flags) (call : Bool) (i : Instr)
        (exec_i : ∀ v, farTransfer call sel off r = .ok () v → exec i s = .next v.complete) : switches (farKind call) i := by
      intro hcall
      have htarget : farTransfer call sel off r = farTarget call sel off r :=
        farTransfer_prot hp fun e => hcall (by rw [e]; rfl)
      refine ⟨fun hd hti h => exec_i _ ?tss, fun hd hti hgn hgr htd htp h => exec_i _ ?gate⟩
      case tss =>
        rw [htarget, farTarget_tss hn hr hd, toTss_apply (by rw [hk.cpl]; exact hc) hrpl hti hP,
          hk.eipNext, he, hk.flags, hf]
        exact h
      case gate =>
        have hkv := (Leaves.readDescriptor _).kept hgr
        rw [htarget, farTarget_taskGate hn hr hd,
          throughTaskGate_apply (by rw [hk.cpl]; exact hc) hrpl hP (gateTask_of_read hti hgn hgr htd htp), hkv.eipNext, hk.eipNext, he,
          hkv.flags, hk.flags, hf]
        exact h
    refine ⟨fun e => ?direct, fun x hx => ?indirect⟩
    case direct =>
      subst e
      exact ⟨run rfl rfl false _ fun _ h => exec_jmpFar_ok hl h, run rfl rfl true _ fun _ h => exec_callFar_ok hl h⟩
    case indirect =>
      have hx' := (Leaves.farPointer x).kept hx
      exact ⟨run hx'.eipNext hx'.flags false _ fun _ h => exec_jmpFarMem_ok hl hx h,
        run hx'.eipNext hx'.flags true _ fun _ h => exec_callFarMem_ok hl hx h⟩

end Sys2Proof.Machine
end

-- ==== Proofs: returns from interrupts ====
section
/-!
PROOFS. IRET in every mode, and what it loads into EFLAGS (48_interrupt_instructions.md R930 to R935; 60_exceptions.md R1084).
-/
namespace Sys2Proof.Machine

open Sys2Proof

/-! Which return it is. -/

section
variable {s u : State}

theorem iretBody_8086 (hp : s.transferProt = false) (hv : s.v86 = true → s.flags.iopl = 3) (h : iret8086 s = .ok () u) :
    iretBody s = .ok () { u with nmiInService := false } := by
  refine (M.get_bind _ s).trans <| (M.bind_of_ok (requireV86Iopl_ok.mpr ⟨hv, rfl⟩)).trans ?_
  rw [if_pos (by simp [hp])]
  exact M.bind_of_ok h

theorem State.v86_of_transferProt (hp : s.transferProt = true) : s.v86 = false := by
  have h := State.plain_of_transferProt hp
  simp [State.v86, h.vm]

theorem iretBody_task (hp : s.transferProt = true) (hn : s.flags.nt = true) (h : iretTask s = .ok () u) :
    iretBody s = .ok () { u with nmiInService := false } := by
  have hv := State.v86_of_transferProt hp
  refine (M.get_bind _ s).trans <| (M.bind_of_ok (requireV86Iopl_ok.mpr ⟨by simp [hv], rfl⟩)).trans ?_
  rw [if_neg (by simp [hp]), if_pos hn]
  exact M.bind_of_ok h

theorem iretBody_prot (hp : s.transferProt = true) (hn : s.flags.nt = false) (h : iretProt s = .ok () u) :
    iretBody s = .ok () { u with nmiInService := false } := by
  have hv := State.v86_of_transferProt hp
  refine (M.get_bind _ s).trans <| (M.bind_of_ok (requireV86Iopl_ok.mpr ⟨by simp [hv], rfl⟩)).trans ?_
  rw [if_neg (by simp [hp]), if_neg (by simp [hn])]
  exact M.bind_of_ok h

end

/-! The items of the frame. -/

theorem stackItems_cons {w i k : Nat} {v : Word} {rest : List Word} {s t : State} (h : stackItems w i (k + 1) s = .ok (v :: rest) t) :
    ∃ u, stackRead (i * w) w s = .ok v u ∧ stackItems w (i + 1) k u = .ok rest t := by
  obtain ⟨a, u, ha, h⟩ := M.bind_ok.mp h
  obtain ⟨b, x, hb, h⟩ := M.bind_ok.mp h
  cases h
  exact ⟨u, ha, hb⟩

theorem stackItems_nil {w i : Nat} {s t : State} (h : stackItems w i 0 s = .ok [] t) : t = s := by
  cases h
  rfl

/-- The three items with which every frame begins. -/
theorem stackItems_three {w k : Nat} {off csImage image : Word} {rest : List Word} {s t : State}
    (h : stackItems w 0 (k + 3) s = .ok (off :: csImage :: image :: rest) t) : ∃ a b c, stackRead 0 w s = .ok off a ∧
      stackRead w w a = .ok csImage b ∧ stackRead (2 * w) w b = .ok image c ∧ stackItems w 3 k c = .ok rest t := by
  obtain ⟨a, ha, h⟩ := stackItems_cons h
  obtain ⟨b, hb, h⟩ := stackItems_cons h
  obtain ⟨c, hc, h⟩ := stackItems_cons h
  rw [Nat.zero_mul] at ha
  rw [Nat.zero_add, Nat.one_mul] at hb
  exact ⟨a, b, c, ha, hb, hc, h⟩

/-! The returns. -/

theorem iret8086_of_reads {off csImage image : Word} {s t u v : State} (htop : s.limitViolated .ss s.sp (3 * s.osz.bytes) = false)
    (hoff : stackRead 0 s.osz.bytes s = .ok off t) (hcs : stackRead s.osz.bytes s.osz.bytes t = .ok csImage u)
    (hfl : stackRead (2 * s.osz.bytes) s.osz.bytes u = .ok image v) (h : off.toNat ≤ v.cs.limit.toNat) :
    iret8086 s = .ok () { ((v.dropStack (BitVec.ofNat 32 (3 * s.osz.bytes))).setSeg .cs
      (v.load8086 (v.dropStack (BitVec.ofNat 32 (3 * s.osz.bytes))).cs (csImage.setWidth 16))).transfer off with
        flags := v.loadFlags image s.osz32 } := by
  refine (M.get_bind _ s).trans <| (M.bind_of_ok (checkStackTop_pass htop)).trans <| (M.bind_of_ok hoff).trans <| (M.bind_of_ok hcs).trans <|
    (M.bind_of_ok hfl).trans <| (M.bind_of_ok (checkTarget_pass h)).trans ?_
  rw [show (v.dropStack (BitVec.ofNat 32 (3 * s.osz.bytes))).cs = v.cs by simp]
  rfl

theorem iretProt_of_reads {off csImage image : Word} {s t u v : State} (htop : s.limitViolated .ss s.sp (3 * s.osz.bytes) = false)
    (hoff : stackRead 0 s.osz.bytes s = .ok off t) (hcs : stackRead s.osz.bytes s.osz.bytes t = .ok csImage u)
    (hfl : stackRead (2 * s.osz.bytes) s.osz.bytes u = .ok image v) : iretProt s =
      (if s.osz.bytes = 4 ∧ image.getLsbD 17 = true ∧ s.cpl = 0 then iretV86 off csImage image
      else iretCode off csImage image s.osz.bytes) v :=
  (M.get_bind _ s).trans <| (M.bind_of_ok (checkStackTop_pass htop)).trans <| (M.bind_of_ok hoff).trans <| (M.bind_of_ok hcs).trans <|
    M.bind_of_ok hfl

/-- The six items of a frame of Virtual 8086 mode above the first three. -/
theorem iretV86_of_items {off csImage image esp ss es ds fs gs : Word} {s t : State} (htop : s.limitViolated .ss s.sp 36 = false)
    (h : stackItems 4 3 6 s = .ok [esp, ss, es, ds, fs, gs] t) :
    iretV86 off csImage image s = .ok () (t.enterV86 off csImage image esp ss es ds fs gs) := by
  obtain ⟨a, ha, h⟩ := stackItems_cons h
  obtain ⟨b, hb, h⟩ := stackItems_cons h
  obtain ⟨c, hc, h⟩ := stackItems_cons h
  obtain ⟨d, hd, h⟩ := stackItems_cons h
  obtain ⟨e, he, h⟩ := stackItems_cons h
  obtain ⟨f, hf, h⟩ := stackItems_cons h
  obtain rfl := stackItems_nil h
  exact (M.bind_of_ok (checkStackTop_pass htop)).trans <| (M.bind_of_ok ha).trans <| (M.bind_of_ok hb).trans <| (M.bind_of_ok hc).trans <|
    (M.bind_of_ok hd).trans <| (M.bind_of_ok he).trans (M.bind_of_ok hf)

section
variable {off csImage image : Word} {w : Nat} {s t u v : State} {d : Descriptor}

/-- To code of the same level. -/
theorem iretCode_same (hd : returnDescriptor (csImage.setWidth 16) s = .ok d u) (hs : rpl (csImage.setWidth 16) = s.cpl)
    (hoff : off.toNat ≤ d.limit.toNat) (hmark : markAccessed (csImage.setWidth 16) d u = .ok () v) :
    iretCode off csImage image w s = .ok () { ((v.withCode (csImage.setWidth 16) d s.cpl).dropStack (BitVec.ofNat 32 (3 * w))).transfer off with
      flags := s.loadFlags image (w == 4) } := by
  refine (M.get_bind _ s).trans <| (M.bind_of_ok hd).trans ?_
  rw [if_pos hs]
  refine (M.bind_of_ok (checkOffset_pass hoff)).trans <| (M.bind_of_ok (loadCs_of_mark hmark)).trans ?_
  rw [hs]
  rfl

/-- To an outer level. -/
theorem iretCode_outer (hd : returnDescriptor (csImage.setWidth 16) s = .ok d u) (hs : rpl (csImage.setWidth 16) ≠ s.cpl)
    (h : untilMarked d (returnOuter (csImage.setWidth 16) d off w (3 * w) 0) u = .ok () v) :
    iretCode off csImage image w s = .ok () { v with flags := s.loadFlags image (w == 4) } := by
  refine (M.get_bind _ s).trans <| (M.bind_of_ok hd).trans ?_
  rw [if_neg hs]
  exact M.bind_of_ok h

end

theorem iretTask_of_reads {link : Word} {d : Descriptor} {s t u v : State} (hlink : linRead s.tr.base 2 false s = .ok link t)
    (hti : selTI (link.setWidth 16) = false) (hn : selNull (link.setWidth 16) = false)
    (hread : readDescriptor (link.setWidth 16) t = .ok (some d) u) (hbusy : d.isBusyTss = true) (hp : arP d.ar = true)
    (h : taskSwitch (link.setWidth 16) d .iret s.eipNext s.flags.image u = .ok () v) : iretTask s = .ok () v :=
  (M.get_bind _ s).trans <| (M.bind_of_ok hlink).trans <| (M.check_bind (by rw [hti, hn]; rfl)).trans <|
    (M.bind_of_ok (needDescriptor_of_read hread)).trans <| (M.check_bind (by rw [hbusy]; rfl)).trans <|
    (M.check_bind (by rw [hp]; rfl)).trans h

theorem State.osz_bytes_eq_four (s : State) : s.osz.bytes = 4 ↔ s.osz32 = true := by
  unfold State.osz
  cases s.osz32 <;> decide

/-! EFLAGS. -/

theorem State.loadFlags_ifl (s : State) (image : Word) (rfOk : Bool) : (s.loadFlags image rfOk).ifl =
    if s.pe = false ∨ s.cpl.toNat ≤ s.flags.iopl.toNat then image.getLsbD 9 else s.flags.ifl := by
  simp [State.loadFlags, Flags.load, Flags.ofImage]

theorem State.loadFlags_iopl (s : State) (image : Word) (rfOk : Bool) : (s.loadFlags image rfOk).iopl =
    if s.pe = false ∨ (s.prot = true ∧ s.cpl = 0) then image.extractLsb' 12 2 else s.flags.iopl := by
  simp [State.loadFlags, Flags.load, Flags.ofImage]

/-- Settles O47: by the mode and NT one of four returns, each run to its end. -/
theorem interruptReturns : Obligations.InterruptReturns := by
  refine ⟨fun s t u v off csImage image hl hp hv => ?real, fun s t off cs image esp ss es ds fs gs hl hp hn hc hw htop htop' hitems hvm => ?v86,
    fun s t u v off csImage image d hl hp hn => ?code, fun s t u v link d hl hp hn => ?task, fun s image rfOk => ?flags⟩
  case real =>
    intro w htop hoff hcs hfl h
    refine (instr_ok hl (iretBody_8086 hp hv (iret8086_of_reads htop hoff hcs hfl h))).trans ?_
    rw [show (v.dropStack (BitVec.ofNat 32 (3 * s.osz.bytes))).cs = v.cs by simp]
    rfl
  case v86 =>
    have hbytes : s.osz.bytes = 4 := s.osz_bytes_eq_four.mpr hw
    obtain ⟨a, b, c, ha, hb, hcc, hrest⟩ := stackItems_three hitems
    have hka := (Leaves.stackRead ..).kept ha
    have hkb := (Leaves.stackRead ..).kept hb
    have hkc := (Leaves.stackRead ..).kept hcc
    have htopc : c.limitViolated .ss c.sp 36 = false := by
      rw [hkc.limitViolated, hkb.limitViolated, hka.limitViolated, hkc.sp, hkb.sp, hka.sp]
      exact htop'
    refine ⟨hvm, (instr_ok hl (iretBody_prot (u := t.enterV86 off cs image esp ss es ds fs gs) hp hn ?_)).trans rfl⟩
    rw [iretProt_of_reads (by rw [hbytes]; exact htop) (by rw [hbytes]; exact ha) (by rw [hbytes]; exact hb) (by rw [hbytes]; exact hcc),
      if_pos ⟨hbytes, hvm, hc⟩]
    exact iretV86_of_items htopc hrest
  case code =>
    intro w sel done htop hitems hnot hnull hlevel hread hd
    obtain ⟨a, b, c, ha, hb, hc, hnil⟩ := stackItems_three hitems
    obtain rfl := stackItems_nil hnil
    have hka := (Leaves.stackRead ..).kept ha
    have hkb := (Leaves.stackRead ..).kept hb
    have hkc := (Leaves.stackRead ..).kept hc
    have hcpl : t.cpl = s.cpl := by rw [hkc.cpl, hkb.cpl, hka.cpl]
    have hfl : t.loadFlags image (w == 4) = s.loadFlags image s.osz32 := by
      rw [hkc.loadFlags, hkb.loadFlags, hka.loadFlags, Bool.eq_iff_iff.mpr (beq_iff_eq.trans s.osz_bytes_eq_four)]
    have hret := returnDescriptor_of_read hnull (by rw [hcpl]; exact hlevel) hread hd
    have run {y : State} (h : iretCode off csImage image w t = .ok () y) : exec .iret s = .next { y with nmiInService := false }.complete := by
      refine instr_ok hl (iretBody_prot hp hn ?_)
      rw [iretProt_of_reads htop ha hb hc, if_neg (by rw [s.osz_bytes_eq_four]; exact hnot)]
      exact h
    refine ⟨fun hs hoff hmark => (run (iretCode_same hret (hs.trans hcpl.symm) hoff hmark)).trans ?_,
      fun hs h => (run (iretCode_outer hret (hcpl ▸ hs) h)).trans ?_, fun hA => untilMarked_apply hA⟩
    · rw [hfl, hcpl]
    · rw [hfl]
  case task =>
    intro sel hlink hti hnull hread hbusy hP h
    exact instr_ok hl (iretBody_task hp hn (iretTask_of_reads hlink hti hnull hread hbusy hP h))
  case flags =>
    intro f
    refine ⟨rfl, fun h => ?_, fun hp hlt => ?_, fun h => ?_, fun h => ?_⟩
    · exact (s.loadFlags_ifl ..).trans (if_pos h)
    · exact (s.loadFlags_ifl ..).trans (if_neg (not_or.mpr ⟨by simp [hp], by omega⟩))
    · exact (s.loadFlags_iopl ..).trans (if_pos h)
    · refine (s.loadFlags_iopl ..).trans (if_neg ?_)
      unfold State.v86 State.prot at *
      rcases h with h | ⟨h, hne⟩
      · simp_all
      · simp_all

end Sys2Proof.Machine
end

-- ==== Proofs: entries through gates ====
section
/-!
PROOFS. The entry to a handler in Protected and Virtual 8086 mode: its checks, what it pushes where, and the state at the handler
(60_exceptions.md R1066 to R1070; 21_protection.md R337, R343, R386, R387).
-/
namespace Sys2Proof.Machine

open Sys2Proof

/-! What every entry through a trap or interrupt gate keeps on its way to the handler. -/

/-- CR0, the tables, IOPL, and IF as far as an interrupt gate leaves it. -/
def State.entryKept (interruptGate : Bool) (s : State) : Word × TableReg × TableReg × SegReg × SegReg × BitVec 2 × Bool :=
  (s.cr0, s.gdtr, s.idtr, s.ldtr, s.tr, s.flags.iopl, s.flags.ifl && !interruptGate)

/-- What `entryKept` shows is as in `s`. -/
def EntryKept (s : State) (ig : Bool) (t : State) : Prop := t.entryKept ig = s.entryKept ig

protected theorem Leaves.entryKept {α : Type} {x : M α} (hx : Leaves State.unpushed x) {s : State} {ig : Bool} :
    Brings (EntryKept s ig) (EntryKept s ig) x :=
  (hx.of_unpushed (q := State.entryKept ig) fun _ => rfl).brings

/-- A change of the flags that an entry makes, of registers or of the level, on the way. -/
protected theorem Brings.modifyKept {s : State} {ig : Bool} {k : State → State} (h : ∀ t, (k t).entryKept ig = t.entryKept ig) :
    Brings (EntryKept s ig) (EntryKept s ig) (modify k : M Unit) := .modify fun t ht => (h t).trans ht

/-- The state at the handler: CS holds present code at the level `n`, within whose limit the gate's offset lies. -/
structure State.AtHandler (s : State) (g : Descriptor) (n : BitVec 2) (t : State) : Prop where
  kept : EntryKept s g.isInterruptGate t
  tf : t.flags.tf = false
  nt : t.flags.nt = false
  rf : t.flags.rf = false
  vm : t.flags.vm = false
  ifl : (t.flags.ifl && !g.isInterruptGate) = t.flags.ifl
  eip : t.eip = g.gateOffset g.isGate386
  cpl : t.cpl = n
  sel : t.cs.sel = withRpl g.gateSel n
  code : arE t.cs.ar = true
  segment : arS t.cs.ar = true
  present : arP t.cs.ar = true
  limit : t.eip.toNat ≤ t.cs.limit.toNat

theorem State.AtHandler.withBus {s t : State} {g : Descriptor} {n : BitVec 2} (h : s.AtHandler g n t) (b : List BusTurn) :
    s.AtHandler g n (t.withBus b) :=
  ⟨h.kept, h.tf, h.nt, h.rf, h.vm, h.ifl, h.eip, h.cpl, h.sel, h.code, h.segment, h.present, h.limit⟩

section
variable {e : Event} {savedEip : Word} {g c : Descriptor} {s : State}

protected theorem Brings.toHandler {n : BitVec 2} {off : Word} (hoff : off = g.gateOffset g.isGate386) (hcode : c.isCode = true)
    (hp : arP c.ar = true) (hl : off.toNat ≤ c.limit.toNat) :
    Brings (EntryKept s g.isInterruptGate) (s.AtHandler g n) (enterHandler g.gateSel c n off g.isInterruptGate) := by
  obtain ⟨hS, hE⟩ := Bool.and_eq_true_iff.mp hcode
  refine .seq (.seq (Leaves.entryKept (Leaves.markAccessed ..).access) (.modify (Q := fun t => EntryKept s g.isInterruptGate t ∧
    t.cpl = n ∧ t.cs = c.toSegReg (withRpl g.gateSel n)) fun t ht => ⟨ht, rfl, by simp [State.setSeg]⟩)) (.modify fun t ht => ?_)
  obtain ⟨hkept, hcpl, hcs⟩ := ht
  have hsel : t.cs.sel = withRpl g.gateSel n := by rw [hcs]; rfl
  have har : t.cs.ar = c.ar := by rw [hcs]; rfl
  refine ⟨?kept, rfl, rfl, rfl, rfl, ?ifl, hoff, hcpl, hsel, har ▸ hE, har ▸ hS, har ▸ hp, ?limit⟩
  case kept =>
    refine Eq.trans ?_ hkept
    simp [State.entryKept, Flags.entered]
  case ifl => simp [Flags.entered]
  case limit =>
    show off.toNat ≤ t.cs.limit.toNat
    rw [hcs]
    exact hl

/-- After the check of the gate's offset. -/
protected theorem Brings.checkOffset {α : Type} {P Q : State → Prop} {off : Word} {f : Unit → M α}
    (h : off.toNat ≤ c.limit.toNat → Brings P Q (f ())) :
    Brings P Q (checkOffset c off >>= f) :=
  .check fun hl => h (by simpa using hl)

protected theorem Brings.sameEntry {w : Nat} (hcode : c.isCode = true) (hp : arP c.ar = true) :
    Brings (EntryKept s g.isInterruptGate) (fun t => ∃ n, s.AtHandler g n t) (sameEntry e savedEip g c w) := by
  refine .get_bind fun u _ => .seq (Leaves.entryKept (Leaves.checkRoom ..).access) <| .checkOffset fun hl =>
    .seq (Leaves.entryKept (Leaves.pushAll ..)) ?_
  exact (Brings.toHandler rfl hcode hp hl).weaken fun _ h => ⟨_, h⟩

protected theorem Brings.innerEntry {w : Nat} (hcode : c.isCode = true) (hp : arP c.ar = true) :
    Brings (EntryKept s g.isInterruptGate) (fun t => ∃ n, s.AtHandler g n t) (innerEntry e savedEip g c w) := by
  refine .get_bind fun u _ => .bind (Leaves.entryKept (Leaves.innerStack _).access) fun x => .check fun _ => .checkOffset fun hl =>
    .seq (Leaves.entryKept (Leaves.loadStack ..)) <| .seq (.modifyKept fun _ => rfl) <| .seq (Leaves.entryKept (Leaves.pushAll ..)) ?_
  exact (Brings.toHandler rfl hcode hp hl).weaken fun _ h => ⟨_, h⟩

protected theorem Brings.v86Entry (hcode : c.isCode = true) (hp : arP c.ar = true) :
    Brings (EntryKept s g.isInterruptGate) (s.AtHandler g 0) (v86Entry e savedEip g c) := by
  refine .get_bind fun u _ => .check fun _ => ?_
  cases h386 : g.isGate386 with
  | false => exact ⟨fun _ h => nomatch h⟩
  | true =>
    refine .bind (Leaves.entryKept (Leaves.innerStack _).access) fun x => .check fun _ => .checkOffset fun hl =>
      .seq (.modifyKept fun _ => ?flags) <| .seq (Leaves.entryKept (Leaves.loadStack ..)) <| .seq (.modifyKept fun _ => rfl) <|
      .seq (Leaves.entryKept (Leaves.pushAll ..)) <| .seq (.modifyKept fun _ => rfl) <| .seq (Leaves.entryKept (Leaves.pushAll ..)) ?_
    case flags => simp [State.entryKept, Flags.entered]
    exact Brings.toHandler (by rw [h386]) hcode hp hl

/-- Every entry through a gate arrives at the handler, from Virtual 8086 mode at level 0. -/
theorem gateEntry_atHandler {t : State} (h : gateEntry e savedEip g s = .ok () t) :
    ∃ n, s.AtHandler g n t ∧ (s.v86 = true → n = 0) := by
  have run : Brings (fun u => u = s) (fun t => ∃ n, s.AtHandler g n t ∧ (s.v86 = true → n = 0)) (gateEntry e savedEip g) := by
    refine .get_bind fun u hu => .check fun _ => .bind (Q := EntryKept s g.isInterruptGate)
      ⟨fun hs h => (Leaves.entryKept Leaves.descriptor.access).ends (by rw [hs]; rfl) h⟩
      fun c => .check fun hcode => .check fun _ => .check fun hp => .untilMarked ?_ (fun _ _ h => h)
        fun _ b ⟨n, h, hn⟩ => ⟨n, h.withBus b, hn⟩
    rw [Bool.not_eq_false'] at hcode hp
    subst hu
    refine .ite (fun _ => ?v86) fun hv => .ite (fun _ => ?inner) fun _ => ?same
    case v86 => exact (Brings.v86Entry hcode hp).weaken fun _ h => ⟨0, h, fun _ => rfl⟩
    case inner => exact (Brings.innerEntry hcode hp).weaken fun _ ⟨n, h⟩ => ⟨n, h, fun k => absurd k hv⟩
    case same => exact (Brings.sameEntry hcode hp).weaken fun _ ⟨n, h⟩ => ⟨n, h, fun k => absurd k hv⟩
  exact run.ends rfl h

end

/-! The checks of the IDT's entry. -/

theorem entry_prot {e : Event} {savedEip : Word} {s : State} (h : s.entryProt e = true) : entry e savedEip s = protEntry e savedEip s := by
  refine (M.get_bind _ s).trans ?_
  rw [if_pos h]

theorem State.entryProt_iff (s : State) (e : Event) :
    s.entryProt e = true ↔ s.pe = true ∧ (e.kind ≠ .software ∨ s.v86 = true ∨ s.decodedProt = true) := by
  simp [State.entryProt, or_assoc]

section
variable {e : Event} {savedEip : Word} {g : Descriptor} {s t : State}

theorem protEntry_beyond (h : s.idtr.limit.toNat < e.vector.toNat * 8 + 7) :
    protEntry e savedEip s = .error (.exc ⟨13, vectorCode e.vector⟩ false) s := by
  refine (M.get_bind _ s).trans (M.bind_of_error ?_)
  rw [decide_eq_true h]
  rfl

/-- A check that fails. -/
theorem M.check_fail {α : Type} {c : Bool} {v : Byte} {code : Option Half} {f : Unit → M α} (h : c = true) :
    (raiseIf c (raise v code) >>= f) s = .error (.exc ⟨v, code⟩ false) s := by
  rw [h]
  rfl

/-- The checks of a gate that was read from the IDT (R1066). -/
theorem protEntry_of_read (h : e.vector.toNat * 8 + 7 ≤ s.idtr.limit.toNat)
    (hg : linDescriptor (s.idtr.base + BitVec.ofNat 32 (e.vector.toNat * 8)) s = .ok g t) :
    protEntry e savedEip s = (do
      raiseIf (!g.isIdtGate) (raise 13 (vectorCode e.vector))
      raiseIf (e.kind == .software && decide ((arDpl g.ar).toNat < s.cpl.toNat)) (raise 13 (vectorCode e.vector))
      raiseIf (!arP g.ar) (raise 11 (vectorCode e.vector))
      if g.system == some 5 then taskEntry e savedEip g else gateEntry e savedEip g : M Unit) t :=
  (M.get_bind _ s).trans <| (M.check_bind (decide_eq_false (by omega))).trans (M.bind_of_ok hg)

/-- The level that a software interrupt needs. -/
theorem softwareDenied_eq_false {p : Prop} [Decidable p] (h : e.kind ≠ .software ∨ ¬ p) : (e.kind == .software && decide p) = false := by
  rcases h with h | h
  · simp [h]
  · simp [h]

/-! A task gate. -/

theorem committed_ok {α : Type} {x : M α} {a : α} (h : x s = .ok a t) : committed x s = .ok a t := by
  unfold committed
  rw [h]

theorem taskEntry_of_switch {d : Descriptor} {u v : State} (hg : gateTask g.gateSel s = .ok d t)
    (hs : taskSwitch g.gateSel d .int savedEip s.flags.image t = .ok () u)
    (hr : u.ss.hasRoom u.sp (codeItems e.code).length (if d.isTss386 then 4 else 2) u.prot = true)
    (hp : pushAll (if d.isTss386 then 4 else 2) (codeItems e.code) u = .ok () v) : taskEntry e savedEip g s = .ok () v :=
  (M.get_bind _ s).trans <| (M.bind_of_ok hg).trans <| (M.bind_of_ok hs).trans <|
    committed_ok ((M.bind_of_ok (checkRoom_pass hr)).trans hp)

theorem pushAll_single {w : Nat} {v : Word} (h : push v w s = .ok () t) : pushAll w [v] s = .ok () t := M.bind_of_ok h

end

/-! What is pushed, and where the entry ends. -/

section
variable {e : Event} {savedEip : Word} {g c : Descriptor} {n : BitVec 2} {w : Nat} {s p u : State}

theorem checkNewRoom_pass {r : SegReg} {newEsp : Word} {k w : Nat} (h : r.hasRoom (if arD r.ar then newEsp else low16 newEsp) k w true = true) :
    checkNewRoom r newEsp k w s = .ok () s := by
  unfold checkNewRoom
  rw [h]
  rfl

theorem enterHandler_of_mark {off : Word} {ig : Bool} (h : markAccessed g.gateSel c s = .ok () u) :
    enterHandler g.gateSel c n off ig s = .ok () { u.withCode g.gateSel c n with eip := off, flags := u.flags.entered ig } :=
  M.bind_of_ok (loadCs_of_mark h)

/-- The items that every entry pushes last. -/
def State.entryFrame (s : State) (e : Event) (savedEip : Word) : List Word :=
  [s.entryImage e, s.cs.sel.setWidth 32, savedEip] ++ codeItems e.code

/-- The old stack, pushed before them at an inner level. -/
def State.outerItems (s : State) : List Word := [s.ss.sel.setWidth 32, s.regs.esp]

/-- The data segments of Virtual 8086 mode, pushed first. -/
def State.segmentItems (s : State) : List Word := [s.gs.sel.setWidth 32, s.fs.sel.setWidth 32, s.ds.sel.setWidth 32, s.es.sel.setWidth 32]

theorem sameEntry_of_steps (hr : s.ss.hasRoom s.sp (s.entryFrame e savedEip).length w s.prot = true)
    (hoff : (g.gateOffset g.isGate386).toNat ≤ c.limit.toNat) (hp : pushAll w (s.entryFrame e savedEip) s = .ok () p)
    (hm : markAccessed g.gateSel c p = .ok () u) : sameEntry e savedEip g c w s = .ok ()
      { u.withCode g.gateSel c s.cpl with eip := g.gateOffset g.isGate386, flags := u.flags.entered g.isInterruptGate } :=
  (M.get_bind _ s).trans <| (M.bind_of_ok (checkRoom_pass hr)).trans <| (M.bind_of_ok (checkOffset_pass hoff)).trans <|
    (M.bind_of_ok hp).trans (enterHandler_of_mark hm)

theorem innerEntry_of_steps {a b : State} {ssel : Half} {sd : Descriptor} {newEsp : Word}
    (hs : innerStack (arDpl c.ar) s = .ok (ssel, sd, newEsp) a)
    (hr : (sd.toSegReg ssel).hasRoom (if arD sd.ar then newEsp else low16 newEsp) (s.outerItems ++ s.entryFrame e savedEip).length w true = true)
    (hoff : (g.gateOffset g.isGate386).toNat ≤ c.limit.toNat) (hl : loadStack ssel sd a = .ok () b)
    (hp : pushAll w (s.outerItems ++ s.entryFrame e savedEip) { b.setReg .b32 .esp newEsp with cpl := arDpl c.ar } = .ok () p)
    (hm : markAccessed g.gateSel c p = .ok () u) : innerEntry e savedEip g c w s = .ok ()
      { u.withCode g.gateSel c (arDpl c.ar) with eip := g.gateOffset g.isGate386, flags := u.flags.entered g.isInterruptGate } :=
  (M.get_bind _ s).trans <| (M.bind_of_ok hs).trans <| (M.bind_of_ok (checkNewRoom_pass hr)).trans <|
    (M.bind_of_ok (checkOffset_pass hoff)).trans <| (M.bind_of_ok hl).trans <| (M.modify_bind _ _ b).trans <|
    (M.bind_of_ok hp).trans (enterHandler_of_mark hm)

theorem v86Entry_of_steps {a b x : State} {ssel : Half} {sd : Descriptor} {newEsp : Word} (hC : arC c.ar = false) (hdpl : arDpl c.ar = 0)
    (h386 : g.isGate386 = true) (hs : innerStack 0 s = .ok (ssel, sd, newEsp) a)
    (hr : (sd.toSegReg ssel).hasRoom (if arD sd.ar then newEsp else low16 newEsp)
      (s.segmentItems ++ s.outerItems ++ s.entryFrame e savedEip).length 4 true = true)
    (hoff : (g.gateOffset g.isGate386).toNat ≤ c.limit.toNat)
    (hl : loadStack ssel sd { a with flags := a.flags.entered g.isInterruptGate, cpl := 0 } = .ok () b)
    (hx : pushAll 4 s.segmentItems (b.setReg .b32 .esp newEsp) = .ok () x)
    (hp : pushAll 4 (s.outerItems ++ s.entryFrame e savedEip)
      { x with gs := x.gs.nulled, fs := x.fs.nulled, ds := x.ds.nulled, es := x.es.nulled } = .ok () p)
    (hm : markAccessed g.gateSel c p = .ok () u) : v86Entry e savedEip g c s = .ok ()
      { u.withCode g.gateSel c 0 with eip := g.gateOffset g.isGate386, flags := u.flags.entered g.isInterruptGate } := by
  rw [List.append_assoc] at hr
  rw [h386] at hoff ⊢
  refine (M.get_bind _ s).trans <| (M.check_bind (by rw [hC, hdpl]; rfl)).trans ?_
  rw [h386]
  exact (M.bind_of_ok hs).trans <| (M.bind_of_ok (checkNewRoom_pass hr)).trans <|
    (M.bind_of_ok (checkOffset_pass hoff)).trans <| (M.modify_bind _ _ a).trans <| (M.bind_of_ok hl).trans <| (M.modify_bind _ _ b).trans <|
    (M.bind_of_ok hx).trans <| (M.modify_bind _ _ x).trans <| (M.bind_of_ok hp).trans (enterHandler_of_mark hm)

/-- The checks of the code segment that a gate names (R1066). -/
theorem gateEntry_of_read {t : State} (hn : selNull g.gateSel = false) (hread : readDescriptor g.gateSel s = .ok (some c) t)
    (hcode : c.isCode = true) (hP : arP c.ar = true) (hl : (arDpl c.ar).toNat ≤ s.cpl.toNat) (hA : arA c.ar = true ∨ t.bus = []) :
    gateEntry e savedEip g s = (if s.v86 then v86Entry e savedEip g c
      else if !arC c.ar && decide ((arDpl c.ar).toNat < s.cpl.toNat) then innerEntry e savedEip g c (if g.isGate386 then 4 else 2)
      else sameEntry e savedEip g c (if g.isGate386 then 4 else 2)) t :=
  (M.get_bind _ s).trans <| (M.check_bind hn).trans <| (M.bind_of_ok (needDescriptor_of_read hread)).trans <|
    (M.check_bind (by rw [hcode]; rfl)).trans <| (M.check_bind (decide_eq_false (by omega))).trans <|
    (M.check_bind (by rw [hP]; rfl)).trans (untilMarked_apply hA)

end

/-- What an access leaves of what an entry pushes. -/
theorem State.AccessKept.items {s t : State} (h : s.AccessKept t) (e : Event) (savedEip : Word) :
    t.entryFrame e savedEip = s.entryFrame e savedEip ∧ t.outerItems = s.outerItems ∧ t.segmentItems = s.segmentItems := by
  unfold State.entryFrame State.outerItems State.segmentItems State.entryImage
  rw [h.flags, h.cs, h.ss, h.regs, h.gs, h.fs, h.ds, h.es]
  exact ⟨rfl, rfl, rfl⟩

/-- Settles O49: the checks in their order, what every entry keeps, and each entry run step by step. (`gateEntry` is the model's.) -/
theorem gateEntryHolds : Obligations.GateEntry := by
  refine ⟨fun s e => ⟨s.entryProt_iff e, fun hp hq => by rw [State.entryProt_of_none hq, hp]⟩, fun s t e savedEip g hp h => ?after,
    fun s t e savedEip g hp => ⟨fun h => (entry_prot hp).trans (protEntry_beyond h), fun hl hg => ?checks⟩,
    fun s t u v e savedEip g d hti hn hread hd hP hs => ?task, fun s t p u e savedEip g c hpe hn hread hcode hP hl hA => ?frames⟩
  case after =>
    obtain ⟨n, h, hn⟩ := gateEntry_atHandler h
    have hkept := h.kept
    unfold EntryKept State.entryKept at hkept
    rw [h.ifl] at hkept
    simp only [Prod.mk.injEq] at hkept
    obtain ⟨hcr0, hgdtr, hidtr, hldtr, htr, hiopl, hifl⟩ := hkept
    exact ⟨h.tf, h.nt, h.rf, h.vm, hifl, hiopl, h.eip, h.cpl.symm ▸ h.sel, h.code, h.segment, h.present, h.limit,
      fun hv => h.cpl.trans (hn hv), hcr0, hgdtr, hidtr, hldtr, htr⟩
  case checks =>
    have run := (entry_prot (savedEip := savedEip) hp).trans (protEntry_of_read hl hg)
    refine ⟨fun hg => run.trans (M.check_fail (by rw [hg]; rfl)), fun hg hk hlt => run.trans ?dpl, fun hg hk hP => run.trans ?absent,
      fun hg hk hP => run.trans ?enter⟩
    all_goals refine (M.check_bind (by rw [hg]; rfl)).trans ?_
    case dpl => exact M.check_fail (by rw [hk, decide_eq_true hlt]; rfl)
    all_goals refine (M.check_bind (softwareDenied_eq_false (hk.imp_right Nat.not_lt.mpr))).trans ?_
    case absent => exact M.check_fail (by rw [hP]; rfl)
    case enter =>
      refine (M.check_bind (by rw [hP]; rfl)).trans ?_
      by_cases h5 : g.system = some 5
      · rw [if_pos h5, if_pos (by simpa using h5)]
      · rw [if_neg h5, if_neg (by simpa using h5)]
  case task =>
    intro w
    have hg := gateTask_of_read hti hn hread hd hP
    refine ⟨fun hc => taskEntry_of_switch hg hs ?_ ?_, fun x hc hr hpush => taskEntry_of_switch hg hs ?_ ?_⟩
    all_goals rw [hc]
    · rfl
    · rfl
    · exact hr
    · exact pushAll_single hpush
  case frames =>
    intro w off code frame outer segments enters room
    have hk := (Leaves.readDescriptor _).kept hread
    obtain ⟨hframe, houter, hsegments⟩ := hk.items e savedEip
    have hcode' : codeItems e.code = code := by
      unfold codeItems
      rfl
    have hf : t.entryFrame e savedEip = frame := hframe.trans (by unfold State.entryFrame; rw [hcode']; rfl)
    have ho : t.outerItems = outer := houter
    have hsg : t.segmentItems = segments := hsegments
    have run := gateEntry_of_read (e := e) (savedEip := savedEip) hn hread hcode hP hl hA
    refine ⟨fun hv hsame hr hp hoff hm => ?same, fun a b ssel sd newEsp hv hC hlt hst hr hld hp hoff hm => ?inner,
      fun a b x ssel sd newEsp hv h386 hC hdpl hst hr hld hx hp hoff hm => ?v86⟩
    case same =>
      have hprot : t.prot = true := by
        rw [hk.prot]
        unfold State.v86 at hv
        unfold State.prot
        simp_all
      rw [run, if_neg (by simp [hv]), if_neg (by rcases hsame with h | h <;> simp [h]), ← hk.cpl]
      exact sameEntry_of_steps (by rw [hf, hprot]; exact hr) hoff (by rw [hf]; exact hp) hm
    case inner =>
      rw [run, if_neg (by simp [hv]), if_pos (by simp [hC, hlt])]
      exact innerEntry_of_steps hst (by rw [hf, ho]; exact hr) hoff hld (by rw [hf, ho]; exact hp) hm
    case v86 =>
      have hw : w = 4 := if_pos h386
      rw [hw] at hx hp
      simp only [room, hw] at hr
      rw [run, if_pos hv]
      exact v86Entry_of_steps hC hdpl h386 hst (by rw [hf, ho, hsg]; exact hr) hoff hld (by rw [hsg]; exact hx) (by rw [hf, ho]; exact hp) hm

end Sys2Proof.Machine
end

-- ==== Proofs: items of a TSS ====
section
/-!
PROOFS. Items that stand beside one another at offsets of a TSS, written and read with paging off and no other bus master (21_protection.md
R381, R382, R387; 20_memory.md R208).
-/
namespace Sys2Proof.Machine

open Sys2Proof

/-! Addresses within 2^20 bytes of one another name different bytes, whether A20 is masked or not. -/

theorem State.physKey_mod (s : State) (pa : Word) : s.physKey pa % 2 ^ 20 = pa.toNat % 2 ^ 20 := by
  unfold State.physKey
  have hmask : (if s.platform.a20Wrap then 0xEFFFFF else 0xFFFFFF : BitVec 24).toNat % 2 ^ 20 = 2 ^ 20 - 1 := by split <;> rfl
  rw [BitVec.toNat_and, BitVec.toNat_setWidth, Nat.and_mod_two_pow, hmask, Nat.and_two_pow_sub_one_eq_mod]
  omega

theorem State.physKey_inj (s : State) {base : Word} {i j : Nat} (hi : i < 2 ^ 20) (hj : j < 2 ^ 20)
    (h : s.physKey (base + BitVec.ofNat 32 i) = s.physKey (base + BitVec.ofNat 32 j)) : i = j := by
  have hmod := congrArg (· % 2 ^ 20) h
  simp only [State.physKey_mod, BitVec.toNat_add, BitVec.toNat_ofNat] at hmod
  omega

/-- The bytes of an item of `nb` bytes at the offset `off` of `base`. -/
def State.itemKeys (s : State) (base : Word) (off nb : Nat) : List Nat := s.physKeys (base + BitVec.ofNat 32 off) nb

theorem State.mem_itemKeys {s : State} {base : Word} {off nb k : Nat} :
    k ∈ s.itemKeys base off nb ↔ ∃ i, off ≤ i ∧ i < off + nb ∧ k = s.physKey (base + BitVec.ofNat 32 i) := by
  have hadd (j : Nat) : base + BitVec.ofNat 32 off + BitVec.ofNat 32 j = base + BitVec.ofNat 32 (off + j) := by
    rw [BitVec.add_assoc, BitVec.ofNat_add]
  unfold State.itemKeys State.physKeys
  simp only [List.mem_map, List.mem_range, hadd]
  constructor
  · rintro ⟨j, hj, rfl⟩
    exact ⟨off + j, by omega, by omega, rfl⟩
  · rintro ⟨i, h1, h2, rfl⟩
    exact ⟨i - off, by omega, by rw [Nat.add_sub_cancel' h1]⟩

theorem State.itemKeys_nodup (s : State) (base : Word) {off nb : Nat} (h : off + nb ≤ 2 ^ 20) : (s.itemKeys base off nb).Nodup := by
  have hadd (j : Nat) : base + BitVec.ofNat 32 off + BitVec.ofNat 32 j = base + BitVec.ofNat 32 (off + j) := by
    rw [BitVec.add_assoc, BitVec.ofNat_add]
  refine List.Nodup.map_on (fun i hi j hj hk => ?_) List.nodup_range
  have hi := List.mem_range.mp hi
  have hj := List.mem_range.mp hj
  rw [hadd, hadd] at hk
  have := s.physKey_inj (by omega) (by omega) hk
  omega

/-- Items whose offsets do not overlap have no byte in common. -/
theorem State.itemKeys_disjoint (s : State) (base : Word) {off nb off' nb' : Nat} (h : off + nb ≤ off') (h' : off' + nb' ≤ 2 ^ 20) {k : Nat}
    (hk : k ∈ s.itemKeys base off nb) : k ∉ s.itemKeys base off' nb' := by
  obtain ⟨i, -, hi, rfl⟩ := State.mem_itemKeys.mp hk
  intro hk'
  obtain ⟨j, hj, hj', he⟩ := State.mem_itemKeys.mp hk'
  have := s.physKey_inj (by omega) (by omega) he
  omega

theorem State.itemKeys_subset (s : State) (base : Word) {off nb off' nb' : Nat} (h : off' ≤ off) (h' : off + nb ≤ off' + nb') {k : Nat}
    (hk : k ∈ s.itemKeys base off nb) : k ∈ s.itemKeys base off' nb' := by
  obtain ⟨i, h1, h2, rfl⟩ := State.mem_itemKeys.mp hk
  exact State.mem_itemKeys.mpr ⟨i, by omega, by omega, rfl⟩

/-! The writes. -/

/-- The state with the items stored, one after the other. -/
def State.stored (s : State) (base : Word) : List (Nat × Nat × Word) → State
  | [] => s
  | (off, nb, v) :: rest => (s.writeKeys (s.itemKeys base off nb) v).stored base rest

theorem State.writeKeys_itemKeys (s : State) (keys : List Nat) (v : Word) (base : Word) (off nb : Nat) :
    (s.writeKeys keys v).itemKeys base off nb = s.itemKeys base off nb := by
  rw [State.writeKeys_eq]
  rfl

theorem State.stored_itemKeys (s : State) (base b : Word) (items : List (Nat × Nat × Word)) (off nb : Nat) :
    (s.stored base items).itemKeys b off nb = s.itemKeys b off nb := by
  induction items generalizing s with
  | nil => rfl
  | cons x rest ih => exact (ih _).trans (s.writeKeys_itemKeys ..)

theorem State.stored_memWf {s : State} {base : Word} {items : List (Nat × Nat × Word)} (h : memWf s.mem) : memWf (s.stored base items).mem := by
  induction items generalizing s with
  | nil => exact h
  | cons x rest ih => exact ih (State.writeKeys_memWf _ _ _ h (s.inMemory_physKeys _ _))

theorem writeItems_unpaged {s : State} (hp : s.pg = false) (hb : s.bus = []) (base : Word) (items : List (Nat × Nat × Word)) :
    writeItems base items s = .ok () (s.stored base items) := by
  induction items generalizing s with
  | nil => rfl
  | cons x rest ih =>
    obtain ⟨off, nb, v⟩ := x
    refine (M.bind_of_ok (linWrite_unpaged hp (busTurn_nil hb))).trans (ih ?_ ?_)
    · rw [State.writeKeys_eq]
      exact hp
    · rw [State.writeKeys_eq]
      exact hb

/-- What stands beside all of the items reads as before. -/
theorem State.stored_byte {s : State} {base : Word} {items : List (Nat × Nat × Word)} {k : Nat}
    (h : ∀ x ∈ items, k ∉ s.itemKeys base x.1 x.2.1) : (s.stored base items).byte k = s.byte k := by
  induction items generalizing s with
  | nil => rfl
  | cons x rest ih =>
    have hx := h x List.mem_cons_self
    refine (ih fun y hy => ?_).trans (State.byte_writeKeys_notMem _ _ _ _ hx)
    rw [State.writeKeys_itemKeys]
    exact h y (List.mem_cons_of_mem _ hy)

/-- Items in rising order that do not overlap, all within 2^20 bytes. -/
def Laid (items : List (Nat × Nat × Word)) : Prop :=
  items.Pairwise (fun x y => x.1 + x.2.1 ≤ y.1) ∧ ∀ x ∈ items, x.1 + x.2.1 ≤ 2 ^ 20

/-- Each of them is read back, as many bytes of it as were stored. -/
theorem State.stored_item {s : State} {base : Word} {items : List (Nat × Nat × Word)} (hs : memWf s.mem) (hl : Laid items)
    {x : Nat × Nat × Word} (hx : x ∈ items) : (s.stored base items).readKeys (s.itemKeys base x.1 x.2.1) =
      x.2.2 &&& BitVec.ofNat 32 (2 ^ (8 * x.2.1) - 1) := by
  induction items generalizing s with
  | nil => exact absurd hx List.not_mem_nil
  | cons y rest ih =>
    obtain ⟨hpair, hwithin⟩ := hl
    obtain ⟨hfirst, hrest⟩ := List.pairwise_cons.mp hpair
    have hwf : memWf (s.writeKeys (s.itemKeys base y.1 y.2.1) y.2.2).mem := State.writeKeys_memWf _ _ _ hs (s.inMemory_physKeys _ _)
    rcases List.mem_cons.mp hx with rfl | hx
    · have hlater : ∀ k ∈ s.itemKeys base x.1 x.2.1, ((s.writeKeys (s.itemKeys base x.1 x.2.1) x.2.2).stored base rest).byte k =
          (s.writeKeys (s.itemKeys base x.1 x.2.1) x.2.2).byte k := fun k hk => State.stored_byte fun z hz => by
        rw [State.writeKeys_itemKeys]
        exact s.itemKeys_disjoint base (hfirst z hz) (hwithin z (List.mem_cons_of_mem _ hz)) hk
      have hread := State.readKeys_writeKeys (keys := s.itemKeys base x.1 x.2.1) (v := x.2.2) hs (s.inMemory_physKeys _ _)
        (s.itemKeys_nodup base (hwithin x List.mem_cons_self))
      rw [show (s.itemKeys base x.1 x.2.1).length = x.2.1 from (s.physKeys_spec ..).2] at hread
      refine Eq.trans ?_ hread
      exact congrArg littleEndian (List.map_congr_left hlater)
    · have h := ih hwf ⟨hrest, fun z hz => hwithin z (List.mem_cons_of_mem _ hz)⟩ hx
      rw [State.writeKeys_itemKeys] at h
      exact h

/-! The reads. -/

/-- The item of `nb` bytes at the offset `off` of `base`. -/
def State.item (s : State) (base : Word) (off nb : Nat) : Word := s.readKeys (s.itemKeys base off nb)

theorem linRead_item {s : State} (hp : s.pg = false) (hb : s.bus = []) (base : Word) (off nb : Nat) :
    linRead (base + BitVec.ofNat 32 off) nb false s = .ok (s.item base off nb) s := linRead_unpaged hp (busTurn_nil hb)

theorem readItems_unpaged {s : State} (hp : s.pg = false) (hb : s.bus = []) (base : Word) (nb : Nat) (offs : List Nat) :
    readItems base nb offs s = .ok (offs.map fun off => s.item base off nb) s := by
  induction offs with
  | nil => rfl
  | cons off rest ih => exact (M.bind_of_ok (linRead_item hp hb base off nb)).trans (M.bind_of_ok ih)

end Sys2Proof.Machine
end

-- ==== Proofs: the task switch ====
section
/-!
PROOFS. What a task switch saves, marks and loads (21_protection.md R381, R382, R387, R389, R391).
-/
namespace Sys2Proof.Machine

open Sys2Proof

/-! Leaving the old task. -/

theorem committed_eq_ok {α : Type} {x : M α} {s t : State} {a : α} : committed x s = .ok a t ↔ x s = .ok a t := by
  unfold committed
  cases x s with
  | ok b u => exact Iff.rfl
  | error e u => cases e <;> exact ⟨nofun, nofun⟩

/-- A task switch that completes has left the old task and entered the new one. -/
theorem taskSwitch_ok {nsel : Half} {d : Descriptor} {kind : SwitchKind} {eip image : Word} {s t : State}
    (h : taskSwitch nsel d kind eip image s = .ok () t) :
    ∃ e, lockedIf (kind != .iret) (leaveTask nsel d kind eip image) s = .ok () e ∧ enterTask nsel d kind e = .ok () t := by
  unfold taskSwitch at h
  obtain ⟨_, u, h1, hrest⟩ := M.bind_ok.mp h
  obtain ⟨-, rfl⟩ := (raiseIf_ok (by intro _ h; cases h)).mp h1
  obtain ⟨_, e, h2, h3⟩ := M.bind_ok.mp hrest
  exact ⟨e, h2, committed_eq_ok.mp h3⟩

/-- The steps in which the old task is left. -/
theorem leaveTask_ok {nsel : Half} {d : Descriptor} {kind : SwitchKind} {eip image : Word} {s e : State}
    (h : leaveTask nsel d kind eip image s = .ok () e) : ∃ v z a b c, linRead d.base 2 false s = .ok v z ∧
      saveTask eip (if kind = .iret then image &&& ~~~ 0x4000 else image) z = .ok () a ∧
      (if kind = .jmp ∨ kind = .iret then writeAccessByte s.tr.sel 0 2 a = .ok () b else b = a) ∧
      (if kind = .call ∨ kind = .int then linWrite d.base 2 (s.tr.sel.setWidth 32) false b = .ok () c else c = b) ∧
      (if kind = .iret then e = c else writeAccessByte nsel 2 0 c = .ok () e) := by
  unfold leaveTask at h
  rw [M.get_bind] at h
  obtain ⟨v, z, hv, h⟩ := M.bind_ok.mp h
  obtain ⟨_, a, ha, h⟩ := M.bind_ok.mp h
  cases kind with
  | jmp =>
    obtain ⟨_, b, hb, h⟩ := M.bind_ok.mp h
    exact ⟨v, z, a, b, b, hv, ha, hb, rfl, h⟩
  | call | int =>
    obtain ⟨_, c, hc, h⟩ := M.bind_ok.mp h
    exact ⟨v, z, a, a, c, hv, ha, rfl, hc, h⟩
  | iret =>
    obtain ⟨_, b, hb, hend⟩ := M.bind_ok.mp h
    cases hend
    exact ⟨v, z, a, e, e, hv, ha, hb, rfl, rfl⟩

/-- A page fault at the start of the new TSS comes before anything is saved. -/
theorem taskSwitch_absent {nsel : Half} {d : Descriptor} {kind : SwitchKind} {eip image : Word} {s e : State} {x : Stop} (hb : s.bus = [])
    (hl : tssTooSmall d.isTss386 d.limit.toNat = false) (h : linRead d.base 2 false s = .error x e) :
    taskSwitch nsel d kind eip image s = .error x e :=
  (M.check_bind hl).trans (M.bind_of_error ((lockedIf_of_nil hb _ _).trans ((M.get_bind _ s).trans (M.bind_of_error h))))

/-! The save. -/

section
variable {s t : State} {eip image : Word}

theorem saveTask_386 (hp : s.pg = false) (hb : s.bus = []) (hk : s.tr.isTss286 = false) (h : saveTask eip image s = .ok () t) :
    t = s.stored s.tr.base (s.saved386 eip image) := by
  have hrun : saveTask eip image s = _ := (M.get_bind _ s).trans (writeItems_unpaged hp hb _ _)
  rw [hk, if_neg (by decide), h] at hrun
  cases hrun
  rfl

theorem saveTask_286 (hp : s.pg = false) (hb : s.bus = []) (hk : s.tr.isTss286 = true) (h : saveTask eip image s = .ok () t) :
    t = s.stored s.tr.base (s.saved286 eip image) := by
  have hrun : saveTask eip image s = _ := (M.get_bind _ s).trans (writeItems_unpaged hp hb _ _)
  rw [hk, if_pos rfl, h] at hrun
  cases hrun
  rfl

theorem saved386_laid : Laid (s.saved386 eip image) := by
  unfold Laid State.saved386
  exact ⟨by simp, by simp⟩

theorem saved286_laid : Laid (s.saved286 eip image) := by
  unfold Laid State.saved286
  exact ⟨by simp, by simp⟩

/-- The 386 items lie from 20H to 5FH. -/
theorem saved386_within : ∀ x ∈ s.saved386 eip image, 0x20 ≤ x.1 ∧ x.1 + x.2.1 ≤ 0x20 + 0x40 := by
  simp [State.saved386]

/-- The 286 items lie from 0EH to 29H. -/
theorem saved286_within : ∀ x ∈ s.saved286 eip image, 0x0E ≤ x.1 ∧ x.1 + x.2.1 ≤ 0x0E + 0x1C := by
  simp [State.saved286]

end

/-- A saved dword is read back as it is, a saved word as its low 16 bits. -/
theorem State.stored_read {s : State} {base : Word} {items : List (Nat × Nat × Word)} (hs : memWf s.mem) (hl : Laid items) {off nb : Nat}
    {v : Word} (hx : (off, nb, v) ∈ items) :
    (s.stored base items).item base off nb = v &&& BitVec.ofNat 32 (2 ^ (8 * nb) - 1) := by
  unfold State.item
  rw [State.stored_itemKeys]
  exact State.stored_item (x := (off, nb, v)) hs hl hx

theorem Word.and_dword (v : Word) : v &&& BitVec.ofNat 32 (2 ^ (8 * 4) - 1) = v :=
  (congrArg (v &&& ·) (by decide : BitVec.ofNat 32 (2 ^ (8 * 4) - 1) = BitVec.allOnes 32)).trans BitVec.and_allOnes

theorem Half.and_word (v : Half) : v.setWidth 32 &&& BitVec.ofNat 32 (2 ^ (8 * 2) - 1) = v.setWidth 32 := by
  apply BitVec.eq_of_toNat_eq
  have := v.isLt
  rw [BitVec.toNat_and, BitVec.toNat_setWidth, BitVec.toNat_ofNat, show (2 ^ (8 * 2) - 1) % 2 ^ 32 = 2 ^ 16 - 1 from rfl,
    Nat.and_two_pow_sub_one_eq_mod]
  omega

/-! The busy bit. -/

theorem writeAccessByte_unpaged {s t : State} {sel : Half} {la set clear : Word} (hp : s.pg = false) (hb : s.bus = [])
    (hla : s.descriptorAt sel = some la) (h : writeAccessByte sel set clear s = .ok () t) :
    t = s.putByte (s.physKey (la + 5)) ((s.byte (s.physKey (la + 5)) ||| set.setWidth 8) &&& ~~~ clear.setWidth 8) := by
  have hkeys : s.physKeys (la + 5) 1 = [s.physKey (la + 5)] := by simp [State.physKeys]
  have hrun : writeAccessByte sel set clear s = .ok () (s.writeKeys [s.physKey (la + 5)]
      ((s.readKeys [s.physKey (la + 5)] ||| set) &&& ~~~ clear)) := by
    refine (M.get_bind _ s).trans ?_
    rw [hla]
    refine (locked_of_nil hb _).trans (M.bind_of_ok ?_)
    rw [linKeys_unpaged hp (busTurn_nil hb), hkeys]
  rw [h] at hrun
  cases hrun
  show s.putByte _ _ = _
  have hbyte (b : Byte) : (littleEndian [b]).setWidth 8 = b := by simp [littleEndian]
  rw [BitVec.setWidth_and, BitVec.setWidth_or, BitVec.setWidth_not (by decide)]
  show s.putByte _ (((littleEndian [s.byte _]).setWidth 8 ||| _) &&& _) = _
  rw [hbyte]

/-! The segment registers of the new task. -/

/-- The state without what the loads of LDTR and of the segment registers may change. -/
def State.unloaded (s : State) : State :=
  { s.unaccessed with
    ldtr := State.reset.ldtr, es := State.reset.es, cs := State.reset.cs, ss := State.reset.ss, ds := State.reset.ds
    fs := State.reset.fs, gs := State.reset.gs, cpl := State.reset.cpl }

/-- On the way through the loads: the rest of the state is that of `k`, LDTR and the segment registers hold the selectors `l` and `x`, loaded
or not yet loaded, those with a null selector are not valid, and the level is `n`. -/
structure State.Loading (k : State) (l : Half) (x : Seg → Half) (n : BitVec 2) (s : State) : Prop where
  rest : s.unloaded = k.unloaded
  ldt : s.ldtr.sel = l
  sel : ∀ g, (s.seg g).sel = x g
  null : ∀ g, selNull (x g) = true → (s.seg g).valid = false
  cpl : s.cpl = n

section
variable {k s t : State} {l sel : Half} {x : Seg → Half} {n m : BitVec 2}

theorem State.seg_of_unaccessed (h : t.unaccessed = s.unaccessed) (g : Seg) : t.seg g = s.seg g := (congrArg (State.seg · g) h :)

theorem State.Loading.of_unaccessed (hs : k.Loading l x n s) (h : t.unaccessed = s.unaccessed) : k.Loading l x n t where
  rest := (congrArg State.unloaded h :).trans hs.rest
  ldt := (congrArg (·.ldtr.sel) h :).trans hs.ldt
  sel g := (congrArg SegReg.sel (State.seg_of_unaccessed h g)).trans (hs.sel g)
  null g hg := (congrArg SegReg.valid (State.seg_of_unaccessed h g)).trans (hs.null g hg)
  cpl := (congrArg State.cpl h :).trans hs.cpl

protected theorem Leaves.loading {α : Type} {y : M α} (hy : Leaves State.unaccessed y) : Brings (k.Loading l x n) (k.Loading l x n) y :=
  ⟨fun hs h => hs.of_unaccessed (hy.same h)⟩

theorem State.Loading.setSeg (hs : k.Loading l x n s) {g : Seg} {r : SegReg} (hr : r.sel = x g) (hn : selNull (x g) = true → r.valid = false) :
    k.Loading l x n (s.setSeg g r) where
  rest := Eq.trans (by cases g <;> rfl) hs.rest
  ldt := Eq.trans (by cases g <;> rfl) hs.ldt
  sel g' := by
    rw [State.seg_setSeg]
    split
    · subst g'
      exact hr
    · exact hs.sel g'
  null g' hg := by
    rw [State.seg_setSeg]
    split
    · subst g'
      exact hn hg
    · exact hs.null g' hg
  cpl := Eq.trans (by cases g <;> rfl) hs.cpl

theorem State.Loading.setLdtr (hs : k.Loading l x n s) {r : SegReg} (hr : r.sel = l) : k.Loading l x n { s with ldtr := r } where
  rest := hs.rest
  ldt := hr
  sel := hs.sel
  null := hs.null
  cpl := hs.cpl

protected theorem Brings.loadDataSeg {g : Seg} : Brings (k.Loading l x n) (k.Loading l x n) (loadDataSeg g (x g) raiseTS) :=
  .ite (fun _ => .modify fun _ hs => hs.setSeg rfl fun _ => rfl) fun hn =>
    .bind Leaves.descriptor.loading fun _ => .get_bind fun _ _ => .check fun _ => .check fun _ => .check fun _ => .check fun _ =>
      .seq (Leaves.markAccessed ..).loading (.modify fun _ hs => hs.setSeg rfl fun h => absurd h hn)

protected theorem Brings.switchLdt : Brings (k.Loading l x n) (k.Loading l x n) (switchLdt l) :=
  .ite (fun _ => .modify fun _ hs => hs.setLdtr rfl) fun _ =>
    .check fun _ => .bind Leaves.descriptor.loading fun _ => .check fun _ => .check fun _ => .modify fun _ hs => hs.setLdtr rfl

theorem withRpl_rpl_self (sel : Half) : withRpl sel (rpl sel) = sel := by
  rw [withRpl_rpl, ← BitVec.and_or_distrib_left]
  exact BitVec.and_allOnes

/-- CS sets the level of the new task. -/
protected theorem Brings.switchCs : Brings (k.Loading l x m) (k.Loading l x (rpl (x .cs))) (switchCs (x .cs)) :=
  .check fun hn => .bind Leaves.descriptor.loading fun d => .check fun _ => .check fun _ => .check fun _ => .check fun _ =>
    .seq (Leaves.markAccessed ..).loading <| .modify fun s hs => by
      have hcs := hs.setSeg (g := .cs) (r := d.toSegReg (withRpl (x .cs) (rpl (x .cs)))) (withRpl_rpl_self _) fun h => by
        rw [hn] at h
        cases h
      exact ⟨hcs.rest, hcs.ldt, hcs.sel, hcs.null, rfl⟩

protected theorem Brings.switchSs : Brings (k.Loading l x n) (k.Loading l x n) (switchSs (x .ss)) :=
  .get_bind fun _ _ => .bind (Q := fun s => k.Loading l x n s ∧ selNull (x .ss) = false)
    (.check fun hn => .weaken (Leaves.loading (.bind .descriptor fun _ => .seq .check <| .seq .check <| .seq .check <| .seq .check (.pure _)))
      fun _ hs => ⟨hs, hn⟩)
    fun _ => .of_fact fun hn => .seq (Leaves.markAccessed ..).loading <| .modify fun _ hs => hs.setSeg rfl fun h => by
      rw [hn] at h
      cases h

/-- Outside Virtual 8086 mode each segment register is loaded with the selector that stands in it. -/
theorem State.Loading.switchSegments (hs : k.Loading l x n s) (hvm : s.flags.vm = false) (h : switchSegments s = .ok () t) :
    k.Loading l x (rpl (x .cs)) t := by
  have hrun : Sys2Proof.Machine.switchSegments s = (do
      switchCs (x .cs)
      switchSs (x .ss)
      loadDataSeg .ds (x .ds) raiseTS
      loadDataSeg .es (x .es) raiseTS
      loadDataSeg .fs (x .fs) raiseTS
      loadDataSeg .gs (x .gs) raiseTS : M Unit) s := by
    rw [← hs.sel .cs, ← hs.sel .ss, ← hs.sel .ds, ← hs.sel .es, ← hs.sel .fs, ← hs.sel .gs]
    refine (M.get_bind _ s).trans ?_
    rw [hvm, if_neg (by decide)]
    rfl
  refine Brings.ends ?_ hs (hrun.symm.trans h)
  exact .seq .switchCs <| .seq .switchSs <| .seq .loadDataSeg <| .seq .loadDataSeg <| .seq .loadDataSeg .loadDataSeg

end

/-- In Virtual 8086 mode all of them are 8086 segments. -/
theorem switchSegments_v86 {s : State} (hvm : s.flags.vm = true) : switchSegments s = .ok () { s with
    es := v86Load s.es.sel, cs := v86Load s.cs.sel, ss := v86Load s.ss.sel, ds := v86Load s.ds.sel
    fs := v86Load s.fs.sel, gs := v86Load s.gs.sel, cpl := 3 } := by
  refine (M.get_bind _ s).trans ?_
  rw [hvm, if_pos rfl]
  rfl

/-! Entering the new task. -/

/-- The task entered at `t`: what the registers of `a`, which hold the new task's items, become; `debug` is the T bit. -/
structure State.TaskEntered (a : State) (debug : Bool) (t : State) : Prop where
  rest : t.unloaded = { a with pend := { a.pend with bt := a.pend.bt || debug } }.unloaded
  ldt : t.ldtr.sel = a.ldtr.sel
  sel : ∀ g, (t.seg g).sel = (a.seg g).sel
  v86 : a.flags.vm = true → t.cpl = 3 ∧ ∀ g, t.seg g = v86Load (a.seg g).sel
  prot : a.flags.vm = false → t.cpl = rpl a.cs.sel ∧ ∀ g, selNull (a.seg g).sel = true → (t.seg g).valid = false
  limit : t.eip.toNat ≤ t.cs.limit.toNat

theorem State.TaskEntered.flags {a t : State} {debug : Bool} (h : a.TaskEntered debug t) : t.flags = a.flags := (congrArg State.flags h.rest :)

/-- The reads of the new task's state. -/
def loadTask (d : Descriptor) (kind : SwitchKind) : M Bool := if d.isTss386 then load386 d.base kind else load286 d.base kind

/-- What follows them. -/
def takeTask (debug : Bool) : M Unit := do
  let s ← get
  switchLdt s.ldtr.sel
  switchSegments
  modify fun u => { u with pend := { u.pend with bt := u.pend.bt || debug } }
  let u ← get
  raiseIf (decide (u.cs.limit.toNat < u.eip.toNat)) raiseGP0

/-- TR and TS of the new task. -/
def State.withTask (s : State) (nsel : Half) (d : Descriptor) : State :=
  { s with tr := { d.toSegReg nsel with ar := d.ar ||| 2 }, cr0 := s.cr0 ||| 8 }

theorem State.withTask_pg {nsel : Half} {d : Descriptor} (s : State) : (s.withTask nsel d).pg = s.pg := by
  unfold State.pg State.withTask
  rw [BitVec.getLsbD_or]
  exact Bool.or_false _

theorem enterTask_apply (nsel : Half) (d : Descriptor) (kind : SwitchKind) (s : State) :
    enterTask nsel d kind s = (loadTask d kind >>= takeTask) (s.withTask nsel d) := by
  unfold enterTask loadTask
  cases d.isTss386 <;> rfl

theorem enterTask_ok {nsel : Half} {d : Descriptor} {kind : SwitchKind} {s t : State} (h : enterTask nsel d kind s = .ok () t) :
    ∃ debug a, loadTask d kind (s.withTask nsel d) = .ok debug a ∧ ((∀ g, (a.seg g).valid = false) → a.TaskEntered debug t) := by
  rw [enterTask_apply] at h
  obtain ⟨debug, a, ha, h⟩ := M.bind_ok.mp h
  unfold takeTask at h
  rw [M.get_bind] at h
  obtain ⟨_, b, hb, h⟩ := M.bind_ok.mp h
  obtain ⟨_, c, hc, h⟩ := M.bind_ok.mp h
  rw [M.modify_bind, M.get_bind] at h
  obtain ⟨hlimit, ht⟩ := (raiseIf_ok (by intro _ h; cases h)).mp h
  refine ⟨debug, a, ha, fun hvalid => ?_⟩
  have hstart : a.Loading a.ldtr.sel (fun g => (a.seg g).sel) a.cpl a := ⟨rfl, rfl, fun _ => rfl, fun g _ => hvalid g, rfl⟩
  have hldt := Brings.switchLdt.ends hstart hb
  have hflags : b.flags = a.flags := (congrArg State.flags hldt.rest :)
  have hmark (u v : State) (huv : u.unloaded = v.unloaded) : { u with pend := { u.pend with bt := u.pend.bt || debug } }.unloaded =
      { v with pend := { v.pend with bt := v.pend.bt || debug } }.unloaded :=
    (congrArg (fun u : State => { u with pend := { u.pend with bt := u.pend.bt || debug } }) huv :)
  have hwithin : t.eip.toNat ≤ t.cs.limit.toNat := by
    subst ht
    exact not_lt.mp (of_decide_eq_false hlimit)
  cases hvm : a.flags.vm with
  | true =>
    rw [switchSegments_v86 (by rw [hflags, hvm])] at hc
    cases hc
    have hseg (g : Seg) : t.seg g = v86Load (a.seg g).sel := by
      rw [← hldt.sel g, ht]
      cases g <;> rfl
    exact {
      rest := by rw [ht]; exact hmark _ _ hldt.rest
      ldt := by rw [ht]; exact hldt.ldt
      sel := fun g => by rw [hseg]; rfl
      v86 := fun _ => ⟨by rw [ht], hseg⟩
      prot := fun h => by rw [hvm] at h; cases h
      limit := hwithin }
  | false =>
    have hsegs := hldt.switchSegments (by rw [hflags, hvm]) hc
    have hseg (g : Seg) : t.seg g = c.seg g := by
      rw [ht]
      cases g <;> rfl
    exact {
      rest := by rw [ht]; exact hmark _ _ hsegs.rest
      ldt := by rw [ht]; exact hsegs.ldt
      sel := fun g => by rw [hseg]; exact hsegs.sel g
      v86 := fun h => by rw [hvm] at h; cases h
      prot := fun _ => ⟨by rw [ht]; exact hsegs.cpl, fun g hg => by rw [hseg]; exact hsegs.null g hg⟩
      limit := hwithin }

/-! The reads of the new task's state. -/

/-- The state `a` is that of `k` with registers loaded from some TSS. -/
def State.HasTask (k : State) (kind : SwitchKind) (a : State) : Prop :=
  ∃ flags eip regs ldt sels, a.unaccessed = (k.incoming kind flags eip regs ldt sels).unaccessed

section
variable {k s t a : State} {kind : SwitchKind} {base : Word} {d : Descriptor} {debug : Bool}

theorem State.HasTask.valid (h : k.HasTask kind a) (g : Seg) : (a.seg g).valid = false := by
  obtain ⟨_, _, _, _, _, h⟩ := h
  rw [State.seg_of_unaccessed h]
  cases g <;> rfl

theorem State.HasTask.nt (h : k.HasTask kind a) (hk : kind = .call ∨ kind = .int) : a.flags.nt = true := by
  obtain ⟨flags, _, _, _, _, h⟩ := h
  refine (congrArg (·.flags.nt) h :).trans ?_
  show ((Flags.ofImage flags).nt || kind == .call || kind == .int) = true
  rcases hk with rfl | rfl
  · simp
  · simp

theorem State.incoming_congr {u v : State} (h : u.unaccessed = v.unaccessed) (flags eip : Word) (regs : Regs) (ldt : Half) (sels : List Half) :
    (u.incoming kind flags eip regs ldt sels).unaccessed = (v.incoming kind flags eip regs ldt sels).unaccessed :=
  (congrArg (fun w : State => (w.incoming kind flags eip regs ldt sels).unaccessed) h :)

/-- CR3 only may change before the registers are loaded. -/
theorem load386_ok (h : load386 base kind s = .ok debug a) : ∃ x, { s with cr3 := x }.HasTask kind a := by
  have hrun : Brings (fun u => ∃ x, u.unaccessed = { s with cr3 := x }.unaccessed) (fun u => ∃ x, { s with cr3 := x }.HasTask kind u)
      (load386 base kind) := by
    have reads {α : Type} {x : M α} (hx : Leaves State.unaccessed x) : Brings (fun u => ∃ x, u.unaccessed = { s with cr3 := x }.unaccessed)
        (fun u => ∃ x, u.unaccessed = { s with cr3 := x }.unaccessed) x := ⟨fun ⟨x, hu⟩ hv => ⟨x, (hx.same hv).trans hu⟩⟩
    have hcr3 : Brings (fun u => ∃ x, u.unaccessed = { s with cr3 := x }.unaccessed) (fun u => ∃ x, u.unaccessed = { s with cr3 := x }.unaccessed)
        (switchCr3 base) :=
      .get_bind fun _ _ => .ite (fun _ => .bind (reads (.linRead ..)) fun v => .modify fun u ⟨_, hu⟩ => ⟨v &&& 0xFFFFF000,
        (congrArg (fun w : State => { w with cr3 := v &&& 0xFFFFF000 }) hu :)⟩) fun _ => .pure _
    exact .bind (reads (.linRead ..)) fun _ => .seq hcr3 <| .bind (reads (.linRead ..)) fun _ => .bind (reads (.linRead ..)) fun _ =>
      .bind (reads (.readItems ..)) fun _ => .bind (reads (.readItems ..)) fun _ => .bind (reads (.linRead ..)) fun _ =>
      .seq (.modify fun u ⟨x, hu⟩ => ⟨x, _, _, _, _, _, State.incoming_congr hu ..⟩) (.pure _)
  exact hrun.ends ⟨s.cr3, rfl⟩ h

theorem load286_ok (h : load286 base kind s = .ok debug a) : debug = false ∧ s.HasTask kind a := by
  have hrun : Brings (fun u => u.unaccessed = s.unaccessed) (s.HasTask kind) (load286 base kind) :=
    .bind (Leaves.linRead ..).brings fun _ => .bind (Leaves.linRead ..).brings fun _ => .bind (Leaves.linRead ..).brings fun _ =>
      .bind (Leaves.readItems ..).brings fun _ => .bind (Leaves.readItems ..).brings fun _ =>
      .seq (.modify fun u hu => ⟨_, _, _, _, _, State.incoming_congr hu ..⟩) (.pure _)
  refine ⟨?_, hrun.ends rfl h⟩
  obtain ⟨_, _, -, h⟩ := M.bind_ok.mp h
  obtain ⟨_, _, -, h⟩ := M.bind_ok.mp h
  obtain ⟨_, _, -, h⟩ := M.bind_ok.mp h
  obtain ⟨_, _, -, h⟩ := M.bind_ok.mp h
  obtain ⟨_, _, -, h⟩ := M.bind_ok.mp h
  cases h
  rfl

theorem loadTask_ok (h : loadTask d kind s = .ok debug a) :
    ∃ x, (d.isTss386 = false → debug = false ∧ x = s.cr3) ∧ { s with cr3 := x }.HasTask kind a := by
  unfold loadTask at h
  cases hd : d.isTss386 with
  | true =>
    rw [hd, if_pos rfl] at h
    obtain ⟨x, hx⟩ := load386_ok h
    exact ⟨x, nofun, hx⟩
  | false =>
    rw [hd, if_neg (by decide)] at h
    obtain ⟨hdebug, ha⟩ := load286_ok h
    exact ⟨s.cr3, fun _ => ⟨hdebug, rfl⟩, ha⟩

theorem load386_unpaged (hp : s.pg = false) (hb : s.bus = []) : load386 base kind s = .ok ((s.item base 0x64 4).getLsbD 0)
    (s.incoming kind (s.item base 0x24 4) (s.item base 0x20 4)
      (regsOfItems ([0x28, 0x2C, 0x30, 0x34, 0x38, 0x3C, 0x40, 0x44].map fun off => s.item base off 4)) ((s.item base 0x60 2).setWidth 16)
      (([0x48, 0x4C, 0x50, 0x54, 0x58, 0x5C].map fun off => s.item base off 2).map (BitVec.setWidth 16))) := by
  have hcr3 : switchCr3 base s = .ok () s := by
    refine (M.get_bind _ s).trans ?_
    rw [hp]
    rfl
  exact (M.bind_of_ok (linRead_item hp hb base 0x60 2)).trans <| (M.bind_of_ok hcr3).trans <|
    (M.bind_of_ok (linRead_item hp hb base 0x24 4)).trans <| (M.bind_of_ok (linRead_item hp hb base 0x20 4)).trans <|
    (M.bind_of_ok (readItems_unpaged hp hb ..)).trans <| (M.bind_of_ok (readItems_unpaged hp hb ..)).trans <|
    (M.bind_of_ok (linRead_item hp hb base 0x64 4)).trans rfl

theorem load286_unpaged (hp : s.pg = false) (hb : s.bus = []) : load286 base kind s = .ok false
    (s.incoming kind (s.item base 0x10 2) (s.item base 0x0E 2)
      (regsOfItems ([0x12, 0x14, 0x16, 0x18, 0x1A, 0x1C, 0x1E, 0x20].map fun off => s.item base off 2)) ((s.item base 0x2A 2).setWidth 16)
      (([0x22, 0x24, 0x26, 0x28].map fun off => s.item base off 2).map (BitVec.setWidth 16))) :=
  (M.bind_of_ok (linRead_item hp hb base 0x2A 2)).trans <| (M.bind_of_ok (linRead_item hp hb base 0x10 2)).trans <|
    (M.bind_of_ok (linRead_item hp hb base 0x0E 2)).trans <| (M.bind_of_ok (readItems_unpaged hp hb ..)).trans <|
    (M.bind_of_ok (readItems_unpaged hp hb ..)).trans rfl

end

/-! What a completed switch comes to. -/

section
variable {s t : State} {sel : Half} {d : Descriptor} {kind : SwitchKind} {eip image : Word}

theorem taskSwitch_state (h : taskSwitch sel d kind eip image s = .ok () t) :
    t.tr = { d.toSegReg sel with ar := d.ar ||| 2 } ∧ t.ts = true ∧ t.dr7 = s.dr7 &&& ~~~ 0x155 ∧
      (kind = .call ∨ kind = .int → t.flags.nt = true) ∧ t.eip.toNat ≤ t.cs.limit.toNat ∧
      (t.flags.vm = true → t.cpl = 3) ∧ t.gdtr = s.gdtr ∧ t.idtr = s.idtr := by
  obtain ⟨e, hleave, henter⟩ := taskSwitch_ok h
  obtain ⟨debug, a, hload, hentered⟩ := enterTask_ok henter
  obtain ⟨x, -, hnew⟩ := loadTask_ok hload
  have he : e.unaccessed = s.unaccessed := ((Leaves.leaveTask ..).lockedIf fun _ _ => rfl).same hleave
  have ht := hentered hnew.valid
  have hflags := ht.flags
  obtain ⟨_, _, _, _, _, ha⟩ := id hnew
  refine ⟨(congrArg State.tr ht.rest :).trans (congrArg State.tr ha :), ?_, ?_, fun hk => hflags ▸ hnew.nt hk, ht.limit,
    fun hvm => (ht.v86 (hflags ▸ hvm)).1, ?_, ?_⟩
  · have hcr0 : t.cr0 = e.cr0 ||| 8 := (congrArg State.cr0 ht.rest :).trans (congrArg State.cr0 ha :)
    unfold State.ts
    rw [hcr0, BitVec.getLsbD_or]
    exact Bool.or_true _
  · exact ((congrArg State.dr7 ht.rest :).trans (congrArg State.dr7 ha :)).trans (congrArg (·.dr7 &&& ~~~ 0x155) he :)
  · exact ((congrArg State.gdtr ht.rest :).trans (congrArg State.gdtr ha :)).trans (congrArg State.gdtr he :)
  · exact ((congrArg State.idtr ht.rest :).trans (congrArg State.idtr ha :)).trans (congrArg State.idtr he :)

theorem SwitchKind.nt_eq (b : Bool) (kind : SwitchKind) :
    (b || kind == .call || kind == .int) = (b || decide (kind = .call ∨ kind = .int)) := by
  cases b <;> cases kind <;> rfl

/-- A bit of an item is a bit of one of its bytes, however many bytes follow. -/
theorem State.item_bit {base : Word} {off nb j : Nat} (hj : j < 32) :
    (s.item base off nb).getLsbD j = (decide (j / 8 < nb) && (s.byte (s.physKey (base + BitVec.ofNat 32 (off + j / 8)))).getLsbD (j % 8)) := by
  unfold State.item State.readKeys
  rw [littleEndian_getLsbD _ _ hj]
  by_cases hlt : j / 8 < nb
  · rw [decide_eq_true hlt, Bool.true_and, List.getD_eq_getElem _ _ (by simpa [State.itemKeys, State.physKeys] using hlt)]
    simp [State.itemKeys, State.physKeys, BitVec.add_assoc, ← BitVec.ofNat_add]
  · rw [decide_eq_false hlt, List.getD_eq_default _ _ (by simpa [State.itemKeys, State.physKeys] using hlt)]
    simp

theorem saveTask_386_items (hp : s.pg = false) (hb : s.bus = []) (hm : memWf s.mem) (hk : s.tr.isTss286 = false)
    (h : saveTask eip image s = .ok () t) :
    (∀ off v, (off, 4, v) ∈ s.saved386 eip image → t.item s.tr.base off 4 = v) ∧
    (∀ off (v : Half), (off, 2, v.setWidth 32) ∈ s.saved386 eip image → t.item s.tr.base off 2 = v.setWidth 32) ∧
    ∀ a, a ∉ s.itemKeys s.tr.base 0x20 0x40 → t.byte a = s.byte a := by
  rw [saveTask_386 hp hb hk h]
  refine ⟨fun off v hx => (State.stored_read hm saved386_laid hx).trans (Word.and_dword v),
    fun off v hx => (State.stored_read hm saved386_laid hx).trans (Half.and_word v), fun a ha => State.stored_byte fun x hx hin => ?_⟩
  obtain ⟨hlo, hhi⟩ := saved386_within x hx
  exact ha (s.itemKeys_subset _ hlo hhi hin)

theorem saveTask_286_items (hp : s.pg = false) (hb : s.bus = []) (hm : memWf s.mem) (hk : s.tr.isTss286 = true)
    (h : saveTask eip image s = .ok () t) :
    (∀ off v, (off, 2, v) ∈ s.saved286 eip image → t.item s.tr.base off 2 = v &&& 0xFFFF) ∧
    (∀ off (v : Half), (off, 2, v.setWidth 32) ∈ s.saved286 eip image → t.item s.tr.base off 2 = v.setWidth 32) ∧
    ∀ a, a ∉ s.itemKeys s.tr.base 0x0E 0x1C → t.byte a = s.byte a := by
  rw [saveTask_286 hp hb hk h]
  refine ⟨fun off v hx => State.stored_read hm saved286_laid hx,
    fun off v hx => (State.stored_read hm saved286_laid hx).trans (Half.and_word v), fun a ha => State.stored_byte fun x hx hin => ?_⟩
  obtain ⟨hlo, hhi⟩ := saved286_within x hx
  exact ha (s.itemKeys_subset _ hlo hhi hin)

/-- The task that a 386 TSS holds is entered. -/
theorem enterTask_386 (hp : s.pg = false) (hb : s.bus = []) (hd : d.isTss386 = true) (h : enterTask sel d kind s = .ok () t) :
    ((s.withTask sel d).incoming kind (s.item d.base 0x24 4) (s.item d.base 0x20 4)
      (regsOfItems ([0x28, 0x2C, 0x30, 0x34, 0x38, 0x3C, 0x40, 0x44].map fun off => s.item d.base off 4))
      ((s.item d.base 0x60 2).setWidth 16)
      (([0x48, 0x4C, 0x50, 0x54, 0x58, 0x5C].map fun off => s.item d.base off 2).map (BitVec.setWidth 16))).TaskEntered
        ((s.item d.base 0x64 4).getLsbD 0) t := by
  obtain ⟨debug, a, hload, hentered⟩ := enterTask_ok h
  unfold loadTask at hload
  rw [hd, if_pos rfl, load386_unpaged (s.withTask_pg.trans hp) hb] at hload
  cases hload
  exact hentered fun g => by cases g <;> rfl

/-- The task that a 286 TSS holds is entered. -/
theorem enterTask_286 (hp : s.pg = false) (hb : s.bus = []) (hd : d.isTss386 = false) (h : enterTask sel d kind s = .ok () t) :
    ((s.withTask sel d).incoming kind (s.item d.base 0x10 2) (s.item d.base 0x0E 2)
      (regsOfItems ([0x12, 0x14, 0x16, 0x18, 0x1A, 0x1C, 0x1E, 0x20].map fun off => s.item d.base off 2))
      ((s.item d.base 0x2A 2).setWidth 16)
      (([0x22, 0x24, 0x26, 0x28].map fun off => s.item d.base off 2).map (BitVec.setWidth 16))).TaskEntered false t := by
  obtain ⟨debug, a, hload, hentered⟩ := enterTask_ok h
  unfold loadTask at hload
  rw [hd, if_neg (by decide), load286_unpaged (s.withTask_pg.trans hp) hb] at hload
  cases hload
  exact hentered fun g => by cases g <;> rfl

end

/-- Settles O43: the steps of a task switch one by one; the items saved and loaded are those of the TSS, and what each step leaves alone is as
the step before left it. -/
theorem taskSwitchState : Obligations.TaskSwitchState := by
  refine ⟨fun s t sel d kind eip image h => ⟨taskSwitch_state h, taskSwitch_ok h⟩,
    fun s e sel d kind eip image => ⟨fun hb c => lockedIf_of_nil hb _ _, leaveTask_ok, fun x hb hl h => taskSwitch_absent hb hl h⟩, ?_, ?_, ?_,
    ?_, ?_, ?_⟩
  · intro s t eip image hp hb hm hk h
    obtain ⟨hdword, hword, hrest⟩ := saveTask_386_items hp hb hm hk h
    refine ⟨hdword 0x20 _ ?_, hdword 0x24 _ ?_, hdword 0x28 _ ?_, hdword 0x2C _ ?_, hdword 0x30 _ ?_, hdword 0x34 _ ?_, hdword 0x38 _ ?_,
      hdword 0x3C _ ?_, hdword 0x40 _ ?_, hdword 0x44 _ ?_, hword 0x48 _ ?_, hword 0x4C _ ?_, hword 0x50 _ ?_, hword 0x54 _ ?_,
      hword 0x58 _ ?_, hword 0x5C _ ?_, hrest⟩
    all_goals simp [State.saved386]
  · intro s t sel d kind hp hb hd h
    have ht := enterTask_386 hp hb hd h
    have hflags := ht.flags
    refine ⟨(congrArg State.regs ht.rest :), (congrArg State.eip ht.rest :), ht.ldt, ht.sel .es, ht.sel .cs, ht.sel .ss, ht.sel .ds, ht.sel .fs,
      ht.sel .gs, ?_, fun hvm g => ?_, fun hvm => ?_, ?_, (congrArg State.cr3 ht.rest :)⟩
    · exact hflags.trans (congrArg (fun b => { Flags.ofImage _ with nt := b }) (SwitchKind.nt_eq ..))
    · rw [hflags] at hvm
      rw [(ht.v86 hvm).2 g]
      rfl
    · rw [hflags] at hvm
      exact (ht.prot hvm).1.trans (congrArg rpl (ht.sel .cs).symm)
    · refine (congrArg (·.pend.bt) ht.rest :).trans (congrArg (s.pend.bt || ·) ?_)
      exact (State.item_bit (j := 0) (by decide)).trans (State.item_bit (nb := 2) (j := 0) (by decide)).symm
  · intro s t eip image hp hb hm hk h
    obtain ⟨hlow, hword, hrest⟩ := saveTask_286_items hp hb hm hk h
    have hwords (l : List (Nat × Word)) (hl : ∀ x ∈ l, (x.1, 2, x.2) ∈ s.saved286 eip image) :
        l.map (fun x => t.item s.tr.base x.1 2) = l.map fun x => x.2 &&& 0xFFFF := List.map_congr_left fun x hx => hlow x.1 x.2 (hl x hx)
    have hten := hwords [(0x0E, eip), (0x10, image), (0x12, s.regs.eax), (0x14, s.regs.ecx), (0x16, s.regs.edx), (0x18, s.regs.ebx),
      (0x1A, s.regs.esp), (0x1C, s.regs.ebp), (0x1E, s.regs.esi), (0x20, s.regs.edi)] (by simp [State.saved286])
    refine ⟨hten, hword 0x22 _ ?_, hword 0x24 _ ?_, hword 0x26 _ ?_, hword 0x28 _ ?_, hrest⟩
    all_goals simp [State.saved286]
  · intro s t sel d kind hd h
    obtain ⟨debug, a, hload, hentered⟩ := enterTask_ok h
    obtain ⟨x, hx, hnew⟩ := loadTask_ok hload
    obtain ⟨rfl, rfl⟩ := hx hd
    have ht := hentered hnew.valid
    obtain ⟨_, _, _, _, _, ha⟩ := id hnew
    refine ⟨(congrArg State.cr3 ht.rest :).trans (congrArg State.cr3 ha :), ?_, fun hp hb => ?_⟩
    · exact (congrArg (·.pend.bt) ht.rest :).trans ((Bool.or_false _).trans (congrArg (·.pend.bt) ha :))
    · have ht := enterTask_286 hp hb hd h
      have hflags := ht.flags
      have hvm : (Flags.ofImage (s.item d.base 0x10 2)).vm = false := (State.item_bit (by decide)).trans (Bool.false_and _)
      obtain ⟨hcpl, hnull⟩ := ht.prot hvm
      have hzero : selNull 0 = true := by decide
      exact ⟨(congrArg State.regs ht.rest :), (congrArg State.eip ht.rest :), ht.ldt, ht.sel .es, ht.sel .cs, ht.sel .ss, ht.sel .ds, ht.sel .fs,
        hnull .fs hzero, ht.sel .gs, hnull .gs hzero, hflags.trans (congrArg (fun b => { Flags.ofImage _ with nt := b }) (SwitchKind.nt_eq ..)),
        (congrArg Flags.vm hflags).trans hvm, hcpl.trans (congrArg rpl (ht.sel .cs).symm)⟩
  · intro s t base v hp h
    refine (M.get_bind _ s).trans ?_
    rw [if_pos hp]
    exact M.bind_of_ok h
  · intro s t sel la set clear hp hb hm hla h
    rw [writeAccessByte_unpaged hp hb hla h]
    exact ⟨cellAt_cellPut_eq _ _ _ hm.1, fun a ha => State.byte_putByte_ne _ _ _ _ ha⟩

end Sys2Proof.Machine
end

-- ==== Proofs: paging ====
section
/-!
PROOFS. The page walk, the use of a TLB entry, and what the queues keep of one (22_paging.md R461, R465, R470, R476, R480, R484).
-/
namespace Sys2Proof.Machine

open Sys2Proof

/-! Two entries: aligned to 4, they are the same four bytes or share none. -/

/-- The byte `i` of an aligned entry stands `i` after its first one, whether or not A20 is masked. -/
theorem State.physKey_entry (s : State) {pa : Word} {i : Nat} (ha : pa.toNat % 4 = 0) (hi : i < 4) :
    s.physKey (pa + BitVec.ofNat 32 i) = 4 * (s.physKey pa / 4) + i := by
  have hmod := s.physKey_mod_four (pa + BitVec.ofNat 32 i)
  have hsum : (pa + BitVec.ofNat 32 i).toNat = pa.toNat + i := by
    rw [BitVec.toNat_add, BitVec.toNat_ofNat]
    have := pa.isLt
    omega
  have hdiv : s.physKey (pa + BitVec.ofNat 32 i) / 2 ^ 2 = s.physKey pa / 2 ^ 2 := by
    unfold State.physKey
    rw [BitVec.toNat_and, BitVec.toNat_and, Nat.and_div_two_pow, Nat.and_div_two_pow, BitVec.toNat_setWidth, BitVec.toNat_setWidth, hsum]
    congr 1
    omega
  omega

theorem State.entryKeys_disjoint (s : State) {pa qa : Word} (hp : pa.toNat % 4 = 0) (hq : qa.toNat % 4 = 0)
    (hne : s.physKeys pa 4 ≠ s.physKeys qa 4) {k : Nat} (hk : k ∈ s.physKeys pa 4) : k ∉ s.physKeys qa 4 := by
  intro hkq
  obtain ⟨i, hi, hki⟩ := List.mem_map.mp hk
  obtain ⟨j, hj, hkj⟩ := List.mem_map.mp hkq
  rw [s.physKey_entry hp (List.mem_range.mp hi)] at hki
  rw [s.physKey_entry hq (List.mem_range.mp hj)] at hkj
  refine hne (List.map_congr_left fun n hn => ?_)
  rw [s.physKey_entry hp (List.mem_range.mp hn), s.physKey_entry hq (List.mem_range.mp hn)]
  have hi := List.mem_range.mp hi
  have hj := List.mem_range.mp hj
  omega

/-! Accessed and Dirty set in an entry: the entry, and the others. -/

theorem State.markEntry_eq (s : State) (pa bits : Word) :
    s.markEntry pa bits = { s with mem := (s.markEntry pa bits).mem, stale := (s.markEntry pa bits).stale } := by
  unfold State.markEntry
  dsimp only
  split
  · rfl
  · exact State.writeKeys_eq _ _ _

/-- An entry that has the bits is left alone. -/
theorem State.markEntry_of_set {s : State} {pa bits : Word} (h : s.pageEntry pa ||| bits = s.pageEntry pa) :
    s.markEntry pa bits = s := if_pos h

theorem State.markEntry_memWf {s : State} (hm : memWf s.mem) (pa bits : Word) : memWf (s.markEntry pa bits).mem := by
  unfold State.markEntry
  dsimp only
  split
  · exact hm
  · exact State.writeKeys_memWf _ _ _ hm (s.inMemory_physKeys pa 4)

@[simp] theorem State.physKeys_markEntry (s : State) (pa bits qa : Word) (nb : Nat) :
    (s.markEntry pa bits).physKeys qa nb = s.physKeys qa nb := by
  rw [State.markEntry_eq]
  rfl

theorem State.pageEntry_congr {s : State} {pa qa : Word} (h : s.physKeys pa 4 = s.physKeys qa 4) : s.pageEntry pa = s.pageEntry qa := by
  unfold State.pageEntry
  rw [h]

theorem State.pageEntry_markEntry_self {s : State} (hm : memWf s.mem) {pa : Word} (ha : pa.toNat % 4 = 0) (bits : Word) :
    (s.markEntry pa bits).pageEntry pa = s.pageEntry pa ||| bits := by
  by_cases hset : s.pageEntry pa ||| bits = s.pageEntry pa
  · rw [State.markEntry_of_set hset, hset]
  · have hmark : s.markEntry pa bits = s.writeKeys (s.physKeys pa 4) (s.pageEntry pa ||| bits) := if_neg hset
    rw [State.pageEntry, State.physKeys_markEntry, hmark,
      State.readKeys_writeKeys hm (s.inMemory_physKeys pa 4) (s.nodup_entryKeys ha), (s.physKeys_spec pa 4).2]
    exact BitVec.and_allOnes

theorem State.pageEntry_markEntry_ne {s : State} {pa qa : Word} (hp : pa.toNat % 4 = 0) (hq : qa.toNat % 4 = 0)
    (hne : s.physKeys pa 4 ≠ s.physKeys qa 4) (bits : Word) : (s.markEntry pa bits).pageEntry qa = s.pageEntry qa := by
  unfold State.pageEntry State.readKeys
  rw [State.physKeys_markEntry]
  congr 1
  refine List.map_congr_left fun k hk => ?_
  unfold State.markEntry
  dsimp only
  split
  · rfl
  · exact State.byte_writeKeys_notMem _ _ _ _ fun h => s.entryKeys_disjoint hp hq hne h hk

/-! The bits. -/

theorem or_twoPow_of_set {e : Word} {i : Nat} (h : e.getLsbD i = true) : e ||| BitVec.twoPow 32 i = e := by
  apply BitVec.eq_of_getLsbD_eq
  intro j _
  rw [BitVec.getLsbD_or, BitVec.getLsbD_twoPow]
  by_cases hij : i = j
  · subst hij
    simp [h]
  · simp [hij]

theorem or_accessed {e : Word} (h : entryA e = true) : e ||| 0x20 = e := or_twoPow_of_set (i := 5) h

/-- The bits that a walk need not set. -/
theorem or_tableBits {e : Word} {write : Bool} (ha : entryA e = true) (hd : write = true → entryD e = true) :
    e ||| tableBits write = e := by
  cases write with
  | false => exact or_accessed ha
  | true =>
    have hbits : tableBits true = 0x20 ||| BitVec.twoPow 32 6 := by decide
    rw [hbits, ← BitVec.or_assoc, or_accessed ha]
    exact or_twoPow_of_set (hd rfl)

theorem or_tableBits_of_not_due {e : Word} {write : Bool} (h : (!entryA e || (write && !entryD e)) = false) :
    e ||| tableBits write = e := by
  obtain ⟨ha, hd⟩ := Bool.or_eq_false_iff.mp h
  refine or_tableBits (by simpa using ha) fun hw => ?_
  subst hw
  simpa using hd

theorem accessed_or_tableBits (write : Bool) : 0x20 ||| tableBits write = tableBits write := by cases write <;> rfl

theorem entryA_or_tableBits (e : Word) (write : Bool) : entryA (e ||| tableBits write) = true := by
  cases write <;> simp [entryA, tableBits]

theorem entryD_or_tableBits (e : Word) {write : Bool} (h : write = true) : entryD (e ||| tableBits write) = true := by
  subst h
  simp [entryD, tableBits]

/-- Whether or not the two entries are one, both are Accessed, and for a write the table entry Dirty. -/
theorem entries_accessed {c : Prop} [Decidable c] {d e pde pte : Word} {write : Bool}
    (h : if c then d = pde ||| (0x20 ||| tableBits write) ∧ e = pte ||| (0x20 ||| tableBits write)
      else d = pde ||| 0x20 ∧ e = pte ||| tableBits write) :
    entryA d = true ∧ entryA e = true ∧ (write = true → entryD e = true) := by
  rw [accessed_or_tableBits] at h
  split at h <;> obtain ⟨rfl, rfl⟩ := h
  · exact ⟨entryA_or_tableBits _ _, entryA_or_tableBits _ _, entryD_or_tableBits _⟩
  · exact ⟨entryA_or_tableBits _ false, entryA_or_tableBits _ _, entryD_or_tableBits _⟩

theorem pageFaultCode_bits (idx : Nat) (p write user : Bool) : (pageFaultCode idx p write user).getLsbD 0 = p ∧
    (pageFaultCode idx p write user).getLsbD 1 = write ∧ (pageFaultCode idx p write user).getLsbD 2 = user := by
  unfold pageFaultCode
  simp only [BitVec.getLsbD_append]
  simp

/-! The walk, where no other bus master writes. -/

/-- The directory entry for an address, as it stands in memory. -/
abbrev State.pde (s : State) (la : Word) : Word := s.pageEntry (pdeAddr s.cr3 la)

/-- The address of the table entry that the directory entry names, and that entry. -/
abbrev State.ptePa (s : State) (la : Word) : Word := pteAddr (s.pde la) la

abbrev State.pte (s : State) (la : Word) : Word := s.pageEntry (s.ptePa la)

/-- What the walk caches of the page. -/
def State.walkEntry (s : State) (la : Word) (write : Bool) : TlbEntry :=
  { vpn := pageOf la, frame := (s.pte la).extractLsb' 12 20, us := entryUS (s.pde la) && entryUS (s.pte la),
    rw := entryRW (s.pde la) && entryRW (s.pte la), d := entryD (s.pte la) || write }

/-- Both entries as the walk leaves them. -/
def State.walkMarked (s : State) (la : Word) (write : Bool) : State :=
  (s.markEntry (pdeAddr s.cr3 la) 0x20).markEntry (s.ptePa la) (tableBits write)

theorem pageFault_apply {α : Type} (la : Word) (p write user : Bool) (s : State) :
    (pageFault la p write user : M α) s = .error (.exc ⟨14, some (pageFaultCode s.freeIdx p write user)⟩ false) { s with cr2 := la } := rfl

theorem updateEntry_nil {s : State} (hb : s.bus = []) (due : Bool) (pa bits : Word) :
    updateEntry due pa bits s = .ok () (if due then s.markEntry pa bits else s) := by
  cases due
  · rfl
  · exact M.bind_of_ok (busTurn_nil hb)

/-- Where what is due is what the entry lacks, the update is the marking. -/
theorem updateEntry_eq_markEntry {s : State} (hb : s.bus = []) {due : Bool} {pa bits : Word}
    (hset : due = false → s.pageEntry pa ||| bits = s.pageEntry pa) : updateEntry due pa bits s = .ok () (s.markEntry pa bits) := by
  rw [updateEntry_nil hb]
  cases due
  · rw [State.markEntry_of_set (hset rfl)]
    rfl
  · rfl

section
variable {s : State} {la : Word} {write user : Bool}

/-- A directory entry not present. -/
theorem walk_of_pde_absent (hb : s.bus = []) (hd : entryP (s.pde la) = false) :
    walk la write user s = pageFault la false write user s := by
  unfold walk
  rw [M.bind_of_ok (busTurn_nil hb), M.get_bind, hd]
  rfl

/-- A table entry not present: Accessed in the directory entry may have been set (D19). -/
theorem walk_of_pte_absent (hb : s.bus = []) (hd : entryP (s.pde la) = true) (ht : entryP (s.pte la) = false) :
    walk la write user s = pageFault la false write user
      (if !entryA (s.pde la) && Config.directoryMarked s.accessIdx then s.markEntry (pdeAddr s.cr3 la) 0x20 else s) := by
  unfold walk
  rw [M.bind_of_ok (busTurn_nil hb), M.get_bind, hd, Bool.not_true, raiseIf_false, M.pure_bind, M.bind_of_ok (busTurn_nil hb),
    M.get_bind, ht]
  exact M.bind_of_ok (updateEntry_nil hb ..)

/-- Both entries present: the rights decide, and where they permit the access the entries are updated. -/
theorem walk_of_present (hb : s.bus = []) (hd : entryP (s.pde la) = true) (ht : entryP (s.pte la) = true) :
    walk la write user s = (do
      raiseIf (!permits (s.walkEntry la write).us (s.walkEntry la write).rw write user) (pageFault la true write user)
      updateEntry (!entryA (s.pde la)) (pdeAddr s.cr3 la) 0x20
      updateEntry (!entryA (s.pte la) || (write && !entryD (s.pte la))) (s.ptePa la) (tableBits write)
      modify fun t => t.cacheEntry (s.walkEntry la write)
      pure ((s.pte la).extractLsb' 12 20 ++ la.extractLsb' 0 12) : M Word) s := by
  unfold walk
  rw [M.bind_of_ok (busTurn_nil hb), M.get_bind, hd, Bool.not_true, raiseIf_false, M.pure_bind, M.bind_of_ok (busTurn_nil hb),
    M.get_bind, ht]
  rfl

theorem walk_of_forbidden (hb : s.bus = []) (hd : entryP (s.pde la) = true) (ht : entryP (s.pte la) = true)
    (hf : permits (s.walkEntry la write).us (s.walkEntry la write).rw write user = false) :
    walk la write user s = pageFault la true write user s := by
  rw [walk_of_present hb hd ht, hf]
  rfl

/-- A table entry that had its bits when it was read has them after the directory entry's update too, which may be an update of itself. -/
theorem State.pte_markEntry_of_set (hm : memWf s.mem) (hset : s.pte la ||| tableBits write = s.pte la) :
    (s.markEntry (pdeAddr s.cr3 la) 0x20).pageEntry (s.ptePa la) ||| tableBits write =
      (s.markEntry (pdeAddr s.cr3 la) 0x20).pageEntry (s.ptePa la) := by
  by_cases hk : s.physKeys (pdeAddr s.cr3 la) 4 = s.physKeys (s.ptePa la) 4
  · rw [← State.pageEntry_congr (pa := pdeAddr s.cr3 la) (by simpa using hk), State.pageEntry_markEntry_self hm (pdeAddr_mod_four ..),
      State.pageEntry_congr hk, BitVec.or_assoc, BitVec.or_comm 0x20, ← BitVec.or_assoc, hset]
  · rw [State.pageEntry_markEntry_ne (pdeAddr_mod_four ..) (pteAddr_mod_four ..) hk, hset]

/-- The walk that succeeds. -/
theorem walk_of_permitted (hb : s.bus = []) (hm : memWf s.mem) (hd : entryP (s.pde la) = true) (ht : entryP (s.pte la) = true)
    (hp : permits (s.walkEntry la write).us (s.walkEntry la write).rw write user = true) :
    walk la write user s = .ok ((s.pte la).extractLsb' 12 20 ++ la.extractLsb' 0 12)
      ((s.walkMarked la write).cacheEntry (s.walkEntry la write)) := by
  have hdir : updateEntry (!entryA (s.pde la)) (pdeAddr s.cr3 la) 0x20 s = .ok () (s.markEntry (pdeAddr s.cr3 la) 0x20) :=
    updateEntry_eq_markEntry hb fun h => or_accessed (by simpa using h)
  have hbus : (s.markEntry (pdeAddr s.cr3 la) 0x20).bus = [] := by
    rw [State.markEntry_eq]
    exact hb
  have htab := updateEntry_eq_markEntry hbus fun h => State.pte_markEntry_of_set (write := write) hm (or_tableBits_of_not_due h)
  rw [walk_of_present hb hd ht, hp, Bool.not_true, raiseIf_false, M.pure_bind, M.bind_of_ok hdir, M.bind_of_ok htab]
  rfl

theorem walk_ok {t : State} {pa : Word} (hb : s.bus = []) (hm : memWf s.mem) (h : walk la write user s = .ok pa t) :
    entryP (s.pde la) = true ∧ entryP (s.pte la) = true ∧
      permits (s.walkEntry la write).us (s.walkEntry la write).rw write user = true ∧
      pa = (s.pte la).extractLsb' 12 20 ++ la.extractLsb' 0 12 ∧ t = (s.walkMarked la write).cacheEntry (s.walkEntry la write) := by
  cases hd : entryP (s.pde la) with
  | false =>
    rw [walk_of_pde_absent hb hd] at h
    exact absurd h pageFault_ne_ok
  | true =>
    cases ht : entryP (s.pte la) with
    | false =>
      rw [walk_of_pte_absent hb hd ht] at h
      exact absurd h pageFault_ne_ok
    | true =>
      cases hp : permits (s.walkEntry la write).us (s.walkEntry la write).rw write user with
      | false =>
        rw [walk_of_forbidden hb hd ht hp] at h
        exact absurd h pageFault_ne_ok
      | true =>
        rw [walk_of_permitted hb hm hd ht hp] at h
        cases h
        exact ⟨rfl, rfl, rfl, rfl, rfl⟩

/-- The directory entry after the walk, and the table entry: each has its bits, and both have all of them where they are one (R465). -/
theorem State.walkMarked_entries (hm : memWf s.mem) :
    if s.physKeys (pdeAddr s.cr3 la) 4 = s.physKeys (s.ptePa la) 4 then
      (s.walkMarked la write).pageEntry (pdeAddr s.cr3 la) = s.pde la ||| (0x20 ||| tableBits write) ∧
        (s.walkMarked la write).pageEntry (s.ptePa la) = s.pte la ||| (0x20 ||| tableBits write)
    else (s.walkMarked la write).pageEntry (pdeAddr s.cr3 la) = s.pde la ||| 0x20 ∧
      (s.walkMarked la write).pageEntry (s.ptePa la) = s.pte la ||| tableBits write := by
  have hd : (pdeAddr s.cr3 la).toNat % 4 = 0 := pdeAddr_mod_four ..
  have ht : (s.ptePa la).toNat % 4 = 0 := pteAddr_mod_four ..
  have hdir := State.pageEntry_markEntry_self hm hd 0x20
  have htab := State.pageEntry_markEntry_self (State.markEntry_memWf hm (pdeAddr s.cr3 la) 0x20) ht (tableBits write)
  split
  · rename_i hk
    have hself : (s.walkMarked la write).pageEntry (s.ptePa la) = s.pde la ||| (0x20 ||| tableBits write) := by
      rw [State.walkMarked, htab, ← State.pageEntry_congr (pa := pdeAddr s.cr3 la) (by simpa using hk), hdir, BitVec.or_assoc]
    refine ⟨?_, hself.trans ?_⟩
    · rw [← hself]
      exact State.pageEntry_congr (by simpa [State.walkMarked] using hk)
    · rw [State.pde, State.pageEntry_congr hk]
  · rename_i hk
    refine ⟨?_, ?_⟩
    · rw [State.walkMarked, State.pageEntry_markEntry_ne ht hd (by simpa using Ne.symm hk), hdir]
    · rw [State.walkMarked, htab, State.pageEntry_markEntry_ne hd ht hk]

/-- Nothing is written where Accessed, and for a write Dirty, are set. -/
theorem State.walkMarked_of_set (ha : entryA (s.pde la) = true) (ht : entryA (s.pte la) = true)
    (hd : write = true → entryD (s.pte la) = true) : s.walkMarked la write = s := by
  rw [State.walkMarked, State.markEntry_of_set (or_accessed ha), State.markEntry_of_set (or_tableBits ht hd)]

end

/-! The TLB. -/

section
variable {s : State} {la : Word} {write user : Bool}

/-- The use of an entry: the page fault of its rights, the walk where a write finds D = 0, or its frame with the offset (R461). -/
def useEntry (la : Word) (write user : Bool) (e : TlbEntry) : M Word := do
  raiseIf (!permits e.us e.rw write user) (pageFault la true write user)
  if write && !e.d then do
    modify fun t => t.dropEntry la
    walk la write user
  else pure (e.frame ++ la.extractLsb' 0 12)

theorem useEntry_apply (e : TlbEntry) (s : State) : useEntry la write user e s =
    if permits e.us e.rw write user = false then pageFault la true write user s
    else if write = true ∧ e.d = false then walk la write user (s.dropEntry la)
    else .ok (e.frame ++ la.extractLsb' 0 12) s := by
  unfold useEntry
  cases permits e.us e.rw write user with
  | false => rfl
  | true =>
    rw [Bool.not_true, raiseIf_false, M.pure_bind, M.ite_apply, if_neg (show ¬ true = false from nofun)]
    exact if_congr (by simp) rfl rfl

theorem translate_eq (la : Word) (write user : Bool) (s : State) : translate la write user s =
    match s.nextAccess.tlbHit la with
    | some e => useEntry la write user e s.nextAccess
    | none => walk la write user s.nextAccess := by
  unfold translate
  rw [M.modify_bind, M.get_bind]
  cases s.nextAccess.tlbHit la <;> rfl

theorem translate_of_miss (h : s.tlb.find? (fun e => e.vpn == pageOf la) = none) :
    translate la write user s = walk la write user s.nextAccess := by
  have hhit : s.nextAccess.tlbHit la = none := by
    unfold State.tlbHit
    simp only [State.nextAccess_fields, h]
  rw [translate_eq, hhit]

/-- An entry that agrees with the tables is used, and one that is stale where it is still held (R480; log entry 4). -/
theorem translate_of_entry {e : TlbEntry} (h : s.tlb.find? (fun e => e.vpn == pageOf la) = some e) :
    translate la write user s =
      if s.tableEntry la = some e ∨ Config.tlbKeeps s.nextAccess.accessIdx = true then useEntry la write user e s.nextAccess
      else walk la write user s.nextAccess := by
  have htable : s.nextAccess.tableEntry la = s.tableEntry la := rfl
  have hhit : s.nextAccess.tlbHit la =
      if s.tableEntry la = some e ∨ Config.tlbKeeps s.nextAccess.accessIdx = true then some e else none := by
    unfold State.tlbHit
    simp only [State.nextAccess_fields, h, htable, Bool.or_eq_true, beq_iff_eq]
  rw [translate_eq, hhit]
  by_cases hu : s.tableEntry la = some e ∨ Config.tlbKeeps s.nextAccess.accessIdx = true
  · rw [if_pos hu, if_pos hu]
  · rw [if_neg hu, if_neg hu]

end

/-! What the queues may have read through an entry stays with them, or the entry stays (R484). -/

/-- What the queues have taken they keep, and what they may read through an entry of the TLB they may still read, or have taken. -/
structure State.Retains (s t : State) : Prop where
  queued : ∀ c ∈ s.queued, c ∈ t.queued
  entry : ∀ e ∈ s.tlb, ∀ c ∈ s.readThrough e, c ∈ t.queued ∨ (e ∈ t.tlb ∧ c ∈ t.readThrough e)

theorem State.Retains.refl (s : State) : s.Retains s := ⟨fun _ h => h, fun _ he _ hc => .inr ⟨he, hc⟩⟩

theorem State.Retains.trans {s t u : State} (h : s.Retains t) (k : t.Retains u) : s.Retains u where
  queued c hc := k.queued c (h.queued c hc)
  entry e he c hc := by
    rcases h.entry e he c hc with hc | ⟨he, hc⟩
    · exact .inl (k.queued c hc)
    · exact k.entry e he c hc

/-- An update of memory that takes away no value that the queues may hold. -/
theorem State.Retains.of_held {s t : State}
    (h : t = { s with mem := t.mem, stale := t.stale, bus := t.bus, cr2 := t.cr2, accessIdx := t.accessIdx })
    (hb : ∀ k, ∀ b ∈ s.heldBytes k, b ∈ t.heldBytes k) : s.Retains t where
  queued c hc := by
    rw [h]
    exact hc
  entry e he c hc := by
    obtain ⟨hp, a, ha, hv, hca, hc⟩ := State.mem_readThrough.mp hc
    have hkey := hb _ _ hc
    refine .inr ⟨?_, State.mem_readThrough.mpr ?_⟩
    · rw [h]
      exact he
    · rw [h] at hkey ⊢
      exact ⟨hp, a, ha, hv, hca, hkey⟩

theorem State.Retains.markEntry (s : State) (pa bits : Word) : s.Retains (s.markEntry pa bits) := by
  refine .of_held ?_ fun k b hb => ?_
  · rw [State.markEntry_eq]
  · unfold State.markEntry
    dsimp only
    split
    · exact hb
    · exact State.writeKeys_heldBytes hb

theorem State.Retains.cacheEntry (s : State) (e : TlbEntry) : s.Retains (s.cacheEntry e) where
  queued _ hc := State.mem_keepEntries.mpr (.inr hc)
  entry _ hx _ hc := (State.mem_cacheEntry_queued hx hc).symm.imp_right fun hx => ⟨hx, hc⟩

theorem State.Retains.dropEntry (s : State) (la : Word) : s.Retains (s.dropEntry la) where
  queued _ hc := State.mem_keepEntries.mpr (.inr hc)
  entry e he c hc := by
    by_cases hv : e.vpn = pageOf la
    · exact .inl (State.mem_keepEntries.mpr (.inl ⟨e, List.mem_filter.mpr ⟨he, by simpa using hv⟩, hc⟩))
    · exact .inr ⟨List.mem_filter.mpr ⟨he, by simpa using hv⟩, hc⟩

/-- The computation retains what the queues may have read, however it ends. -/
structure Retaining {α : Type} (x : M α) : Prop where
  keeps : Keeps State.Retains x

section
variable {α β : Type}

theorem Retaining.seq {x : M α} {y : M β} (hx : Retaining x) (hy : Retaining y) : Retaining (x >>= fun _ => y) :=
  ⟨.bind (fun _ _ _ => .trans) hx.keeps fun _ => hy.keeps⟩

theorem Retaining.get_bind {f : State → M α} (h : ∀ s, Retaining (f s)) : Retaining (get >>= f) := ⟨fun s => (h s).keeps s⟩

protected theorem Retaining.pure (a : α) : Retaining (pure a : M α) := ⟨.pure .refl a⟩

protected theorem Retaining.modify {k : State → State} (h : ∀ s : State, s.Retains (k s)) : Retaining (modify k : M Unit) := ⟨.modify h⟩

protected theorem Retaining.ite {c : Prop} [Decidable c] {x y : M α} (hx : Retaining x) (hy : Retaining y) :
    Retaining (if c then x else y) := ⟨.ite hx.keeps hy.keeps⟩

protected theorem Retaining.raiseIf {c : Bool} {x : M Unit} (hx : Retaining x) : Retaining (raiseIf c x) := ⟨.raiseIf .refl hx.keeps⟩

protected theorem Retaining.pageFault (la : Word) (p w u : Bool) : Retaining (pageFault la p w u : M α) :=
  ⟨fun _ => .of_held rfl fun _ _ hb => hb⟩

end

protected theorem Retaining.busTurn : Retaining busTurn := by
  refine ⟨fun s => ?_⟩
  unfold busTurn
  split
  · exact .refl s
  · rename_i x rest _
    have h : s.Retains ((s.withBus rest).mastered x.writes) := by
      refine .of_held ?_ fun _ _ hb => State.mastered_heldBytes hb
      rw [State.mastered_eq]
      rfl
    dsimp only
    split <;> exact h

protected theorem Retaining.updateEntry (due : Bool) (pa bits : Word) : Retaining (updateEntry due pa bits) :=
  .ite (.seq .busTurn (.modify fun s => .markEntry s pa bits)) (.pure _)

protected theorem Retaining.walk (la : Word) (w u : Bool) : Retaining (walk la w u) :=
  .seq .busTurn <| .get_bind fun _ => .seq (.raiseIf (.pageFault ..)) <| .seq .busTurn <| .get_bind fun _ =>
    .ite (.seq (.updateEntry ..) (.pageFault ..)) <| .seq (.raiseIf (.pageFault ..)) <| .seq (.updateEntry ..) <|
      .seq (.updateEntry ..) <| .seq (.modify fun s => .cacheEntry s _) (.pure _)

protected theorem Retaining.useEntry (la : Word) (w u : Bool) (e : TlbEntry) : Retaining (useEntry la w u e) :=
  .seq (.raiseIf (.pageFault ..)) (.ite (.seq (.modify fun s => .dropEntry s la) (.walk ..)) (.pure _))

protected theorem Retaining.translate (la : Word) (w u : Bool) : Retaining (translate la w u) :=
  .seq (.modify fun _ => .of_held rfl fun _ _ hb => hb) <| .get_bind fun s => by
    cases s.tlbHit la with
    | some e => exact .useEntry ..
    | none => exact .walk ..

/-- Settles O16: the walk where no other master writes has one outcome for each answer of the tables; the TLB's entry decides whether it is
taken; what an entry that goes has let the queues read is retained through every update on the way. -/
theorem pageWalk : Obligations.PageWalk := by
  refine ⟨fun s la write user hb => ⟨fun hd => ?absent, fun hd ht => ?tableAbsent, fun hd ht hf => ?forbidden,
    fun p => pageFaultCode_bits s.freeIdx p write user⟩, fun s t la pa write user hb hm h => ?succeeds,
    fun s la write user => ⟨fun h => translate_of_miss h, fun e h => ?entry⟩, fun s t la pa write user h e he hgone hp a ha hv => ?queues⟩
  case absent => exact walk_of_pde_absent hb hd
  case tableAbsent =>
    have h := walk_of_pte_absent (write := write) (user := user) hb hd ht
    split at h
    · rename_i hdue
      have hcode : pageFaultCode (s.markEntry (pdeAddr s.cr3 la) 0x20).freeIdx false write user =
          pageFaultCode s.freeIdx false write user := by
        rw [State.markEntry_eq]
      rw [pageFault_apply, hcode] at h
      exact .inr ⟨by simpa using (Bool.and_eq_true_iff.mp hdue).1, h⟩
    · exact .inl h
  case forbidden => exact walk_of_forbidden hb hd ht hf
  case succeeds =>
    have hbyte := ((State.Within.refl hb hm).walk (fun _ hk => hk) h).byte
    obtain ⟨hd, ht, hp, rfl, hleft⟩ := walk_ok hb hm h
    have hpage (a : Word) : t.pageEntry a = (s.walkMarked la write).pageEntry a := by
      rw [hleft]
      rfl
    have hhead : t.tlb.head? = some (s.walkEntry la write) := by
      rw [hleft]
      rfl
    have hmem : t.mem = (s.walkMarked la write).mem := by
      rw [hleft]
      rfl
    have hentries := State.walkMarked_entries (la := la) (write := write) hm
    rw [← hpage, ← hpage] at hentries
    obtain ⟨hdirA, htabA, htabD⟩ := entries_accessed hentries
    exact ⟨hd, ht, hp, rfl, hhead, hdirA, htabA, htabD, hentries,
      fun ha ht hd => hmem.trans (congrArg State.mem (State.walkMarked_of_set ha ht hd)), hbyte⟩
  case entry =>
    have hused := useEntry_apply (la := la) (write := write) (user := user) e s.nextAccess
    have htranslate := translate_of_entry (write := write) (user := user) h
    refine ⟨fun hd ht hda hta hagree => ?_, ?_⟩
    · have htable : s.tableEntry la = some e := by
        unfold State.tableEntry
        dsimp only
        rw [hd, ht, hda, hta, hagree]
        rfl
      rw [if_pos (.inl htable)] at htranslate
      exact htranslate.trans hused
    · split at htranslate
      · exact .inl (htranslate.trans hused)
      · exact .inr htranslate
  case queues =>
    have hkeeps := (Retaining.translate la write user).keeps s
    rw [h] at hkeeps
    have hread : (a.toNat, s.byte (s.physKey (e.frame ++ a.extractLsb' 0 12))) ∈ s.readThrough e :=
      State.mem_readThrough.mpr ⟨hp, a, ha, hv, rfl, List.mem_cons_self⟩
    exact (hkeeps.entry e he _ hread).resolve_right fun hkept => hgone hkept.1

end Sys2Proof.Machine
end

-- ==== Proofs: decoding, prefixes and rejected encodings ====
section
/-!
PROOFS. Bytes that decode, bytes that do not, and what a step makes of both (30_encoding.md R500 to R509, R526, R570; 60_exceptions.md R1055).
-/
namespace Sys2Proof

/-! Encodings. -/

theorem decode_append_of_reads {c : Ctx} {bs : List Byte} {i : Instr} (h : Reads (nextByte >>= decodeOpcode c) bs i) (rest : List Byte) :
    decode c (bs ++ rest) = .instr i bs.length := by
  unfold decode
  rw [h.ok rest]
  simp

/-- REP and REPNE are followed by the same string opcodes. -/
theorem repeated_eq_none_iff (p q : Rep) (b : Byte) : repeated p b = none ↔ repeated q b = none := by
  unfold repeated
  dsimp only
  split <;> simp

/-- Repeat prefixes stand alone before another byte, and that byte is not taken (R509). -/
theorem repPrefix_alone {p : Rep} {alone : Instr} {b : Byte} (h : repeated p b = none) (tail : List Byte) :
    repPrefix p alone (b :: tail) = .ok alone (b :: tail) := by
  show (match repeated p b with
    | some i => (.ok i tail : EStateM.Result DecodeStop (List Byte) Instr)
    | none => .ok alone (b :: tail)) = _
  rw [h]

/-- A first byte after which nothing is taken. -/
theorem decode_of_first {c : Ctx} {b : Byte} {rest : List Byte} {i : Instr} (h : decodeOpcode c b rest = .ok i rest) :
    decode c (b :: rest) = .instr i 1 := by
  unfold decode
  rw [Parse.bind_of_ok (p := nextByte) (rest := rest) (a := b) rfl, h]
  simp

/-- Settles O1: the readers take an encoding's bytes and no other; repeat prefixes are that one byte, by what follows it. -/
theorem decodeReadsEncodedInstruction : Obligations.DecodeReadsEncodedInstruction := by
  intro c i rest hwf hnext
  by_cases hrep : i = .pfxRep ∨ i = .pfxRepne
  · obtain ⟨b, tail, rfl, hb⟩ := hnext hrep
    rcases hrep with rfl | rfl
    · exact decode_of_first (repPrefix_alone hb tail)
    · exact decode_of_first (repPrefix_alone ((repeated_eq_none_iff .rep .repne b).mp hb) tail)
  · obtain ⟨hrep, hrepne⟩ := not_or.mp hrep
    exact decode_append_of_reads (reads_encode c i hwf hrep hrepne) rest

/-- Settles O2: seven words are encodings, and for two the reader of the opcode has no row. -/
theorem encodedWordsDecode : Obligations.EncodedWordsDecode := by
  have read (c : Ctx) (i : Instr) (hwf : i.wf c = true) (hrep : i ≠ .pfxRep) (hrepne : i ≠ .pfxRepne) :=
    (decode_of_reads (reads_encode c i hwf hrep hrepne)).1
  exact ⟨read .real (.addRmReg false false (.mem (.based16 .bxsi (.d8 0x01))) .ebx) rfl nofun nofun,
    read ⟨true, true, none⟩ (.movRegRm true (.mem (.sibNoBase (some .ecx) 2 0x1000)) .eax) rfl nofun nofun,
    read .real (.jmpFar 0x0100 0xF000) rfl nofun nofun, read .real (.repMovs false) rfl nofun nofun,
    read .real (.movCrReg .cr3 .eax) rfl nofun nofun, read .real (.lea (.reg .eax) .eax) rfl nofun nofun,
    read .real (.shldImm (.reg .eax) .ebx 0x04) rfl nofun nofun, rfl, rfl⟩

/-! Encodings of special registers that no row has (R526). -/

theorem decode_reject {c : Ctx} {bs rest : List Byte} {r : Reject} (h : (nextByte >>= decodeOpcode c) bs = .error (.reject r) rest) :
    decode c bs = .reject r := by
  unfold decode
  rw [h]

section
variable (md : BitVec 2) (mid rm : BitVec 3)

theorem nextModRM_bind (f : ModRM → Parse Instr) : (nextModRM >>= f) [md ++ mid ++ rm] = f ⟨md, mid, rm⟩ [] :=
  Parse.bind_of_ok ((Reads.nextModRM md mid rm).ok [])

section
variable {md}

/-! Top bits other than 11 come before the register's code. -/

theorem controlReg_mod (k : CReg → Reg → Instr) (h : md ≠ 3) :
    controlReg k [md ++ mid ++ rm] = .error (.reject .specialMod) [] := by
  refine (nextModRM_bind ..).trans ?_
  rw [if_pos h]
  rfl

theorem debugReg_mod (k : DReg → Reg → Instr) (h : md ≠ 3) : debugReg k [md ++ mid ++ rm] = .error (.reject .specialMod) [] := by
  refine (nextModRM_bind ..).trans ?_
  rw [if_pos h]
  rfl

theorem testReg_mod (k : TReg → Reg → Instr) (h : md ≠ 3) : testReg k [md ++ mid ++ rm] = .error (.reject .specialMod) [] := by
  refine (nextModRM_bind ..).trans ?_
  rw [if_pos h]
  rfl

end

/-! Codes of no register. -/

variable {mid}

theorem controlReg_cr1 (k : CReg → Reg → Instr) : controlReg k [(3 : BitVec 2) ++ (1 : BitVec 3) ++ rm] = .error (.reject .cr1) [] :=
  nextModRM_bind 3 1 rm _

theorem controlReg_code (k : CReg → Reg → Instr) (h : 4 ≤ mid.toNat) :
    controlReg k [(3 : BitVec 2) ++ mid ++ rm] = .error (.reject .specialCode) [] := by
  have hcodes : mid = 4 ∨ mid = 5 ∨ mid = 6 ∨ mid = 7 := by
    revert mid
    decide
  rcases hcodes with rfl | rfl | rfl | rfl
  all_goals exact nextModRM_bind 3 _ rm _

theorem debugReg_code (k : DReg → Reg → Instr) (h : mid = 4 ∨ mid = 5) :
    debugReg k [(3 : BitVec 2) ++ mid ++ rm] = .error (.reject .dr45) [] := by
  rcases h with rfl | rfl
  all_goals exact nextModRM_bind 3 _ rm _

theorem testReg_code (k : TReg → Reg → Instr) (h : mid.toNat < 6) :
    testReg k [(3 : BitVec 2) ++ mid ++ rm] = .error (.reject .specialCode) [] := by
  have hcodes : mid = 0 ∨ mid = 1 ∨ mid = 2 ∨ mid = 3 ∨ mid = 4 ∨ mid = 5 := by
    revert mid
    decide
  rcases hcodes with rfl | rfl | rfl | rfl | rfl | rfl
  all_goals exact nextModRM_bind 3 _ rm _

end

end Sys2Proof

namespace Sys2Proof.Machine

open Sys2Proof

/-! Prefixes. -/

/-- Settles O60: each of the eleven is `withPrefix` of its own field. -/
theorem prefixesRemembered : Obligations.PrefixesRemembered := fun _ =>
  ⟨rfl, rfl, rfl, rfl, rfl, rfl, rfl, rfl, rfl, rfl, rfl⟩

/-! The next instruction. -/

/-- Where nothing comes before the next instruction it is fetched (60_exceptions.md R1054). -/
theorem State.boundary_of_quiet {s : State} (h : s.quiet) : s.boundary = s.settle.runNext := by
  obtain ⟨-, hrun, hdue, htrap, hnmi, hintr, hbp⟩ := h
  unfold State.boundary State.ordinary State.proceed
  rw [hrun, hdue, htrap, hnmi, hintr, hbp]
  rfl

theorem State.cycle_eq_runNext {s : State} (hq : s.pfx.count = 0 → s.quiet) (hr : s.run ≠ .stalled) : s.cycle = s.fetchState.runNext := by
  unfold State.cycle State.fetchState
  rw [if_neg hr]
  split
  case isTrue hc =>
    rw [(hq hc).1, ← State.boundary_of_quiet (hq hc)]
  case isFalse => rfl

theorem step_of_fetch {s t : State} {d : Decoded} (hq : s.pfx.count = 0 → s.quiet) (hr : s.run ≠ .stalled)
    (hf : fetch s.fetchState = .ok d t) : step s = freshen (s.fetchState.runDecoded t d) := by
  unfold step
  rw [State.cycle_eq_runNext hq hr]
  unfold State.runNext
  rw [hf]

/-! Bytes that are no instruction (R570). -/

section
variable {s t : State} {body : M Unit}

theorem State.rejected_of_lock (hl : t.pfx.lock = true) : s.rejected t body = takeException s t ⟨6, none⟩ false := by
  unfold State.rejected
  rw [M.seqRight_apply, M.bind_of_error (e := .exc ⟨6, none⟩ false) (t := t) (by rw [noLock_apply, hl]; rfl)]
  rfl

theorem State.rejected_of_error {e : Stop} (hl : t.pfx.lock = false) (h : body t = .error e t) : s.rejected t body = stopped s t e := by
  unfold State.rejected
  rw [M.seqRight_apply, M.bind_of_ok (a := ()) (t := t) (by rw [noLock_apply, hl]; rfl), h]

/-- Below CPL 0 the privilege check comes first. -/
theorem State.rejected_unprivileged (hl : t.pfx.lock = false) (hu : t.unprivileged) :
    s.rejected t (requireCpl0 *> body) = takeException s t ⟨13, some 0⟩ false :=
  State.rejected_of_error hl (M.bind_of_error (requireCpl0_error hu))

theorem requireCpl0_of_not_unprivileged (hu : ¬ s.unprivileged) : requireCpl0 s = .ok () s := by
  obtain ⟨hv, hp⟩ := not_or.mp hu
  exact requireCpl0_ok.mpr ⟨⟨Bool.eq_false_iff.mpr hv, fun h => by_contra fun hc => hp ⟨h, hc⟩⟩, rfl⟩

theorem State.rejected_privileged {e : Stop} (hl : t.pfx.lock = false) (hu : ¬ t.unprivileged) (h : body t = .error e t) :
    s.rejected t (requireCpl0 *> body) = stopped s t e :=
  State.rejected_of_error hl ((M.bind_of_ok (requireCpl0_of_not_unprivileged hu)).trans h)

end

/-- An entry that succeeds is the delivery. -/
theorem deliver_of_entry {e : Event} {eip : Word} {s t : State} (h : entry e eip s = .ok () t) : deliver e eip s = .next (t.entered e) := by
  unfold deliver deliverWith
  rw [h]

/-- `#UD` is raised with LOCK before the encoding and without. -/
theorem undefined_apply (s : State) : undefined s = deliver { vector := 6, kind := .fault, code := none } s.eip s := by
  cases hl : s.pfx.lock with
  | true => exact instr_of_lock hl
  | false => exact instr_ud hl rfl

theorem undocumented_apply {s : State} (hl : s.pfx.lock = false) : undocumented s = .refused .undocumentedOpcode :=
  (instr_of_noLock hl).trans (perform_refuse rfl)

/-- Settles O52: rows that name no instruction are `undefined` or `undocumented`; what no row has is rejected after the privilege check. -/
theorem undefinedEncodings : Obligations.UndefinedEncodings := by
  refine ⟨fun s t w md rm i h hi => ?undefined, fun s d w md rm i hl hi => ?undocumented, fun s t r hq hr hf => ?rejected,
    fun c eee x => ?decoded⟩
  case undefined =>
    have hud := (undefined_apply s).trans (deliver_of_entry h)
    simp only [List.mem_cons, List.not_mem_nil, or_false] at hi
    rcases hi with rfl | rfl | rfl | rfl | rfl | rfl | rfl | rfl | rfl | rfl | rfl | rfl | rfl | rfl | rfl | rfl | rfl | rfl | rfl | rfl |
      rfl | rfl | rfl | rfl | rfl | rfl | rfl | rfl | rfl
    all_goals exact hud
  case undocumented =>
    simp only [List.mem_cons, List.not_mem_nil, or_false] at hi
    rcases hi with rfl | rfl | rfl | rfl | rfl | rfl | rfl | rfl | rfl
    all_goals exact undocumented_apply hl
  case rejected =>
    rw [step_of_fetch hq hr hf]
    refine ⟨fun hl => ?lock, fun hl => ⟨?undefinedOpcode, ?setccField, ?unprivileged, fun hu => ⟨?specialCode, ?specialMod, ?cr1, ?dr45⟩⟩⟩
    case lock => cases r <;> exact congrArg freshen (State.rejected_of_lock hl)
    case unprivileged =>
      rintro (rfl | rfl | rfl | rfl) hu
      all_goals exact congrArg freshen (State.rejected_unprivileged hl hu)
    case undefinedOpcode | setccField =>
      rintro rfl
      exact congrArg freshen (State.rejected_of_error hl rfl)
    all_goals
      rintro rfl
      exact congrArg freshen (State.rejected_privileged hl hu rfl)
  case decoded =>
    refine ⟨fun second hs => ⟨?one, ?fourOn⟩, fun second hs he => ?debug, fun second hs he => ?test, fun top ht second hs => ?topBits⟩
    case one =>
      rintro rfl
      rcases hs with rfl | rfl
      · exact decode_reject (controlReg_cr1 x .movRegCr)
      · exact decode_reject (controlReg_cr1 x .movCrReg)
    case fourOn =>
      intro he
      rcases hs with rfl | rfl
      · exact decode_reject (controlReg_code x .movRegCr he)
      · exact decode_reject (controlReg_code x .movCrReg he)
    case debug =>
      rcases hs with rfl | rfl
      · exact decode_reject (debugReg_code x .movRegDr he)
      · exact decode_reject (debugReg_code x .movDrReg he)
    case test =>
      rcases hs with rfl | rfl
      · exact decode_reject (testReg_code x .movRegTr he)
      · exact decode_reject (testReg_code x .movTrReg he)
    case topBits =>
      simp only [List.mem_cons, List.not_mem_nil, or_false] at hs
      rcases hs with rfl | rfl | rfl | rfl | rfl | rfl
      · exact decode_reject (controlReg_mod eee x .movRegCr ht)
      · exact decode_reject (debugReg_mod eee x .movRegDr ht)
      · exact decode_reject (controlReg_mod eee x .movCrReg ht)
      · exact decode_reject (debugReg_mod eee x .movDrReg ht)
      · exact decode_reject (testReg_mod eee x .movRegTr ht)
      · exact decode_reject (testReg_mod eee x .movTrReg ht)

/-- Settles O4: at a quiet boundary a step fetches, and what it fetches runs. -/
theorem stepRunsFetchedInstruction : Obligations.StepRunsFetchedInstruction := fun _ _ _ _ hq hr hf => step_of_fetch hq hr hf

end Sys2Proof.Machine
end

-- ==== Proofs: conditions ====
section
/-!
PROOFS. The sixteen conditions (30_encoding.md R525) in the jumps and in SETcc, and the loops (46_control_transfer.md R877 to R883;
47_setcc_enter_leave.md R900).
-/
namespace Sys2Proof.Machine

open Sys2Proof

/-! Conditions. An odd `tttn` is the negation of the even one before it. -/

theorem Flags.cond_nbe (f : Flags) : f.cond 7 = (!f.cf && !f.zf) := Bool.not_or ..

theorem Flags.cond_nl (f : Flags) : f.cond 13 = (f.sf == f.off) := Bool.not_not _

theorem Flags.cond_nle (f : Flags) : f.cond 15 = (!f.zf && f.sf == f.off) :=
  (Bool.not_or ..).trans (congrArg (!f.zf && ·) (Bool.not_not _))

/-! Jumps. -/

theorem State.target_eq (s : State) (a : Word) : s.target a = if s.osz32 then a else a &&& 0xFFFF := by
  unfold State.target
  rw [low16_eq]

theorem jumpIf_ok {c : Bool} {a : Word} {s : State} (h : c = true → a.toNat ≤ s.cs.limit.toNat) :
    jumpIf c a s = .ok () (if c then s.jump a else s.advance) := by
  cases c with
  | false => rfl
  | true => exact nearJump_ok.mpr ⟨h rfl, rfl⟩

theorem instr_jumpIf {c d : Bool} {a b : Word} {s : State} (hl : s.pfx.lock = false) (hc : c = d) (ha : a = b)
    (h : d = true → b.toNat ≤ s.cs.limit.toNat) : instr (jumpIf c a) s = .next (if d then s.jump b else s.advance).complete := by
  subst hc ha
  exact instr_ok hl (jumpIf_ok h)

/-- The count is decremented before the jump, whose target was taken before. -/
theorem instr_loopBody {c : Bool} {a b : Word} {s : State} (hl : s.pfx.lock = false) (ha : a = b)
    (h : c = true → s.addrReg .ecx ≠ 1 → b.toNat ≤ s.cs.limit.toNat) :
    let u := s.setAddrReg .ecx (s.addrReg .ecx - 1)
    instr (loopBody c a) s = .next (if c = true ∧ s.addrReg .ecx ≠ 1 then u.jump b else u.advance).complete := by
  subst ha
  have hjump := jumpIf_ok (c := c && s.addrReg .ecx != 1) (a := a) (s := s.setAddrReg .ecx (s.addrReg .ecx - 1)) (by simpa using h)
  refine (instr_ok hl hjump).trans ?_
  simp

/-- Settles O40: a jump is `jumpIf` of its condition, and a loop decrements its count before one. -/
theorem conditionalAndCountedJumps : Obligations.ConditionalAndCountedJumps := by
  refine ⟨fun s r8 rel hl => ?jumps, fun s rel hl => ?counts⟩
  case jumps =>
    have hshort := State.target_eq s (s.eipNext + r8.signExtend 32)
    have hnear := State.target_eq s (s.eipNext + if s.osz32 then rel else (rel.setWidth 16).signExtend 32)
    have nbe := s.flags.cond_nbe
    have nl := s.flags.cond_nl
    have nle := s.flags.cond_nle
    have both {c d : Bool} (hc : c = d) := And.intro (instr_jumpIf hl hc hshort) (instr_jumpIf hl hc hnear)
    exact ⟨both rfl, both rfl, both rfl, both rfl, both rfl, both rfl, both rfl, both nbe, both rfl, both rfl, both rfl, both rfl, both rfl,
      both nl, both rfl, both nle⟩
  case counts =>
    have htarget : s.relTarget8 rel = _ := State.target_eq s (s.eipNext + rel.signExtend 32)
    refine ⟨fun h => ?jcxz, instr_loopBody hl htarget, instr_loopBody hl htarget, instr_loopBody hl htarget⟩
    refine (instr_jumpIf hl rfl htarget (by simpa using h)).trans ?_
    simp

/-! SETcc. -/

theorem setByte_mem {c : Bool} {x : MemRef} {keys : List Nat} {s t : State} (h : memKeys (s.ea x).1 (s.ea x).2 1 true s = .ok keys t) :
    setByte (.mem x) c s = .ok () (t.writeKeys keys (if c then 1 else 0)).advance := by
  refine M.bind_of_ok (a := ()) ((writeRM_mem ..).trans (memWrite_ok.mpr ⟨keys, t, h, ?_⟩))
  cases c <;> rfl

/-- The two forms of SETcc. -/
theorem instr_setByte {c d : Bool} {q : Reg} {x : MemRef} {keys : List Nat} {s t : State} (hl : s.pfx.lock = false) (hc : c = d) :
    instr (setByte (.reg q) c) s = .next (s.setReg .b8 q (if d then 1 else 0)).advance.complete ∧
      (memKeys (s.ea x).1 (s.ea x).2 1 true s = .ok keys t →
        instr (setByte (.mem x) c) s = .next (t.writeKeys keys (if d then 1 else 0)).advance.complete) := by
  subst hc
  exact ⟨instr_ok hl rfl, fun h => instr_ok hl (setByte_mem h)⟩

/-- Settles O44: each is `setByte` of its condition. -/
theorem byteSetOnCondition : Obligations.ByteSetOnCondition := by
  intro s t q x keys hl
  have nbe := s.flags.cond_nbe
  have nl := s.flags.cond_nl
  have nle := s.flags.cond_nle
  have both {c d : Bool} (hc : c = d) := instr_setByte (q := q) (x := x) (keys := keys) (t := t) hl hc
  exact ⟨both rfl, both rfl, both rfl, both rfl, both rfl, both rfl, both rfl, both nbe, both rfl, both rfl, both rfl, both rfl, both rfl,
    both nl, both rfl, both nle⟩

end Sys2Proof.Machine
end

-- ==== Proofs: LOCK ====
section
/-!
PROOFS. LOCK before anything but the listed forms raises `#UD`; before one of them no other bus master comes between the read and the write
(30_encoding.md R508; 20_memory.md R235, R236).
-/
namespace Sys2Proof.Machine

open Sys2Proof

/-! Where it is not allowed. -/

theorem interruptAfter_of_lock {pre : M Unit} {vec : Byte} {s : State} (hl : s.pfx.lock = true) :
    interruptAfter pre vec s = deliver { vector := 6, kind := .fault, code := none } s.eip s := by
  unfold interruptAfter
  rw [M.seqRight_apply, M.bind_of_error (e := .exc ⟨6, none⟩ false) (t := s) (by rw [noLock_apply, hl]; rfl)]
  rfl

theorem aluRmReg_of_lock {op : AluOp} {d w : Bool} {m : RM} {r : Reg} {s : State} (hl : s.pfx.lock = true)
    (hf : d = true ∨ ∃ q, m = .reg q) :
    aluRmReg op d w m r s = deliver { vector := 6, kind := .fault, code := none } s.eip s := by
  cases d with
  | true => exact instr_of_lock hl
  | false =>
    obtain ⟨q, rfl⟩ := hf.resolve_left nofun
    exact instr_of_lock hl

theorem exec_of_lock {s : State} {i : Instr} (hl : s.pfx.lock = true) (hf : LockForm i = false) (hp : IsPrefix i = false) :
    exec i s = deliver { vector := 6, kind := .fault, code := none } s.eip s := by
  cases i
  case pfxAddrSize | pfxLock | pfxOpSize | pfxCs | pfxDs | pfxEs | pfxFs | pfxGs | pfxSs | pfxRep | pfxRepne => exact nomatch hp
  case addRmReg d _ m _ | orRmReg d _ m _ | adcRmReg d _ m _ | sbbRmReg d _ m _ | andRmReg d _ m _ | subRmReg d _ m _ | xorRmReg d _ m _ =>
    refine aluRmReg_of_lock hl ?_
    cases m with
    | reg q => exact .inr ⟨q, rfl⟩
    | mem x => exact .inl (by simpa [LockForm] using hf)
  case addRmImm m _ | orRmImm m _ | adcRmImm m _ | sbbRmImm m _ | andRmImm m _ | subRmImm m _ | xorRmImm m _ | notRm m | negRm m | incRm m |
      decRm m | xchgRmReg m _ | btsRmReg m _ | btrRmReg m _ | btcRmReg m _ | btsRmImm m _ | btrRmImm m _ | btcRmImm m _ =>
    cases m with
    | reg q => exact instr_of_lock hl
    | mem x => exact nomatch hf
  case intN | int3 => exact interruptAfter_of_lock hl
  case into =>
    show (if s.flags.off then _ else _) = _
    split
    · exact interruptAfter_of_lock hl
    · exact instr_of_lock hl
  all_goals exact instr_of_lock hl

/-! Where it is allowed: the operand that an access has found, in the state in which the access leaves the machine. -/

theorem State.between_of_lock {s : State} (hl : s.pfx.lock = true) : s.between = s := by
  unfold State.between
  rw [if_pos hl]

section
variable {g : Seg} {off : Word} {nb : Nat} {write : Bool} {keys : List Nat} {s t : State}

theorem memKeys_pfx (h : memKeys g off nb write s = .ok keys t) : t.pfx = s.pfx := by
  rw [(memKeys_accessed h).frame]

theorem memKeys_eipNext (h : memKeys g off nb write s = .ok keys t) : t.eipNext = s.eipNext := by
  rw [(memKeys_accessed h).frame]

theorem memKeys_between (hl : s.pfx.lock = true) (h : memKeys g off nb write s = .ok keys t) : t.between = t :=
  State.between_of_lock (by rw [memKeys_pfx h, hl])

end

/-- The bytes of an operand and the flags replaced. -/
def State.putOperand (t : State) (keys : List Nat) (v : Word) (f : Flags) : State := { t.writeKeys keys v with flags := f }

theorem State.putOperand_eip (t : State) (keys : List Nat) (v : Word) (f : Flags) :
    (t.putOperand keys v f).advance.complete.eip = t.eipNext := by
  simp [State.putOperand, State.advance, State.complete]

theorem State.updateKeys_of_between {t : State} {W : Width} {keys : List Nat} (hb : t.between = t)
    (k : BitVec W.bits → Flags → BitVec W.bits × Flags) :
    let x := k ((t.readKeys keys).setWidth W.bits) t.flags
    t.updateKeys W keys k = t.putOperand keys (x.1.setWidth 32) x.2 := by
  unfold State.updateKeys
  rw [hb]
  rfl

theorem State.bitKeys_of_between {t : State} {op : BitOp} {W : Width} {keys : List Nat} {i : Nat} (hop : op ≠ .test) (hb : t.between = t) :
    let v : BitVec W.bits := (t.readKeys keys).setWidth W.bits
    t.bitKeys op W keys i = t.putOperand keys ((op.apply v i).setWidth 32) (bitFlags t.flags t.freeIdx v i) := by
  cases op with
  | test => exact absurd rfl hop
  | complement | reset | set =>
    unfold State.bitKeys
    rw [hb]
    rfl

section
variable {s t : State} {x : MemRef} {keys : List Nat} {W : Width}

theorem exchange_mem {r : Reg} (h : memKeys (s.ea x).1 (s.ea x).2 W.bytes true s = .ok keys t) :
    exchange W (.mem x) r s = .ok () ((t.writeKeys keys ((s.reg W r).setWidth 32)).setReg W r ((t.readKeys keys).setWidth W.bits)).advance :=
  M.bind_of_ok h

/-- A read and a write of an operand with LOCK. -/
theorem readWrite_locked (k : BitVec W.bits → Flags → BitVec W.bits × Flags) (hl : s.pfx.lock = true)
    (h : memKeys (s.ea x).1 (s.ea x).2 W.bytes true s = .ok keys t) :
    let y := k ((t.readKeys keys).setWidth W.bits) t.flags
    lockable (.mem x) (readWrite W (.mem x) k) s = .next (t.putOperand keys (y.1.setWidth 32) y.2).advance.complete := by
  rw [lockable_readWrite_mem k h, State.updateKeys_of_between (memKeys_between hl h)]

theorem aluTo_locked (op : AluOp) (b : BitVec W.bits) (hl : s.pfx.lock = true)
    (h : memKeys (s.ea x).1 (s.ea x).2 W.bytes true s = .ok keys t) :
    let y := alu op t.flags s.freeIdx ((t.readKeys keys).setWidth W.bits) b
    lockable (.mem x) (aluTo op W (.mem x) b) s = .next (t.putOperand keys (y.1.setWidth 32) y.2).advance.complete :=
  readWrite_locked (fun a f => alu op f s.freeIdx a b) hl h

/-- A bit of an operand tested and changed with LOCK. -/
theorem bitKeys_locked {op : BitOp} {i : Nat} {g : Seg} {off : Word} {R : Result} (hop : op ≠ .test) (hl : s.pfx.lock = true)
    (h : memKeys g off W.bytes true s = .ok keys t) (hR : R = .next (t.bitKeys op W keys i).advance.complete) :
    let v : BitVec W.bits := (t.readKeys keys).setWidth W.bits
    let u := (t.putOperand keys ((op.apply v i).setWidth 32) (bitFlags t.flags t.freeIdx v i)).advance.complete
    R = .next u ∧ u.eip = s.eipNext := by
  rw [State.bitKeys_of_between hop (memKeys_between hl h)] at hR
  exact ⟨hR, (State.putOperand_eip ..).trans (memKeys_eipNext h)⟩

end

/-- Settles O53: the listed forms are those whose meaning starts by `lockMemory`, and with LOCK the bus is kept from the read to the write. -/
theorem lockOnlyBeforeListedForms : Obligations.LockOnlyBeforeListedForms := by
  refine ⟨fun s i => exec_of_lock, fun s t w s8 r imm x keys hl h => ?operand, fun s t r n x keys hl => ?bit⟩
  case operand =>
    have forms (op : AluOp) := And.intro (aluTo_locked op (s.reg (s.width w) r) hl h)
      (aluTo_locked op (immValue (s.width w) (s8 && w) imm) hl h)
    refine ⟨forms .add, forms .adc, forms .sub, forms .sbb, forms .and, forms .or, forms .xor,
      readWrite_locked (fun a f => (~~~ a, f)) hl h, readWrite_locked (fun a f => subFlags f 0 a false) hl h,
      readWrite_locked (fun a f => incFlags f a) hl h, readWrite_locked (fun a f => decFlags f a) hl h,
      lockable_mem_ok (exchange_mem h), fun y f u hu => ?frame⟩
    simp only [List.mem_cons, List.not_mem_nil, or_false] at hu
    rcases hu with rfl | rfl
    · exact ⟨(State.putOperand_eip t keys _ f).trans (memKeys_eipNext h), fun k hk => State.byte_writeKeys_notMem t keys _ k hk⟩
    · exact ⟨(State.putOperand_eip t keys _ t.flags).trans (memKeys_eipNext h), fun k hk => State.byte_writeKeys_notMem t keys _ k hk⟩
  case bit =>
    exact ⟨⟨fun h => bitKeys_locked nofun hl h (lockable_mem_ok (bitImm_mem .complement n h)),
        fun h => bitKeys_locked nofun hl h (lockable_mem_ok (bitReg_mem .complement h))⟩,
      ⟨fun h => bitKeys_locked nofun hl h (lockable_mem_ok (bitImm_mem .reset n h)),
        fun h => bitKeys_locked nofun hl h (lockable_mem_ok (bitReg_mem .reset h))⟩,
      ⟨fun h => bitKeys_locked nofun hl h (lockable_mem_ok (bitImm_mem .set n h)),
        fun h => bitKeys_locked nofun hl h (lockable_mem_ok (bitReg_mem .set h))⟩,
      fun op i k hk => State.byte_writeKeys_notMem t keys _ k hk⟩

end Sys2Proof.Machine
end

-- ==== Proofs: how computations stop ====
section
/-!
PROOFS. How a computation may stop short. Memory, descriptors, stacks and transfers raise exceptions and end at bus operations; only the
second half of a task switch raises an exception that is not undone (21_protection.md R387), and of what a delivery does only the entry from
Virtual 8086 mode refuses (60_exceptions.md R1070).
-/
namespace Sys2Proof.Machine

open Sys2Proof

/-! Stops. -/

/-- The stop undoes the instruction, or ends the processor's activity. -/
def Stop.undone : Stop → Bool
  | .exc _ keep => !keep
  | .refuse _ => false
  | .bus _ => true

/-- The stop is an exception past the commit point of a task switch. -/
def Stop.commits (e : Stop) : Prop := ∃ x, e = .exc x true

/-- What may stop an entry, beside what undoes it. -/
def Stop.ofEntry (e : Stop) : Prop := e.commits ∨ e = .refuse .gate286FromV86

/-- The computation stops by what undoes the instruction, or else as `also` says. -/
structure StopsBy {α : Type} (also : Stop → Prop) (x : M α) : Prop where
  stops : ∀ {s e t}, x s = .error e t → e.undone = true ∨ also e

section
variable {α β : Type} {also : Stop → Prop}

/-! Parts of computations. -/

protected theorem StopsBy.bind {x : M α} {f : α → M β} (hx : StopsBy also x) (hf : ∀ a, StopsBy also (f a)) : StopsBy also (x >>= f) := by
  refine ⟨fun h => ?_⟩
  rcases M.bind_error.mp h with h | ⟨a, t, -, h⟩
  · exact hx.stops h
  · exact (hf a).stops h

theorem StopsBy.seq {x : M α} {y : M β} (hx : StopsBy also x) (hy : StopsBy also y) : StopsBy also (x >>= fun _ => y) := hx.bind fun _ => hy

protected theorem StopsBy.pure (a : α) : StopsBy also (pure a : M α) := ⟨nofun⟩

theorem StopsBy.get_bind {f : State → M α} (h : ∀ s, StopsBy also (f s)) : StopsBy also (get >>= f) := ⟨fun {s _ _} => (h s).stops⟩

protected theorem StopsBy.modify (k : State → State) : StopsBy also (modify k : M Unit) := ⟨nofun⟩

protected theorem StopsBy.raise (v : Byte) (c : Option Half) : StopsBy also (raise v c : M α) := ⟨fun h => by cases h; exact .inl rfl⟩

/-- After a refusal nothing comes. -/
theorem StopsBy.refuse_bind {r : Refusal} (h : also (.refuse r)) (f : α → M β) : StopsBy also (refuse r >>= f) :=
  ⟨fun hs => by cases hs; exact .inr h⟩

protected theorem StopsBy.ite {c : Prop} [Decidable c] {x y : M α} (hx : StopsBy also x) (hy : StopsBy also y) :
    StopsBy also (if c then x else y) := by
  split
  · exact hx
  · exact hy

protected theorem StopsBy.raiseIf {c : Bool} {x : M Unit} (hx : StopsBy also x) : StopsBy also (raiseIf c x) := .ite hx (.pure ())

/-- A check that raises an exception at once. -/
theorem StopsBy.check {c : Bool} {v : Byte} {e : Option Half} : StopsBy also (Machine.raiseIf c (Machine.raise v e)) := .raiseIf (.raise v e)

protected theorem StopsBy.locked {x : M α} (hx : StopsBy also x) : StopsBy also (locked x) := by
  refine ⟨fun h => ?_⟩
  unfold Machine.locked at h
  dsimp only at h
  split at h <;> cases h
  exact hx.stops ‹_›

protected theorem StopsBy.lockedIf {c : Bool} {x : M α} (hx : StopsBy also x) : StopsBy also (lockedIf c x) := by
  cases c with
  | false => exact hx
  | true => exact hx.locked

theorem StopsBy.mono {p q : Stop → Prop} {x : M α} (hx : StopsBy p x) (h : ∀ e, p e → q e) : StopsBy q x :=
  ⟨fun hs => (hx.stops hs).imp_right (h _)⟩

/-- Past the commit point an exception is not undone. -/
protected theorem StopsBy.committed {x : M α} (hx : StopsBy Stop.commits x) : StopsBy Stop.commits (committed x) := by
  refine ⟨fun h => ?_⟩
  unfold Machine.committed at h
  split at h <;> cases h
  · exact .inr ⟨_, rfl⟩
  · exact hx.stops ‹_›

/-! Accesses to memory and ports. -/

protected theorem StopsBy.busTurn : StopsBy also busTurn := by
  refine ⟨fun {s _ _} h => ?_⟩
  unfold Machine.busTurn at h
  cases hb : s.bus with
  | nil =>
    rw [hb] at h
    cases h
  | cons x rest =>
    obtain ⟨writes, stop⟩ := x
    rw [hb] at h
    cases stop <;> cases h
    exact .inl rfl

protected theorem StopsBy.cycleTurn : StopsBy also cycleTurn := .locked .busTurn

protected theorem StopsBy.pageFault (la : Word) (p w u : Bool) : StopsBy also (pageFault la p w u : M α) :=
  .seq (.modify _) <| .get_bind fun _ => .raise ..

protected theorem StopsBy.updateEntry (due : Bool) (pa bits : Word) : StopsBy also (updateEntry due pa bits) :=
  .ite (.seq .busTurn (.modify _)) (.pure _)

protected theorem StopsBy.walk (la : Word) (w u : Bool) : StopsBy also (walk la w u) :=
  .seq .busTurn <| .get_bind fun _ => .seq (.raiseIf (.pageFault ..)) <| .seq .busTurn <| .get_bind fun _ =>
    .ite (.seq (.updateEntry ..) (.pageFault ..)) <| .seq (.raiseIf (.pageFault ..)) <| .seq (.updateEntry ..) <|
      .seq (.updateEntry ..) <| .seq (.modify _) (.pure _)

protected theorem StopsBy.translate (la : Word) (w u : Bool) : StopsBy also (translate la w u) :=
  .seq (.modify _) <| .get_bind fun s => by
    cases s.tlbHit la with
    | some e => exact .seq (.raiseIf (.pageFault ..)) (.ite (.seq (.modify _) (.walk ..)) (.pure _))
    | none => exact .walk ..

protected theorem StopsBy.linPages (la : Word) (nb : Nat) (w u : Bool) : StopsBy also (linPages la nb w u) :=
  .get_bind fun _ => .ite (.pure _) <| .bind (.translate ..) fun _ =>
    .ite (.get_bind fun _ => .pure _) (.bind (.translate ..) fun _ => .get_bind fun _ => .pure _)

protected theorem StopsBy.linKeys (la : Word) (nb : Nat) (w u : Bool) : StopsBy also (linKeys la nb w u) :=
  .bind (.linPages ..) fun _ => .seq .busTurn (.pure _)

protected theorem StopsBy.checkReg (r : SegReg) (stack : Bool) (off : Word) (nb : Nat) (a : Access) :
    StopsBy also (checkReg r stack off nb a) :=
  .get_bind fun _ => .seq .check (.raiseIf (.ite (.raise ..) (.raise ..)))

protected theorem StopsBy.checkSeg (g : Seg) (off : Word) (nb : Nat) (a : Access) : StopsBy also (checkSeg g off nb a) :=
  .get_bind fun _ => .checkReg ..

protected theorem StopsBy.regKeys (r : SegReg) (stack u : Bool) (off : Word) (nb : Nat) (w : Bool) :
    StopsBy also (regKeys r stack u off nb w) :=
  .seq (.checkReg ..) <| .bind (.linKeys ..) fun _ => .seq (.modify _) (.pure _)

protected theorem StopsBy.memKeys (g : Seg) (off : Word) (nb : Nat) (w : Bool) : StopsBy also (memKeys g off nb w) :=
  .get_bind fun _ => .regKeys ..

protected theorem StopsBy.probeKeys (g : Seg) (off : Word) (nb : Nat) : StopsBy also (probeKeys g off nb) :=
  .seq (.checkSeg ..) <| .get_bind fun _ => .bind (.linKeys ..) fun _ => .seq (.modify _) (.pure _)

protected theorem StopsBy.linRead (la : Word) (nb : Nat) (u : Bool) : StopsBy also (linRead la nb u) :=
  .bind (.linKeys ..) fun _ => .get_bind fun _ => .pure _

protected theorem StopsBy.linWrite (la : Word) (nb : Nat) (v : Word) (u : Bool) : StopsBy also (linWrite la nb v u) :=
  .bind (.linKeys ..) fun _ => .modify _

protected theorem StopsBy.memRead (g : Seg) (off : Word) (nb : Nat) : StopsBy also (memRead g off nb) :=
  .bind (.memKeys ..) fun _ => .get_bind fun _ => .pure _

protected theorem StopsBy.memWrite (g : Seg) (off : Word) (nb : Nat) (v : Word) : StopsBy also (memWrite g off nb v) :=
  .bind (.memKeys ..) fun _ => .modify _

protected theorem StopsBy.portCycles (ns : List Nat) (port : Half) (v : Word) : StopsBy also (portCycles ns port v) := by
  induction ns generalizing port v with
  | nil => exact .pure _
  | cons n rest ih =>
    cases rest with
    | nil => exact .modify _
    | cons m rest => exact .seq (.modify _) (.seq .cycleTurn (ih ..))

protected theorem StopsBy.portWrite (port : Half) (nb : Nat) (v : Word) : StopsBy also (portWrite port nb v) := .seq .busTurn (.portCycles ..)

protected theorem StopsBy.portRead (port : Half) (nb : Nat) : StopsBy also (portRead port nb) := .seq .busTurn (.get_bind fun _ => .pure _)

/-! Operands, the stack, and the end of an instruction. -/

protected theorem StopsBy.readRM (w : Width) (m : RM) : StopsBy also (readRM w m) := by
  cases m with
  | reg r => exact .get_bind fun _ => .pure _
  | mem x => exact .get_bind fun _ => .bind (.memRead ..) fun _ => .pure _

protected theorem StopsBy.writeRM (w : Width) (m : RM) (v : BitVec w.bits) : StopsBy also (writeRM w m v) := by
  cases m with
  | reg r => exact .modify _
  | mem x => exact .get_bind fun _ => .memWrite ..

protected theorem StopsBy.updateRM (w : Width) (m : RM) (k : BitVec w.bits → Flags → BitVec w.bits × Flags) :
    StopsBy also (updateRM w m k) := by
  cases m with
  | reg r => exact .modify _
  | mem x => exact .get_bind fun _ => .bind (.memKeys ..) fun _ => .modify _

protected theorem StopsBy.memOperand (m : RM) : StopsBy also (memOperand m) := by
  cases m with
  | reg r => exact .raise ..
  | mem x => exact .pure x

protected theorem StopsBy.push (v : Word) (nb : Nat) : StopsBy also (push v nb) :=
  .get_bind fun _ => .seq (.memWrite ..) (.modify _)

protected theorem StopsBy.stackRead (d nb : Nat) : StopsBy also (stackRead d nb) := .get_bind fun _ => .memRead ..

protected theorem StopsBy.checkRoom (n w : Nat) : StopsBy also (checkRoom n w) := .get_bind fun _ => .check

protected theorem StopsBy.checkStackTop (n : Nat) : StopsBy also (checkStackTop n) := .get_bind fun _ => .check

protected theorem StopsBy.advance : StopsBy also advance := .modify _

/-- What remains of an instruction after its effect. -/
theorem StopsBy.finish {x : M Unit} (hx : StopsBy also x) : StopsBy also (x >>= fun _ => Machine.advance) := hx.seq .advance

/-- A change of other parts of the state, as an instruction. -/
protected theorem StopsBy.change (k : State → State) : StopsBy also (change k) :=
  .finish (.modify _)

protected theorem StopsBy.checkTarget (t : Word) : StopsBy also (checkTarget t) := .get_bind fun _ => .check

protected theorem StopsBy.nearJump (t : Word) : StopsBy also (nearJump t) := .seq (.checkTarget t) (.modify _)

protected theorem StopsBy.requireCpl0 : StopsBy also requireCpl0 := .get_bind fun _ => .check

protected theorem StopsBy.requireProt : StopsBy also requireProt := .get_bind fun _ => .check

protected theorem StopsBy.requireIopl : StopsBy also requireIopl := .get_bind fun _ => .check

protected theorem StopsBy.requireV86Iopl : StopsBy also requireV86Iopl := .get_bind fun _ => .check

protected theorem StopsBy.ioMapCheck (port : Half) (nb : Nat) : StopsBy also (ioMapCheck port nb) :=
  .get_bind fun _ => .seq .check <| .seq .check <| .bind (.linRead ..) fun _ => .seq .check <| .bind (.linRead ..) fun _ => .check

protected theorem StopsBy.ioPermitted (port : Half) (nb : Nat) : StopsBy also (ioPermitted port nb) :=
  .get_bind fun _ => .ite (.ioMapCheck ..) (.pure _)

/-! Descriptors and the loads of segment registers. -/

protected theorem StopsBy.linDescriptor (la : Word) : StopsBy also (linDescriptor la) :=
  .bind (.linKeys ..) fun _ => .get_bind fun _ => .pure _

protected theorem StopsBy.readDescriptor (sel : Half) : StopsBy also (readDescriptor sel) :=
  .get_bind fun s => by
    cases s.descriptorAt sel with
    | none => exact .pure _
    | some la => exact .bind (.linDescriptor la) fun _ => .pure _

protected theorem StopsBy.needDescriptor {sel : Half} {fail : M Unit} (hf : StopsBy also fail) : StopsBy also (needDescriptor sel fail) :=
  .bind (.readDescriptor sel) fun d => by
    cases d with
    | some d => exact .pure d
    | none => exact hf.seq (.pure _)

/-- A descriptor, with an exception where its table does not hold it. -/
theorem StopsBy.descriptor {sel : Half} {v : Byte} {e : Option Half} : StopsBy also (Machine.needDescriptor sel (Machine.raise v e)) :=
  .needDescriptor (.raise v e)

protected theorem StopsBy.writeAccessByte (sel : Half) (set clear : Word) : StopsBy also (writeAccessByte sel set clear) :=
  .get_bind fun s => by
    cases s.descriptorAt sel with
    | none => exact .pure _
    | some la => exact .locked (.bind (.linKeys ..) fun _ => .modify _)

protected theorem StopsBy.markAccessed (sel : Half) (d : Descriptor) : StopsBy also (markAccessed sel d) :=
  .ite (.pure _) (.writeAccessByte ..)

protected theorem StopsBy.loadDataSeg {g : Seg} {sel : Half} {fail : Half → M Unit} (hf : ∀ x, StopsBy also (fail x)) :
    StopsBy also (loadDataSeg g sel fail) :=
  .ite (.modify _) <| .bind (.needDescriptor (hf _)) fun _ => .get_bind fun _ => .seq (.raiseIf (hf _)) <|
    .seq (.raiseIf (hf _)) <| .seq (.raiseIf (hf _)) <| .seq .check <| .seq (.markAccessed ..) (.modify _)

protected theorem StopsBy.stackDescriptor {sel : Half} {n : BitVec 2} {nullFail : M Unit} {fail : Half → M Unit} (hn : StopsBy also nullFail)
    (hf : ∀ x, StopsBy also (fail x)) : StopsBy also (stackDescriptor sel n nullFail fail) :=
  .seq (.raiseIf hn) <| .bind (.needDescriptor (hf _)) fun _ => .seq (.raiseIf (hf _)) <| .seq (.raiseIf (hf _)) <|
    .seq (.raiseIf (hf _)) <| .seq .check (.pure _)

protected theorem StopsBy.loadStack (sel : Half) (d : Descriptor) : StopsBy also (loadStack sel d) :=
  .seq (.markAccessed ..) (.modify _)

protected theorem StopsBy.loadSS (sel : Half) : StopsBy also (loadSS sel) :=
  .get_bind fun _ => .bind (.stackDescriptor (.raise ..) fun _ => .raise ..) fun d => .loadStack sel d

protected theorem StopsBy.loadSeg (g : Seg) (sel : Half) : StopsBy also (loadSeg g sel) :=
  .get_bind fun _ => .ite (.modify _) (.ite (.loadSS sel) (.loadDataSeg fun _ => .raise ..))

protected theorem StopsBy.loadCs (sel : Half) (d : Descriptor) (n : BitVec 2) : StopsBy also (loadCs sel d n) :=
  .seq (.markAccessed ..) (.modify _)

protected theorem StopsBy.checkOffset (d : Descriptor) (off : Word) : StopsBy also (checkOffset d off) := .check

/-! Far transfers within a task. -/

protected theorem StopsBy.pushReturn (csImage : Word) (w : Nat) : StopsBy also (pushReturn csImage w) :=
  .get_bind fun _ => .seq (.push ..) (.push ..)

protected theorem StopsBy.enterCode (sel : Half) (d : Descriptor) (n : BitVec 2) (off : Word) : StopsBy also (enterCode sel d n off) :=
  .seq (.loadCs ..) (.modify _)

protected theorem StopsBy.sameLevel (call : Bool) (sel : Half) (d : Descriptor) (off : Word) (w : Nat) :
    StopsBy also (sameLevel call sel d off w) := by
  refine .get_bind fun s => .seq .check ?_
  cases call with
  | false => exact .seq (.checkOffset ..) (.enterCode ..)
  | true => exact .seq (.checkRoom ..) <| .seq (.checkOffset ..) <| .seq (.pushReturn ..) (.enterCode ..)

protected theorem StopsBy.directCode (call : Bool) (sel : Half) (d : Descriptor) (off : Word) : StopsBy also (directCode call sel d off) :=
  .get_bind fun _ => .ite (.seq .check (.sameLevel ..)) (.seq .check (.sameLevel ..))

protected theorem StopsBy.innerStack (n : BitVec 2) : StopsBy also (innerStack n) :=
  .get_bind fun _ => .seq .check <| .seq .check <| .bind (.linRead ..) fun _ => .bind (.linRead ..) fun _ =>
    .bind (.stackDescriptor (.raise ..) fun _ => .raise ..) fun _ => .pure _

protected theorem StopsBy.pushAll (w : Nat) (items : List Word) : StopsBy also (pushAll w items) := by
  induction items with
  | nil => exact .pure _
  | cons v rest ih => exact .seq (.push ..) ih

protected theorem StopsBy.copyParams (r : SegReg) (u : Bool) (sp : Word) (w k : Nat) : StopsBy also (copyParams r u sp w k) := by
  induction k with
  | zero => exact .pure _
  | succ k ih => exact .bind (.regKeys ..) fun _ => .get_bind fun _ => .seq (.push ..) ih

protected theorem StopsBy.callInner (csel : Half) (c : Descriptor) (off : Word) (w k : Nat) : StopsBy also (callInner csel c off w k) :=
  .get_bind fun _ => .bind (.innerStack _) fun _ => .seq .check <| .seq (.checkOffset ..) <| .seq (.loadStack ..) <|
    .seq (.modify _) <| .seq (.pushAll ..) <| .seq (.copyParams ..) <| .seq (.pushAll ..) (.enterCode ..)

protected theorem StopsBy.throughGate (call : Bool) (gsel : Half) (g : Descriptor) : StopsBy also (throughGate call gsel g) := by
  refine .get_bind fun s => .seq .check <| .seq .check <| .seq .check <| .bind .descriptor fun c => .seq .check <| .seq .check ?_
  cases call with
  | false => exact .seq .check (.lockedIf (.sameLevel ..))
  | true => exact .seq .check (.ite (.lockedIf (.callInner ..)) (.lockedIf (.sameLevel ..)))

protected theorem StopsBy.returnDescriptor (sel : Half) : StopsBy also (returnDescriptor sel) :=
  .get_bind fun _ => .seq .check <| .seq .check <| .bind .descriptor fun _ => .seq .check <| .seq .check <|
    .seq .check <| .seq .check (.pure _)

protected theorem StopsBy.returnOuter (sel : Half) (c : Descriptor) (newEip : Word) (w frame : Nat) (imm : Word) :
    StopsBy also (returnOuter sel c newEip w frame imm) :=
  .seq (.checkStackTop _) <| .bind (.stackRead ..) fun _ => .bind (.stackRead ..) fun _ =>
    .bind (.stackDescriptor (.raise ..) fun _ => .raise ..) fun _ => .seq (.checkOffset ..) <| .seq (.loadCs ..) <|
      .seq (.loadStack ..) (.modify _)

protected theorem StopsBy.farReturn (imm : Word) : StopsBy also (farReturn imm) :=
  .get_bind fun _ => .seq (.checkStackTop _) <| .bind (.stackRead ..) fun _ => .bind (.stackRead ..) fun _ =>
    .bind (.returnDescriptor _) fun _ => .ite
      (.seq (.checkOffset ..) <| .seq (.loadCs ..) (.modify _))
      (.seq (.lockedIf (.returnOuter ..)) (.modify _))

protected theorem StopsBy.farReturn8086 (imm : Word) : StopsBy also (farReturn8086 imm) :=
  .get_bind fun _ => .seq (.checkStackTop _) <| .bind (.stackRead ..) fun _ => .bind (.stackRead ..) fun _ =>
    .seq (.checkTarget _) (.modify _)

protected theorem StopsBy.far8086 (call : Bool) (sel : Half) (off : Word) : StopsBy also (far8086 call sel off) := by
  refine .get_bind fun s => ?_
  cases call with
  | false => exact .seq (.checkTarget _) (.modify _)
  | true => exact .seq (.checkRoom ..) <| .seq (.checkTarget _) <| .seq (.pushReturn ..) (.modify _)

/-! The task switch. -/

protected theorem StopsBy.writeItems (base : Word) (items : List (Nat × Nat × Word)) : StopsBy also (writeItems base items) := by
  induction items with
  | nil => exact .pure _
  | cons x rest ih => exact .seq (.linWrite ..) ih

protected theorem StopsBy.readItems (base : Word) (nb : Nat) (offs : List Nat) : StopsBy also (readItems base nb offs) := by
  induction offs with
  | nil => exact .pure _
  | cons off rest ih => exact .bind (.linRead ..) fun _ => .bind ih fun _ => .pure _

protected theorem StopsBy.switchLdt (sel : Half) : StopsBy also (switchLdt sel) :=
  .ite (.modify _) <| .seq .check <| .bind .descriptor fun _ => .seq .check <| .seq .check (.modify _)

protected theorem StopsBy.switchCs (sel : Half) : StopsBy also (switchCs sel) :=
  .seq .check <| .bind .descriptor fun _ => .seq .check <| .seq .check <| .seq .check <| .seq .check (.loadCs ..)

protected theorem StopsBy.switchSs (sel : Half) : StopsBy also (switchSs sel) :=
  .get_bind fun _ => .bind (.stackDescriptor (.raise ..) fun _ => .raise ..) fun _ => .loadStack ..

protected theorem StopsBy.switchSegments : StopsBy also switchSegments :=
  .get_bind fun _ => .ite (.modify _) <| .seq (.switchCs _) <| .seq (.switchSs _) <| .seq (.loadDataSeg fun _ => .raise ..) <|
    .seq (.loadDataSeg fun _ => .raise ..) <| .seq (.loadDataSeg fun _ => .raise ..) (.loadDataSeg fun _ => .raise ..)

protected theorem StopsBy.switchCr3 (base : Word) : StopsBy also (switchCr3 base) :=
  .get_bind fun _ => .ite (.bind (.linRead ..) fun _ => .modify _) (.pure _)

protected theorem StopsBy.load386 (base : Word) (kind : SwitchKind) : StopsBy also (load386 base kind) :=
  .bind (.linRead ..) fun _ => .seq (.switchCr3 base) <| .bind (.linRead ..) fun _ => .bind (.linRead ..) fun _ =>
    .bind (.readItems ..) fun _ => .bind (.readItems ..) fun _ => .bind (.linRead ..) fun _ => .seq (.modify _) (.pure _)

protected theorem StopsBy.load286 (base : Word) (kind : SwitchKind) : StopsBy also (load286 base kind) :=
  .bind (.linRead ..) fun _ => .bind (.linRead ..) fun _ => .bind (.linRead ..) fun _ => .bind (.readItems ..) fun _ =>
    .bind (.readItems ..) fun _ => .seq (.modify _) (.pure _)

protected theorem StopsBy.enterTask (nsel : Half) (t : Descriptor) (kind : SwitchKind) : StopsBy also (enterTask nsel t kind) := by
  refine .seq (.modify _) (.ite (.bind (.load386 ..) ?_) (.bind (.load286 ..) ?_))
  all_goals exact fun _ => .get_bind fun _ => .seq (.switchLdt _) <| .seq .switchSegments <| .seq (.modify _) (.get_bind fun _ => .check)

protected theorem StopsBy.leaveTask (nsel : Half) (t : Descriptor) (kind : SwitchKind) (savedEip image : Word) :
    StopsBy also (leaveTask nsel t kind savedEip image) := by
  refine .get_bind fun s => .bind (.linRead ..) fun _ => .seq (.get_bind fun _ => .writeItems ..) ?_
  cases kind with
  | jmp => exact .seq (.writeAccessByte ..) (.writeAccessByte ..)
  | call | int => exact .seq (.linWrite ..) (.writeAccessByte ..)
  | iret => exact .seq (.writeAccessByte ..) (.pure _)

protected theorem StopsBy.taskSwitch (nsel : Half) (t : Descriptor) (kind : SwitchKind) (savedEip image : Word) :
    StopsBy Stop.commits (taskSwitch nsel t kind savedEip image) :=
  .seq .check <| .seq (.lockedIf (.leaveTask ..)) (.committed (.enterTask ..))

protected theorem StopsBy.gateTask (tsel : Half) : StopsBy also (gateTask tsel) :=
  .seq .check <| .bind .descriptor fun _ => .seq .check <| .seq .check (.pure _)

protected theorem StopsBy.farSwitch (call : Bool) (tsel : Half) (t : Descriptor) : StopsBy Stop.commits (farSwitch call tsel t) :=
  .get_bind fun _ => .taskSwitch ..

protected theorem StopsBy.toTss (call : Bool) (sel : Half) (t : Descriptor) : StopsBy Stop.commits (toTss call sel t) :=
  .get_bind fun _ => .seq .check <| .seq .check <| .seq .check (.farSwitch ..)

protected theorem StopsBy.throughTaskGate (call : Bool) (gsel : Half) (g : Descriptor) : StopsBy Stop.commits (throughTaskGate call gsel g) :=
  .get_bind fun _ => .seq .check <| .seq .check <| .bind (.gateTask _) fun _ => .farSwitch ..

/-! Far CALL, JMP and RET, and IRET. -/

protected theorem StopsBy.farTarget (call : Bool) (sel : Half) (off : Word) : StopsBy Stop.commits (farTarget call sel off) := by
  refine .seq .check <| .bind .descriptor fun d => ?_
  split
  · exact .ite (.lockedIf (.directCode ..)) (.raise ..)
  · exact .toTss ..
  · exact .throughGate ..
  · exact .throughTaskGate ..
  · exact .toTss ..
  · exact .throughGate ..
  · exact .raise ..

protected theorem StopsBy.farTransfer (call : Bool) (sel : Half) (off : Word) : StopsBy Stop.commits (farTransfer call sel off) :=
  .get_bind fun _ => .ite (.farTarget ..) (.far8086 ..)

protected theorem StopsBy.farPointer (x : MemRef) : StopsBy also (farPointer x) :=
  .get_bind fun _ => .bind (.memRead ..) fun _ => .bind (.memRead ..) fun _ => .pure _

protected theorem StopsBy.farIndirect (call : Bool) (m : RM) : StopsBy Stop.commits (farIndirect call m) :=
  .bind (.memOperand m) fun x => .bind (.farPointer x) fun _ => .farTransfer ..

protected theorem StopsBy.farRet (imm : Word) : StopsBy also (farRet imm) :=
  .get_bind fun _ => .ite (.farReturn imm) (.farReturn8086 imm)

protected theorem StopsBy.iret8086 : StopsBy also iret8086 :=
  .get_bind fun _ => .seq (.checkStackTop _) <| .bind (.stackRead ..) fun _ => .bind (.stackRead ..) fun _ =>
    .bind (.stackRead ..) fun _ => .seq (.checkTarget _) (.modify _)

protected theorem StopsBy.iretTask : StopsBy Stop.commits iretTask :=
  .get_bind fun _ => .bind (.linRead ..) fun _ => .seq .check <| .bind .descriptor fun _ => .seq .check <| .seq .check (.taskSwitch ..)

protected theorem StopsBy.iretV86 (newEip csImage image : Word) : StopsBy also (iretV86 newEip csImage image) :=
  .seq (.checkStackTop _) <| .bind (.stackRead ..) fun _ => .bind (.stackRead ..) fun _ => .bind (.stackRead ..) fun _ =>
    .bind (.stackRead ..) fun _ => .bind (.stackRead ..) fun _ => .bind (.stackRead ..) fun _ => .modify _

protected theorem StopsBy.iretCode (newEip csImage image : Word) (w : Nat) : StopsBy also (iretCode newEip csImage image w) :=
  .get_bind fun _ => .bind (.returnDescriptor _) fun _ => .ite
    (.seq (.checkOffset ..) <| .seq (.loadCs ..) <| .seq (.modify _) (.modify _))
    (.seq (.lockedIf (.returnOuter ..)) (.modify _))

protected theorem StopsBy.iretProt : StopsBy also iretProt :=
  .get_bind fun _ => .seq (.checkStackTop _) <| .bind (.stackRead ..) fun _ => .bind (.stackRead ..) fun _ =>
    .bind (.stackRead ..) fun _ => .ite (.iretV86 ..) (.iretCode ..)

protected theorem StopsBy.iretBody : StopsBy Stop.commits iretBody :=
  .get_bind fun _ => .seq .requireV86Iopl <| .ite (.seq .iret8086 (.modify _)) <|
    .ite (.seq .iretTask (.modify _)) (.seq .iretProt (.modify _))

/-! Entries to handlers. -/

protected theorem StopsBy.enterHandler (csel : Half) (c : Descriptor) (n : BitVec 2) (off : Word) (ig : Bool) :
    StopsBy also (enterHandler csel c n off ig) := .seq (.loadCs ..) (.modify _)

protected theorem StopsBy.sameEntry (e : Event) (savedEip : Word) (g c : Descriptor) (w : Nat) : StopsBy also (sameEntry e savedEip g c w) :=
  .get_bind fun _ => .seq (.checkRoom ..) <| .seq (.checkOffset ..) <| .seq (.pushAll ..) (.enterHandler ..)

protected theorem StopsBy.innerEntry (e : Event) (savedEip : Word) (g c : Descriptor) (w : Nat) :
    StopsBy also (innerEntry e savedEip g c w) :=
  .get_bind fun _ => .bind (.innerStack _) fun _ => .seq .check <| .seq (.checkOffset ..) <| .seq (.loadStack ..) <|
    .seq (.modify _) <| .seq (.pushAll ..) (.enterHandler ..)

protected theorem StopsBy.v86Entry (e : Event) (savedEip : Word) (g c : Descriptor) : StopsBy Stop.ofEntry (v86Entry e savedEip g c) := by
  refine .get_bind fun s => .seq .check ?_
  cases g.isGate386 with
  | false => exact .refuse_bind (.inr rfl) _
  | true =>
    exact .bind (.innerStack _) fun _ => .seq .check <| .seq (.checkOffset ..) <| .seq (.modify _) <| .seq (.loadStack ..) <|
      .seq (.modify _) <| .seq (.pushAll ..) <| .seq (.modify _) <| .seq (.pushAll ..) (.enterHandler ..)

protected theorem StopsBy.taskEntry (e : Event) (savedEip : Word) (g : Descriptor) : StopsBy Stop.ofEntry (taskEntry e savedEip g) :=
  .get_bind fun _ => .bind (.gateTask _) fun _ =>
    .mono (.seq (.taskSwitch ..) (.committed (.seq (.checkRoom ..) (.pushAll ..)))) fun _ => .inl

protected theorem StopsBy.gateEntry (e : Event) (savedEip : Word) (g : Descriptor) : StopsBy Stop.ofEntry (gateEntry e savedEip g) :=
  .get_bind fun _ => .seq .check <| .bind .descriptor fun _ => .seq .check <| .seq .check <| .seq .check <|
    .lockedIf <| .ite (.v86Entry ..) (.ite (.innerEntry ..) (.sameEntry ..))

protected theorem StopsBy.protEntry (e : Event) (savedEip : Word) : StopsBy Stop.ofEntry (protEntry e savedEip) :=
  .get_bind fun _ => .seq .check <| .bind (.linDescriptor _) fun _ => .seq .check <| .seq .check <| .seq .check <|
    .ite (.taskEntry ..) (.gateEntry ..)

protected theorem StopsBy.realEntry (e : Event) (savedEip : Word) : StopsBy also (realEntry e savedEip) :=
  .get_bind fun _ => .seq .check <| .bind (.linRead ..) fun _ => .bind (.linRead ..) fun _ => .seq (.checkRoom ..) <| .seq (.push ..) <|
    .seq (.push ..) <| .seq (.push ..) (.modify _)

protected theorem StopsBy.entry (e : Event) (savedEip : Word) : StopsBy Stop.ofEntry (entry e savedEip) :=
  .get_bind fun _ => .ite (.protEntry ..) (.realEntry ..)

/-! What instructions share. -/

protected theorem StopsBy.readOnly (w : Width) (m : RM) (k : BitVec w.bits → Flags → Flags) : StopsBy also (readOnly w m k) :=
  .bind (.readRM w m) fun _ => .finish (.modify _)

protected theorem StopsBy.readWrite (w : Width) (m : RM) (k : BitVec w.bits → Flags → BitVec w.bits × Flags) :
    StopsBy also (readWrite w m k) := .finish (.updateRM w m k)

protected theorem StopsBy.probeRM (w : Width) (m : RM) : StopsBy also (probeRM w m) := by
  cases m with
  | reg r => exact .pure _
  | mem x => exact .get_bind fun _ => .bind (.probeKeys ..) fun _ => .pure _

protected theorem StopsBy.shiftBody (w : Width) (m : RM) (c : Nat) (k : BitVec w.bits → Flags → BitVec w.bits × Flags) :
    StopsBy also (shiftBody w m c k) := .ite (.finish (.probeRM w m)) (.finish (.updateRM ..))

protected theorem StopsBy.divideAcc (w : Width) (m : RM) (k : State → BitVec w.bits → Option (BitVec w.bits × BitVec w.bits)) :
    StopsBy also (divideAcc w m k) :=
  .bind (.readRM w m) fun d => .get_bind fun s => by
    cases k s d with
    | none => exact .raise ..
    | some x => exact .finish (.modify _)

protected theorem StopsBy.bitAt (op : BitOp) (w : Width) (g : Seg) (off : Word) (i : Nat) : StopsBy also (bitAt op w g off i) :=
  .bind (.memKeys ..) fun _ => .modify _

protected theorem StopsBy.bitImm (op : BitOp) (w : Width) (m : RM) (imm : Byte) : StopsBy also (bitImm op w m imm) :=
  .get_bind fun _ => by
    cases m with
    | reg q => exact .finish (.modify _)
    | mem x => exact .finish (.bitAt ..)

protected theorem StopsBy.bitReg (op : BitOp) (w : Width) (m : RM) (r : Reg) : StopsBy also (bitReg op w m r) :=
  .get_bind fun _ => by
    cases m with
    | reg q => exact .finish (.modify _)
    | mem x => exact .finish (.bitAt ..)

protected theorem StopsBy.storeHalf (m : RM) (v : Half) : StopsBy also (storeHalf m v) :=
  .get_bind fun _ => by
    cases m with
    | reg r => exact .modify _
    | mem x => exact .memWrite ..

protected theorem StopsBy.pushValue (v : Word) : StopsBy also (pushValue v) := .get_bind fun _ => .finish (.push ..)

protected theorem StopsBy.stackItems (w i k : Nat) : StopsBy also (stackItems w i k) := by
  induction k generalizing i with
  | zero => exact .pure _
  | succ k ih => exact .bind (.stackRead ..) fun _ => .bind (ih _) fun _ => .pure _

protected theorem StopsBy.exchange (w : Width) (m : RM) (r : Reg) : StopsBy also (exchange w m r) :=
  .get_bind fun _ => by
    cases m with
    | reg q => exact .finish (.modify _)
    | mem x => exact .bind (.memKeys ..) fun _ => .finish (.modify _)

protected theorem StopsBy.indirect {m : RM} {k : Word → M Unit} (hk : ∀ t, StopsBy also (k t)) : StopsBy also (indirect m k) :=
  .get_bind fun _ => .bind (.readRM ..) fun _ => hk _

protected theorem StopsBy.nearCall (t : Word) : StopsBy also (nearCall t) :=
  .get_bind fun _ => .seq (.checkRoom ..) <| .seq (.checkTarget t) <| .seq (.push ..) (.nearJump t)

protected theorem StopsBy.jumpIf (c : Bool) (t : Word) : StopsBy also (jumpIf c t) := .ite (.nearJump t) .advance

protected theorem StopsBy.copyDisplay (w k : Nat) (bp : Word) : StopsBy also (copyDisplay w k bp) := by
  induction k generalizing bp with
  | zero => exact .pure _
  | succ k ih => exact .get_bind fun _ => .bind (.memRead ..) fun _ => .seq (.push ..) (ih _)

protected theorem StopsBy.setFlags (k : Flags → Flags) : StopsBy also (setFlags k) := .finish (.modify _)

/-! String elements. -/

protected theorem StopsBy.readSource (w : Width) : StopsBy also (readSource w) := .get_bind fun _ => .bind (.memRead ..) fun _ => .pure _

protected theorem StopsBy.readDest (w : Width) : StopsBy also (readDest w) := .get_bind fun _ => .bind (.memRead ..) fun _ => .pure _

protected theorem StopsBy.writeDest (w : Width) (v : BitVec w.bits) : StopsBy also (writeDest w v) := .get_bind fun _ => .memWrite ..

protected theorem StopsBy.cmpsElement (w : Width) : StopsBy also (cmpsElement w) :=
  .bind (.readSource w) fun _ => .bind (.readDest w) fun _ => .modify _

protected theorem StopsBy.scasElement (w : Width) : StopsBy also (scasElement w) := .bind (.readDest w) fun _ => .modify _

protected theorem StopsBy.insElement (w : Width) : StopsBy also (insElement w) :=
  .get_bind fun _ => .seq (.ioPermitted ..) <| .bind (.memKeys ..) fun _ => .bind (.portRead ..) fun _ => .modify _

protected theorem StopsBy.lodsElement (w : Width) : StopsBy also (lodsElement w) := .bind (.readSource w) fun _ => .modify _

protected theorem StopsBy.movsElement (w : Width) : StopsBy also (movsElement w) :=
  .bind (.readSource w) fun _ => .seq (.writeDest ..) (.modify _)

protected theorem StopsBy.outsElement (w : Width) : StopsBy also (outsElement w) :=
  .get_bind fun _ => .seq (.ioPermitted ..) <| .bind (.readSource w) fun _ => .seq (.portWrite ..) (.modify _)

protected theorem StopsBy.stosElement (w : Width) : StopsBy also (stosElement w) := .get_bind fun _ => .seq (.writeDest ..) (.modify _)

protected theorem StopsBy.repStep {stop : Flags → Bool} {element : M Unit} (h : StopsBy also element) : StopsBy also (repStep stop element) :=
  .get_bind fun _ => .ite .advance <| .seq h <| .seq (.modify _) <| .get_bind fun _ => .ite .advance (.modify _)

/-! Protection and processor control. -/

protected theorem StopsBy.arplBody (m : RM) (r : Reg) : StopsBy also (arplBody m r) :=
  .seq .requireProt <| .get_bind fun _ => by
    cases m with
    | reg q => exact .finish (.modify _)
    | mem x => exact .bind (.probeKeys ..) fun _ => .finish (.modify _)

protected theorem StopsBy.testDescriptor (sel : Half) : StopsBy also (testDescriptor sel) := .ite (.pure _) (.readDescriptor sel)

protected theorem StopsBy.storeSystem (m : RM) (k : State → Half) : StopsBy also (storeSystem m k) :=
  .get_bind fun _ => .finish (.storeHalf ..)

protected theorem StopsBy.loadTable (m : RM) (k : TableReg → State → State) : StopsBy also (loadTable m k) :=
  .seq .check <| .seq .requireCpl0 <| .bind (.memOperand m) fun _ => .get_bind fun _ => .bind (.memRead ..) fun _ =>
    .bind (.memRead ..) fun _ => .finish (.modify _)

protected theorem StopsBy.debugAccess : StopsBy also debugAccess := .get_bind fun _ => .ite (.seq (.modify _) (.raise ..)) (.pure _)

protected theorem StopsBy.afterBusy {k : M Unit} (hk : StopsBy also k) : StopsBy also (afterBusy k) :=
  .get_bind fun _ => .ite (.modify _) (.seq .check hk)

protected theorem StopsBy.escOperand (ttt lll : BitVec 3) (m : RM) : StopsBy also (escOperand ttt lll m) := by
  cases m with
  | reg r => exact .modify _
  | mem x => exact .get_bind fun _ => .seq (.checkReg ..) <| .bind (.linKeys ..) fun _ => .modify _

protected theorem StopsBy.escHandOver (ttt lll : BitVec 3) (m : RM) : StopsBy also (escHandOver ttt lll m) :=
  .seq (.escOperand ..) <| .seq .busTurn <| .seq (.modify _) <| .ite (.finish (.seq .busTurn (.modify _))) .advance

end

end Sys2Proof.Machine
end

-- ==== Proofs: refusals ====
section
/-!
PROOFS. No instruction faults, and which are refused, and when (30_encoding.md R570; 49_system.md R955, R959, R975; 60_exceptions.md R1070;
70_reset_and_hazards.md R1226). What stops an instruction and is not refused is delivered, and a delivery refuses a 286 gate only, met in
Virtual 8086 mode; PE is then as it was before the instruction, for a task switch keeps it, and what else changes it does not stop.
-/
namespace Sys2Proof.Machine

open Sys2Proof

/-! Outcomes. -/

/-- The outcome is no fault, and a refusal only as declared for the instruction `i` in the state `s`. -/
def State.Declares (s : State) (i : Instr) (r : Result) : Prop := (∀ f, r ≠ .fault f) ∧ ∀ x, r = .refused x → DeclaredRefusal i s x

/-- A stop in the state `t` that undoes the instruction, leaves PE as it was, or is a refusal declared for it. -/
def State.Admits (s : State) (i : Instr) (e : Stop) (t : State) : Prop :=
  e.undone = true ∨ (e.commits ∧ t.pe = s.pe) ∨ ∃ r, e = .refuse r ∧ DeclaredRefusal i s r

section
variable {s t : State} {i : Instr}

theorem State.Declares.next : s.Declares i (.next t) := ⟨nofun, nofun⟩

theorem State.Declares.refused {r : Refusal} (h : DeclaredRefusal i s r) : s.Declares i (.refused r) :=
  ⟨nofun, fun _ hx => by cases hx; exact h⟩

theorem State.Sheltered.pe (h : s.Sheltered t) : t.pe = s.pe := by
  have hcr0 : t.cr0 ||| 8 = s.cr0 ||| 8 := congrArg (fun x => x.2.2.2.2.2.2.2.2) h.kept
  have hbit := congrArg (fun v => v.getLsbD 0) hcr0
  rwa [BitVec.getLsbD_or, BitVec.getLsbD_or, show (8 : Word).getLsbD 0 = false from rfl, Bool.or_false, Bool.or_false] at hbit

/-- An entry refuses a 286 gate only, and an entry through gates is one with PE set. -/
theorem entry_refuse {e : Event} {eip : Word} {r : Refusal} (h : entry e eip s = .error (.refuse r) t) :
    r = .gate286FromV86 ∧ s.pe = true := by
  constructor
  · rcases (StopsBy.entry e eip).stops h with h | ⟨x, h⟩ | h <;> cases h
    rfl
  · unfold entry at h
    rw [M.get_bind] at h
    split at h
    case isTrue hp => exact (Bool.and_eq_true_iff.mp hp).1
    case isFalse => exact ((StopsBy.realEntry (also := fun _ => False) e eip).stops h).elim nofun nofun

theorem State.Declares.deliverWith (n : Nat) (e : Event) (eip : Word) (hp : t.pe = s.pe) : s.Declares i (deliverWith n e eip t) := by
  induction n generalizing e eip t with
  | zero => exact .next
  | succ n ih =>
    unfold Machine.deliverWith
    split <;> rename_i u hx
    · exact .next
    · obtain ⟨hr, hpe⟩ := entry_refuse hx
      exact .refused (.inr (.inr (.inr (.inr ⟨hr, hp ▸ hpe⟩))))
    · exact .next
    · rename_i x keep
      have hbase : (if keep then u else t.rollback u).pe = s.pe := by
        cases keep with
        | true => exact ((Shelters.entry e eip).error hx).pe.trans hp
        | false => exact hp
      dsimp only
      split
      · exact .next
      · exact ih _ _ hbase

theorem State.Declares.deliver (e : Event) (eip : Word) (hp : t.pe = s.pe) : s.Declares i (deliver e eip t) := .deliverWith 5 e eip hp

theorem State.Declares.stopped {e : Stop} (h : s.Admits i e t) : s.Declares i (stopped s t e) := by
  cases e with
  | exc x keep =>
    cases keep with
    | false => exact .deliver _ _ rfl
    | true =>
      rcases h with h | ⟨-, hp⟩ | ⟨r, h, -⟩
      · cases h
      · exact .deliver _ _ hp
      · cases h
  | refuse r =>
    rcases h with h | ⟨⟨x, h⟩, -⟩ | ⟨r, h, hd⟩ <;> cases h
    exact .refused hd
  | bus b => exact .next

theorem State.Declares.perform {body : M Unit} (h : ∀ {e t}, body s = .error e t → s.Admits i e t) : s.Declares i (perform body s) := by
  unfold Machine.perform
  split
  · exact .next
  · exact .stopped (h ‹_›)

theorem State.Declares.instr {body : M Unit} (h : ∀ {e t}, body s = .error e t → s.Admits i e t) : s.Declares i (instr body s) := by
  cases hl : s.pfx.lock with
  | true =>
    rw [instr_of_lock hl]
    exact .deliver _ _ rfl
  | false =>
    rw [instr_of_noLock hl]
    exact .perform h

/-- The instruction does nothing that is not undone where it stops. -/
theorem StopsBy.instr {body : M Unit} (h : StopsBy (fun _ => False) body) : s.Declares i (instr body s) :=
  .instr fun hx => .inl ((h.stops hx).resolve_right id)

theorem StopsBy.lockable {body : M Unit} (h : StopsBy (fun _ => False) body) (m : RM) : s.Declares i (lockable m body s) := by
  cases m with
  | reg r => exact h.instr
  | mem x => exact .perform (body := body) fun hx => .inl ((h.stops hx).resolve_right id)

/-- Where a transfer stops past its commit point PE is kept. -/
theorem StopsBy.transfer {body : M Unit} (h : StopsBy Stop.commits body) (k : Shelters body) : s.Declares i (Machine.instr body s) :=
  .instr fun hx => (h.stops hx).imp_right fun hc => .inl ⟨hc, (k.error hx).pe⟩

theorem State.Declares.interruptAfter {pre : M Unit} (h : StopsBy (fun _ => False) pre) (k : Shelters pre) (vec : Byte) :
    s.Declares i (interruptAfter pre vec s) := by
  unfold Machine.interruptAfter
  split <;> rename_i hx
  · exact .deliver _ _ ((Shelters.noLock.seqRight k).ok hx).pe
  · have hpre : StopsBy (fun _ => False) (noLock *> pre) := .seq (.get_bind fun _ => .check) h
    exact .stopped (.inl ((hpre.stops hx).resolve_right id))

theorem State.Declares.aluRmReg (op : AluOp) (d w : Bool) (m : RM) (r : Reg) : s.Declares i (aluRmReg op d w m r s) := by
  cases d with
  | true => exact (StopsBy.get_bind fun _ => .bind (.readRM ..) fun _ => .finish (.modify _)).instr
  | false => exact (StopsBy.get_bind fun _ => .readWrite ..).lockable m

end

/-! The instructions that are refused themselves. -/

theorem State.Declares.undocumented {s : State} {i : Instr} (h : Undocumented i) : s.Declares i (undocumented s) :=
  .instr fun hx => by
    cases hx
    exact .inr (.inr ⟨_, rfl, .inl ⟨rfl, h⟩⟩)

section
variable {s t : State} {e : Stop}

/-- A check that leaves the state alone. -/
theorem check_error {x : M Unit} {f : Unit → M Unit} (hx : StopsBy (fun _ => False) x) (hs : ∀ {u}, x s = .ok () u → u = s)
    (h : (x >>= f) s = .error e t) : e.undone = true ∨ (x s = .ok () s ∧ f () s = .error e t) := by
  rcases M.bind_error.mp h with hstop | ⟨_, u, hu, hf⟩
  · exact .inl ((hx.stops hstop).resolve_right id)
  · obtain rfl := hs hu
    exact .inr ⟨hu, hf⟩

theorem raiseIf_error {c : Bool} {v : Byte} {code : Option Half} {f : Unit → M Unit}
    (h : (raiseIf c (raise v code) >>= f) s = .error e t) : e.undone = true ∨ (c = false ∧ f () s = .error e t) :=
  have hraise : ∀ u, raise v code s ≠ .ok () u := by
    intro u hu
    cases hu
  (check_error .check (fun hu => ((raiseIf_ok hraise).mp hu).2) h).imp_right fun ⟨hc, hf⟩ => ⟨((raiseIf_ok hraise).mp hc).1, hf⟩

theorem requireCpl0_error_bind {f : Unit → M Unit} (h : (requireCpl0 >>= f) s = .error e t) : e.undone = true ∨ f () s = .error e t :=
  (check_error .requireCpl0 (fun hu => (requireCpl0_ok.mp hu).2) h).imp_right And.right

/-- A refusal on a condition. -/
theorem refuseIf_error {c : Prop} [Decidable c] {r : Refusal} {f : Unit → M Unit} {y : M Unit} (hy : StopsBy (fun _ => False) y)
    (h : (if c then refuse r >>= f else y) s = .error e t) : e.undone = true ∨ (c ∧ e = .refuse r) := by
  split at h
  case isTrue hc =>
    cases h
    exact .inr ⟨hc, rfl⟩
  case isFalse => exact .inl ((hy.stops h).resolve_right id)

end

/-- MOV CR0 that clears PE, with segment registers unfit for REAL mode. -/
theorem execMovCrReg_declares (c : CReg) (r : Reg) (s : State) : s.Declares (.movCrReg c r) (execMovCrReg c r s) := by
  refine .instr fun {e t} h => ?_
  rcases requireCpl0_error_bind h with h | h
  · exact .inl h
  rcases raiseIf_error h with h | ⟨-, h⟩
  · exact .inl h
  rcases refuseIf_error (.change _) h with h | ⟨hc, he⟩
  · exact .inl h
  have hunready : c = .cr0 ∧ s.pe = true ∧ (s.regs.get r).getLsbD 0 = false ∧ s.realReady = false := by
    simpa [State.leavesUnready, and_assoc] using hc
  obtain ⟨rfl, hpe, hbit, hready⟩ := hunready
  exact .inr (.inr ⟨_, he, .inr (.inr (.inr (.inl ⟨rfl, hpe, hready, r, rfl, hbit⟩)))⟩)

/-- A move to a test register with paging on. -/
theorem execMovTrReg_declares (x : TReg) (r : Reg) (s : State) : s.Declares (.movTrReg x r) (execMovTrReg x r s) := by
  refine .instr fun {e t} h => ?_
  rcases requireCpl0_error_bind h with h | h
  · exact .inl h
  rcases refuseIf_error (.change _) h with h | ⟨hpg, he⟩
  · exact .inl h
  exact .inr (.inr ⟨_, he, .inr (.inl ⟨rfl, hpg, x, r, rfl⟩)⟩)

/-- ESC without a coprocessor. -/
theorem execEsc_declares (ttt lll : BitVec 3) (m : RM) (s : State) : s.Declares (.esc ttt lll m) (execEsc ttt lll m s) := by
  refine .instr fun {e t} h => ?_
  rcases raiseIf_error h with h | ⟨hnm, h⟩
  · exact .inl h
  rcases refuseIf_error (.ite (.escHandOver ..) (.afterBusy (.escHandOver ..))) h with h | ⟨habsent, he⟩
  · exact .inl h
  obtain ⟨hem, hts⟩ := Bool.or_eq_false_iff.mp hnm
  exact .inr (.inr ⟨_, he, .inr (.inr (.inl ⟨rfl, by simpa using habsent, hem, hts, ttt, lll, m, rfl⟩))⟩)

/-! Every instruction. -/

theorem exec_declares (i : Instr) (s : State) : s.Declares i (exec i s) := by
  cases i
  case pfxAddrSize | pfxLock | pfxOpSize | pfxCs | pfxDs | pfxEs | pfxFs | pfxGs | pfxSs | pfxRep | pfxRepne => exact .next
  case movRmReg | movRmImm | movRegImm => exact (StopsBy.get_bind fun _ => .finish (.writeRM ..)).instr
  case movRegRm | movsx | movzx => exact (StopsBy.get_bind fun _ => .bind (.readRM ..) fun _ => .finish (.modify _)).instr
  case movAccMem | xlat => exact (StopsBy.get_bind fun _ => .bind (.memRead ..) fun _ => .finish (.modify _)).instr
  case movMemAcc => exact (StopsBy.get_bind fun _ => .finish (.memWrite ..)).instr
  case movSegRm =>
    exact (StopsBy.seq .check <| .bind (.readRM ..) fun _ => .seq (.loadSeg ..) (.finish (.modify _))).instr
  case movRmSeg => exact (StopsBy.get_bind fun _ => .finish (.storeHalf ..)).instr
  case pushRm | pushReg => exact (StopsBy.get_bind fun _ => .bind (.readRM ..) fun _ => .pushValue _).instr
  case pushSeg | pushFs | pushGs | pushImm => exact (StopsBy.get_bind fun _ => .pushValue _).instr
  case pusha => exact (StopsBy.get_bind fun _ => .finish (.pushAll ..)).instr
  case popRm | popReg =>
    exact (StopsBy.get_bind fun _ => .bind (.stackRead ..) fun _ => .seq (.modify _) (.finish (.writeRM ..))).instr
  case popEs | popSs | popDs | popFs | popGs =>
    exact (StopsBy.get_bind fun _ => .bind (.stackRead ..) fun _ => .seq (.loadSeg ..) (.finish (.modify _))).instr
  case popa => exact (StopsBy.get_bind fun _ => .bind (.stackItems ..) fun _ => .finish (.modify _)).instr
  case xchgRmReg m _ => exact (StopsBy.exchange ..).lockable m
  case xchgAccReg => exact (StopsBy.exchange ..).instr
  case inImm | inDx =>
    exact (StopsBy.get_bind fun _ => .seq (.ioPermitted ..) <| .bind (.portRead ..) fun _ => .finish (.modify _)).instr
  case outImm | outDx => exact (StopsBy.get_bind fun _ => .seq (.ioPermitted ..) (.finish (.portWrite ..))).instr
  case lea => exact (StopsBy.bind (.memOperand _) fun _ => .finish (.modify _)).instr
  case lds | les | lfs | lgs | lss =>
    exact (StopsBy.bind (.memOperand _) fun _ => .bind (.farPointer _) fun _ => .seq (.loadSeg ..) (.finish (.modify _))).instr
  case addRmReg | adcRmReg | subRmReg | sbbRmReg | andRmReg | orRmReg | xorRmReg => exact .aluRmReg ..
  case addRmImm m _ | adcRmImm m _ | subRmImm m _ | sbbRmImm m _ | andRmImm m _ | orRmImm m _ | xorRmImm m _ =>
    exact (StopsBy.get_bind fun _ => .readWrite ..).lockable m
  case addAccImm | adcAccImm | subAccImm | sbbAccImm | andAccImm | orAccImm | xorAccImm =>
    exact (StopsBy.get_bind fun _ => .readWrite ..).instr
  case cmpRmReg | cmpRmImm | cmpAccImm => exact (StopsBy.readOnly ..).instr
  case testRmReg | testRmImm | testAccImm => exact (StopsBy.get_bind fun _ => .readOnly ..).instr
  case incRm m | decRm m | negRm m | notRm m => exact (StopsBy.readWrite ..).lockable m
  case incReg | decReg => exact (StopsBy.readWrite ..).instr
  case aaa | aas | daa | das | aad | cbw | cwd | lahf | sahf => exact (StopsBy.modify _).finish.instr
  case mulRm | imulAcc | imulReg | imulImm | bsf | bsr => exact (StopsBy.bind (.readRM ..) fun _ => .finish (.modify _)).instr
  case divRm | idivRm => exact (StopsBy.divideAcc ..).instr
  case aam => exact (StopsBy.seq .check (.finish (.modify _))).instr
  case rolOne | rolCl | rolImm | rorOne | rorCl | rorImm | rclOne | rclCl | rclImm | rcrOne | rcrCl | rcrImm | shlOne | shlCl | shlImm |
      shrOne | shrCl | shrImm | sarOne | sarCl | sarImm | shldImm | shldCl | shrdImm | shrdCl => exact (StopsBy.shiftBody ..).instr
  case btRmImm => exact (StopsBy.bitImm ..).instr
  case btRmReg => exact (StopsBy.bitReg ..).instr
  case btcRmImm m _ | btrRmImm m _ | btsRmImm m _ => exact (StopsBy.bitImm ..).lockable m
  case btcRmReg m _ | btrRmReg m _ | btsRmReg m _ => exact (StopsBy.bitReg ..).lockable m
  case cmps => exact (StopsBy.cmpsElement _).finish.instr
  case ins => exact (StopsBy.insElement _).finish.instr
  case lods => exact (StopsBy.lodsElement _).finish.instr
  case movs => exact (StopsBy.movsElement _).finish.instr
  case outs => exact (StopsBy.outsElement _).finish.instr
  case scas => exact (StopsBy.scasElement _).finish.instr
  case stos => exact (StopsBy.stosElement _).finish.instr
  case repeCmps | repneCmps => exact (StopsBy.cmpsElement _).repStep.instr
  case repIns => exact (StopsBy.insElement _).repStep.instr
  case repLods => exact (StopsBy.lodsElement _).repStep.instr
  case repMovs => exact (StopsBy.movsElement _).repStep.instr
  case repOuts => exact (StopsBy.outsElement _).repStep.instr
  case repeScas | repneScas => exact (StopsBy.scasElement _).repStep.instr
  case repStos => exact (StopsBy.stosElement _).repStep.instr
  case callRel => exact (StopsBy.nearCall _).instr
  case callRm => exact (StopsBy.indirect .nearCall).instr
  case callFar | jmpFar => exact (StopsBy.farTransfer ..).transfer (.farTransfer ..)
  case callFarMem | jmpFarMem => exact (StopsBy.farIndirect ..).transfer (.farIndirect ..)
  case jmpShort | jmpRel => exact (StopsBy.nearJump _).instr
  case jmpRm => exact (StopsBy.indirect .nearJump).instr
  case ret | retImm =>
    exact (StopsBy.get_bind fun _ => .seq (.checkStackTop _) <| .bind (.stackRead ..) fun _ => .seq (.checkTarget _) (.modify _)).instr
  case retf | retfImm => exact (StopsBy.farRet _).instr
  case joShort | jnoShort | jbShort | jnbShort | jeShort | jneShort | jbeShort | jnbeShort | jsShort | jnsShort | jpShort | jnpShort |
      jlShort | jnlShort | jleShort | jnleShort | joNear | jnoNear | jbNear | jnbNear | jeNear | jneNear | jbeNear | jnbeNear | jsNear |
      jnsNear | jpNear | jnpNear | jlNear | jnlNear | jleNear | jnleNear | jcxz => exact (StopsBy.jumpIf ..).instr
  case loop | loopz | loopnz => exact (StopsBy.get_bind fun _ => .seq (.modify _) (.jumpIf ..)).instr
  case seto | setno | setb | setnb | sete | setne | setbe | setnbe | sets | setns | setp | setnp | setl | setnl | setle | setnle =>
    exact (StopsBy.writeRM ..).finish.instr
  case enter =>
    exact (StopsBy.get_bind fun _ => .seq (.push ..) <| .get_bind fun _ => .ite (.finish (.modify _)) <| .seq (.copyDisplay ..) <|
      .seq (.push ..) (.finish (.modify _))).instr
  case leave => exact (StopsBy.get_bind fun _ => .bind (.memRead ..) fun _ => .finish (.modify _)).instr
  case bound =>
    exact (StopsBy.bind (.memOperand _) fun _ => .get_bind fun _ => .bind (.memRead ..) fun _ => .bind (.memRead ..) fun _ =>
      .finish .check).instr
  case intN imm => exact .interruptAfter .requireV86Iopl .requireV86Iopl imm
  case int3 => exact .interruptAfter (.pure ()) (.pure ()) 3
  case into =>
    show s.Declares .into (execInto s)
    unfold execInto
    split
    · exact .interruptAfter (.pure ()) (.pure ()) 4
    · exact StopsBy.advance.instr
  case iret => exact StopsBy.iretBody.transfer .iretBody
  case clc | cld | cmc | stc | std => exact (StopsBy.setFlags _).instr
  case cli => exact (StopsBy.seq .requireIopl (.setFlags _)).instr
  case sti => exact (StopsBy.seq .requireIopl <| .seq (.modify _) (.setFlags _)).instr
  case popf => exact (StopsBy.get_bind fun _ => .seq .requireV86Iopl <| .bind (.stackRead ..) fun _ => .modify _).instr
  case pushf => exact (StopsBy.get_bind fun _ => .seq .requireV86Iopl (.finish (.push ..))).instr
  case movCrReg c r => exact execMovCrReg_declares c r s
  case movTrReg x r => exact execMovTrReg_declares x r s
  case movDrReg | movRegDr => exact (StopsBy.seq .requireCpl0 <| .seq .debugAccess (.change _)).instr
  case clts | hlt | movRegCr | movRegTr => exact (StopsBy.seq .requireCpl0 (.change _)).instr
  case nop => exact StopsBy.advance.instr
  case wait => exact (StopsBy.get_bind fun _ => .seq .check (.afterBusy .advance)).instr
  case esc ttt lll m => exact execEsc_declares ttt lll m s
  case arpl => exact (StopsBy.arplBody ..).instr
  case lar | lsl | verr | verw =>
    exact (StopsBy.seq .requireProt <| .bind (.readRM ..) fun _ => .bind (.testDescriptor _) fun _ => .finish (.modify _)).instr
  case lgdt | lidt => exact (StopsBy.loadTable ..).instr
  case lmsw => exact (StopsBy.seq .requireCpl0 <| .bind (.readRM ..) fun _ => .finish (.modify _)).instr
  case sgdt | sidt =>
    exact (StopsBy.bind (.memOperand _) fun _ => .get_bind fun _ => .bind (.memKeys ..) fun _ => .bind (.memKeys ..) fun _ =>
      .finish (.modify _)).instr
  case sldt | str => exact (StopsBy.seq .requireProt (.storeSystem ..)).instr
  case smsw => exact (StopsBy.storeSystem ..).instr
  case lldt =>
    exact (StopsBy.seq .requireProt <| .seq .requireCpl0 <| .bind (.readRM ..) fun _ => .ite (.finish (.modify _)) <|
      .seq .check <| .bind .descriptor fun _ => .seq .check <| .seq .check (.finish (.modify _))).instr
  case ltr =>
    exact (StopsBy.seq .requireProt <| .seq .requireCpl0 <| .bind (.readRM ..) fun _ => .seq .check <| .seq .check <|
      .bind .descriptor fun _ => .seq .check <| .seq .check <| .seq (.writeAccessByte ..) (.finish (.modify _))).instr
  case und8F1 | und8F2 | und8F3 | und8F4 | und8F5 | und8F6 | und8F7 | undC61 | undC62 | undC63 | undC64 | undC65 | undC66 | undC67 |
      undFE2 | undFE3 | undFE4 | undFE5 | undFE6 | undFE7 | undFF7 | und0F006 | und0F007 | und0F015 | und0F017 | und0FBA0 | und0FBA1 |
      und0FBA2 | und0FBA3 => exact (StopsBy.raise ..).instr
  case undShift6 d w md rm => exact .undocumented (.inl ⟨d, w, md, rm, rfl⟩)
  case undShiftImm6 w md rm => exact .undocumented (.inr (.inl ⟨w, md, rm, rfl⟩))
  case undF61 w md rm => exact .undocumented (.inr (.inr (.inl ⟨w, md, rm, rfl⟩)))
  case undD6 | undF1 | und0F05 | und0F07 | und0FA6 | und0FA7 => exact .undocumented (by simp [Undocumented])

/-- Settles O13: what stops an instruction is undone or keeps PE, but in the three with a refusal of their own and the undocumented rows. -/
theorem execRefusesOnlyDeclared : Obligations.ExecRefusesOnlyDeclared := exec_declares

end Sys2Proof.Machine
end

-- ==== Proofs: the register file ====
section
/-!
PROOFS. The general registers by width (10_state.md R51, R52; 30_encoding.md R520): which bits of which register a code names, what a write
changes of them, and what it leaves of the others.
-/
namespace Sys2Proof.Machine

open Sys2Proof

/-- The 32-bit register that holds what the code `r` names at the width `w`. -/
def regHome (w : Width) (r : Reg) : Reg := if w = .b8 then (byteReg r).1 else r

/-- The lowest of the bits that the code `r` names. -/
def regLow (w : Width) (r : Reg) : Nat := if w = .b8 ∧ (byteReg r).2 = true then 8 else 0

/-! Bits replaced in a register. -/

theorem getLsbD_replaceLow {a n : Nat} (old : BitVec (a + n)) (v : BitVec n) (k : Nat) :
    (old.extractLsb' n a ++ v).getLsbD k = if k < n then v.getLsbD k else old.getLsbD k := by
  rw [BitVec.getLsbD_append]
  split
  case isTrue h => simp [h]
  case isFalse h =>
    rw [BitVec.getLsbD_extractLsb', show n + (k - n) = k by omega]
    by_cases hk : k < a + n
    · simp [show k - n < a by omega]
    · simp [BitVec.getLsbD_of_ge old k (by omega)]

theorem getLsbD_replaceHighByte (old : Word) (v : Byte) (k : Nat) :
    (old.extractLsb' 16 16 ++ v ++ old.extractLsb' 0 8).getLsbD k = if 8 ≤ k ∧ k < 16 then v.getLsbD (k - 8) else old.getLsbD k := by
  have hlow := getLsbD_replaceLow (a := 16) (n := 16) old (v ++ old.extractLsb' 0 8) k
  rw [BitVec.append_assoc, BitVec.cast_eq, hlow, BitVec.getLsbD_append]
  by_cases h8 : k < 8
  · simp [h8, show k < 16 by omega, show ¬ 8 ≤ k by omega]
  · simp [h8, show 8 ≤ k by omega]

/-! The file. -/

theorem Regs.get_set (x : Regs) (r q : Reg) (v : Word) : (x.set r v).get q = if q = r then v else x.get q := by
  cases r <;> cases q <;> rfl

theorem Regs.read_eq (x : Regs) (w : Width) (r : Reg) : x.read w r = (x.get (regHome w r)).extractLsb' (regLow w r) w.bits := by
  cases w with
  | b8 => cases r <;> rfl
  | b16 => exact BitVec.setWidth_eq_extractLsb' (by decide)
  | b32 => exact BitVec.extractLsb'_eq_self.symm

/-- A write leaves every register but the one that its code names. -/
theorem Regs.get_write_ne (x : Regs) (w : Width) (r : Reg) {q : Reg} (v : BitVec w.bits) (hq : q ≠ regHome w r) :
    (x.write w r v).get q = x.get q := by
  cases w with
  | b8 =>
    have hq : q ≠ (byteReg r).1 := hq
    unfold Regs.write
    dsimp only
    split <;> rw [Regs.get_set, if_neg hq]
  | b16 | b32 =>
    have hq : q ≠ r := hq
    exact (Regs.get_set ..).trans (if_neg hq)

/-- In that register it changes the bits named. -/
theorem Regs.getLsbD_write_home (x : Regs) (w : Width) (r : Reg) (v : BitVec w.bits) (k : Nat) :
    ((x.write w r v).get (regHome w r)).getLsbD k =
      if regLow w r ≤ k ∧ k < regLow w r + w.bits then v.getLsbD (k - regLow w r) else (x.get (regHome w r)).getLsbD k := by
  cases w with
  | b8 =>
    unfold Regs.write
    cases hb : (byteReg r).2 with
    | true => simpa [regHome, regLow, hb, Regs.get_set, Width.bits] using getLsbD_replaceHighByte (x.get (byteReg r).1) v k
    | false => simpa [regHome, regLow, hb, Regs.get_set, Width.bits] using getLsbD_replaceLow (a := 24) (x.get (byteReg r).1) v k
  | b16 => simpa [regHome, regLow, Regs.write, Regs.get_set, Width.bits] using getLsbD_replaceLow (a := 16) (x.get r) v k
  | b32 =>
    have hwrite : (x.write .b32 r v).get (regHome .b32 r) = v := (Regs.get_set ..).trans (if_pos rfl)
    rw [hwrite]
    by_cases hk : k < 32
    · simp [regLow, Width.bits, hk]
    · rw [BitVec.getLsbD_of_ge _ k (by simpa [Width.bits] using hk), BitVec.getLsbD_of_ge _ k (by omega)]
      simp [regLow, Width.bits, hk]

/-- A write changes the bits that its code names, and no other. -/
theorem Regs.getLsbD_write (x : Regs) (w : Width) (r q : Reg) (v : BitVec w.bits) (k : Nat) :
    ((x.write w r v).get q).getLsbD k = if q = regHome w r ∧ regLow w r ≤ k ∧ k < regLow w r + w.bits then v.getLsbD (k - regLow w r)
      else (x.get q).getLsbD k := by
  by_cases hq : q = regHome w r
  · subst hq
    simpa using x.getLsbD_write_home w r v k
  · rw [Regs.get_write_ne x w r v hq, if_neg fun h => hq h.1]

theorem State.reg_setReg_self (s : State) (w : Width) (r : Reg) (v : BitVec w.bits) : (s.setReg w r v).reg w r = v := by
  refine BitVec.eq_of_getLsbD_eq fun i hi => ?_
  unfold State.reg State.setReg
  rw [Regs.read_eq, BitVec.getLsbD_extractLsb', Regs.getLsbD_write, if_pos ⟨rfl, by omega, by omega⟩]
  simp [hi]

/-! A code of 16 or 32 bits names the register itself. -/

section
variable {w : Width} (hw : w ≠ .b8)
include hw

theorem regHome_of_ne_b8 (r : Reg) : regHome w r = r := if_neg hw

theorem State.get_setReg_ne (s : State) {r q : Reg} (v : BitVec w.bits) (hq : q ≠ r) : (s.setReg w r v).regs.get q = s.regs.get q :=
  Regs.get_write_ne _ _ _ _ (by rwa [regHome_of_ne_b8 hw])

theorem State.reg_congr {s t : State} {q : Reg} (h : t.regs.get q = s.regs.get q) : t.reg w q = s.reg w q := by
  unfold State.reg
  rw [Regs.read_eq, Regs.read_eq, regHome_of_ne_b8 hw, h]

theorem State.reg_setReg_ne (s : State) {r q : Reg} (v : BitVec w.bits) (hq : q ≠ r) : (s.setReg w r v).reg w q = s.reg w q :=
  State.reg_congr hw (s.get_setReg_ne hw v hq)

end

/-- A write of 16 bits keeps the upper half. -/
theorem State.upper_setReg (s : State) (r q : Reg) (v : Half) :
    ((s.setReg .b16 r v).regs.get q).extractLsb' 16 16 = (s.regs.get q).extractLsb' 16 16 := by
  refine BitVec.eq_of_getLsbD_eq fun i hi => ?_
  have hbit : ((s.setReg .b16 r v).regs.get q).getLsbD (16 + i) = (s.regs.get q).getLsbD (16 + i) :=
    (Regs.getLsbD_write s.regs .b16 r q v (16 + i)).trans (if_neg (by simp [regLow, Width.bits]))
  rw [BitVec.getLsbD_extractLsb', BitVec.getLsbD_extractLsb', hbit]

end Sys2Proof.Machine
end

-- ==== Proofs: moves and exchanges ====
section
/-!
PROOFS. MOV, MOVSX, MOVZX, LEA, XLAT, XCHG and the stores of segment and system registers: each is a read of one operand, or none, and one
update (40_data_transfer.md R602 to R611, R625, R626, R631; 44_string.md R813; 49_system.md R995 to R997).
-/
namespace Sys2Proof.Machine

open Sys2Proof

/-! Loads. -/

section
variable {s t : State} {w : Bool} {m : RM}

theorem loadReg_ok {v : BitVec (s.width w).bits} (r : Reg) (h : readRM (s.width w) m s = .ok v t) :
    loadReg w m r s = .ok () (t.setReg (s.width w) r v).advance := M.bind_of_ok h

theorem loadReg_error {e : Stop} (r : Reg) (h : readRM (s.width w) m s = .error e t) : loadReg w m r s = .error e t :=
  (M.get_bind _ s).trans (M.bind_of_error h)

theorem loadAcc_ok {off v : Word} (h : memRead s.dataSeg off (s.width w).bytes s = .ok v t) :
    loadAcc w off s = .ok () (t.setReg (s.width w) .eax (v.setWidth (s.width w).bits)).advance := M.bind_of_ok h

theorem extendReg_ok {signed : Bool} {v : BitVec (extendSource w).bits} (r : Reg) (h : readRM (extendSource w) m s = .ok v t) :
    extendReg signed w m r s = .ok () (t.setReg s.osz r (if signed then v.signExtend s.osz.bits else v.setWidth s.osz.bits)).advance :=
  M.bind_of_ok h

theorem xlatBody_ok {v : Word} (h : memRead s.dataSeg (s.offsetAdd (s.addrReg .ebx) ((s.reg .b8 .eax).setWidth 32)) 1 s = .ok v t) :
    xlatBody s = .ok () (t.setReg .b8 .eax (v.setWidth 8)).advance := M.bind_of_ok h

end

/-- A page fault that undoes the instruction is delivered as a fault with its error code, from the EIP of the instruction. -/
theorem takeException_pageFault {s t : State} {x : Exc} (h : x.vector = 14) :
    takeException s t x false = deliver { vector := 14, kind := .fault, code := x.code } s.eip (s.rollback t) := by
  have hevent : x.event = { vector := 14, kind := .fault, code := x.code } := by
    unfold Exc.event
    rw [h]
    rfl
  unfold takeException
  rw [hevent]
  rfl

/-- Settles O17: each load is a read and a write of one register, whose bits are those that its code names. -/
theorem registerLoads : Obligations.RegisterLoads := by
  refine ⟨fun s t w m r hl => ⟨fun v h => instr_ok hl (loadReg_ok r h), fun x keep h => ⟨instr_error hl (loadReg_error r h), ?fault⟩,
    fun imm => instr_ok hl rfl, fun off v h => instr_ok hl (loadAcc_ok h),
    fun v h => ⟨instr_ok hl (extendReg_ok r h), instr_ok hl (extendReg_ok r h)⟩, fun x => instr_ok hl rfl,
    fun v h => instr_ok hl (xlatBody_ok h)⟩, ?file⟩
  case fault =>
    rintro rfl hx
    exact takeException_pageFault hx
  case file =>
    intro s w r q v k x high home low
    have hhome : home = regHome w r := by cases w <;> cases r <;> rfl
    have hlow : low = regLow w r := by cases w <;> cases r <;> rfl
    rw [hhome, hlow]
    exact ⟨Regs.read_eq .., State.reg_setReg_self .., Regs.getLsbD_write .., rfl, rfl⟩

/-! Stores. -/

/-- A store to memory writes the bytes that the access has found. -/
theorem writeRM_mem_ok {w : Width} {x : MemRef} {v : BitVec w.bits} {keys : List Nat} {s t : State}
    (h : memKeys (s.ea x).1 (s.ea x).2 w.bytes true s = .ok keys t) :
    writeRM w (.mem x) v s = .ok () (t.writeKeys keys (v.setWidth 32)) := memWrite_ok.mpr ⟨keys, t, h, rfl⟩

section
variable {s t : State} {w : Bool} {x : MemRef} {keys : List Nat}

theorem storeReg_mem (r : Reg) (h : memKeys (s.ea x).1 (s.ea x).2 (s.width w).bytes true s = .ok keys t) :
    storeReg w (.mem x) r s = .ok () (t.writeKeys keys ((s.reg (s.width w) r).setWidth 32)).advance :=
  M.bind_of_ok (a := ()) (writeRM_mem_ok h)

theorem storeImm_mem (imm : Word) (h : memKeys (s.ea x).1 (s.ea x).2 (s.width w).bytes true s = .ok keys t) :
    storeImm w (.mem x) imm s = .ok () (t.writeKeys keys ((imm.setWidth (s.width w).bits).setWidth 32)).advance :=
  M.bind_of_ok (a := ()) (writeRM_mem_ok h)

theorem storeAcc_ok {off : Word} (h : memKeys s.dataSeg off (s.width w).bytes true s = .ok keys t) :
    storeAcc w off s = .ok () (t.writeKeys keys ((s.reg (s.width w) .eax).setWidth 32)).advance :=
  M.bind_of_ok (a := ()) (memWrite_ok.mpr ⟨keys, t, h, rfl⟩)

end

/-- How 16 bits stored to an operand end, in a register or in two bytes of memory. -/
theorem instr_storeSystem {body : RM → M Unit} {k : State → Half} {s : State} (hl : s.pfx.lock = false)
    (hbody : ∀ m, body m s = storeSystem m k s) :
    (∀ q, instr (body (.reg q)) s =
      .next (if s.osz32 then s.setReg .b32 q (undefHigh s.freeIdx (k s)) else s.setReg .b16 q (k s)).advance.complete) ∧
    (∀ x keys t, memKeys (s.ea x).1 (s.ea x).2 2 true s = .ok keys t →
      instr (body (.mem x)) s = .next (t.writeKeys keys ((k s).setWidth 32)).advance.complete) := by
  refine ⟨fun q => instr_ok hl ((hbody _).trans rfl), fun x keys t h => instr_ok hl ((hbody _).trans ?_)⟩
  exact M.bind_of_ok (a := ()) (memWrite_ok.mpr ⟨keys, t, h, rfl⟩)

theorem storeSelector_prot {s : State} (k : State → SegReg) (h : s.decodedProt = true) (m : RM) :
    storeSelector m k s = storeSystem m (fun s => (k s).sel) s := M.bind_of_ok (requireProt_ok.mpr ⟨h, rfl⟩)

/-- Settles O18: a store writes one register, or the bytes that the access to its operand has found. -/
theorem stores : Obligations.Stores := by
  refine ⟨fun s t w r imm keys hl => ⟨fun q => ⟨instr_ok hl rfl, instr_ok hl rfl⟩,
      fun x h => ⟨instr_ok hl (storeReg_mem r h), instr_ok hl (storeImm_mem imm h)⟩, fun off h => instr_ok hl (storeAcc_ok h),
      fun v a ha => State.byte_writeKeys_notMem t keys v a ha⟩,
    fun s g hl => ⟨instr_storeSystem (body := fun m => moveFromSeg m g) (k := fun s => (s.seg g).sel) hl fun _ => rfl,
      instr_storeSystem hl fun _ => rfl,
      fun hp => ⟨instr_storeSystem hl (storeSelector_prot State.ldtr hp), instr_storeSystem hl (storeSelector_prot State.tr hp)⟩⟩⟩

/-! Exchanges. -/

/-- Settles O23: an exchange writes both operands with what was read of the other before. -/
theorem exchanges : Obligations.Exchanges := fun _ _ _ _ _ _ =>
  ⟨fun hl => ⟨lockable_reg_ok hl rfl, instr_ok hl rfl⟩, fun _ h => lockable_mem_ok (exchange_mem h)⟩

end Sys2Proof.Machine
end

-- ==== Proofs: loads of segment registers ====
section
/-!
PROOFS. MOV and POP of segment registers, and the far pointer loads: the operand is read, `loadSeg` takes the selector, and the rest of the
instruction follows it (40_data_transfer.md R608, R622, R623, R632 to R637; 30_encoding.md R542).
-/
namespace Sys2Proof.Machine

open Sys2Proof

section
variable {s t u : State} {g : Seg}

theorem moveToSeg_ok {m : RM} {sel : Half} (hg : g ≠ .cs) (h : readRM .b16 m s = .ok sel t) (hs : loadSeg g sel t = .ok () u) :
    moveToSeg m g s = .ok () (u.inhibitIf (g == .ss)).advance := by
  have hcheck : raiseIf (g == .cs) raiseUD s = .ok () s := by
    rw [beq_false_of_ne hg]
    rfl
  exact (M.bind_of_ok hcheck).trans ((M.bind_of_ok h).trans (M.bind_of_ok hs))

theorem popSelector_ok {v : Word} (h : stackRead 0 s.osz.bytes s = .ok v t) (hs : loadSeg g (v.setWidth 16) t = .ok () u) :
    popSelector g s = .ok () ((u.dropStack (BitVec.ofNat 32 s.osz.bytes)).inhibitIf (g == .ss)).advance :=
  (M.bind_of_ok h).trans (M.bind_of_ok hs)

theorem loadFarPtr_ok {x : MemRef} {p : Word × Half} (r : Reg) (h : farPointer x s = .ok p t) (hs : loadSeg g p.2 t = .ok () u) :
    loadFarPtr g (.mem x) r s = .ok () (u.setReg u.osz r (p.1.setWidth u.osz.bits)).advance :=
  (M.bind_of_ok h).trans (M.bind_of_ok hs)

end

/-- The two reads of a far pointer. -/
theorem farPointer_ok {x : MemRef} {off : Word} {sel : Half} {s u : State} :
    farPointer x s = .ok (off, sel) u ↔ ∃ t image, memRead (s.ea x).1 (s.ea x).2 s.osz.bytes s = .ok off t ∧
      memRead (s.ea x).1 (s.offsetAdd (s.ea x).2 (BitVec.ofNat 32 s.osz.bytes)) 2 t = .ok image u ∧ sel = image.setWidth 16 := by
  unfold farPointer
  rw [M.get_bind, M.bind_ok]
  constructor
  · rintro ⟨a, t, ha, h⟩
    obtain ⟨image, v, himage, h⟩ := M.bind_ok.mp h
    cases h
    exact ⟨t, image, ha, himage, rfl⟩
  · rintro ⟨t, image, ha, himage, rfl⟩
    exact ⟨off, t, ha, (M.bind_of_ok himage).trans rfl⟩

/-- Settles O19: each load is `loadSeg` of the selector read, and a far pointer is two reads. -/
theorem segmentLoads : Obligations.SegmentLoads := by
  refine ⟨fun s t u hl => ⟨fun m g sel hg h hs => instr_ok hl (moveToSeg_ok hg h hs), fun v g h hs => ?pop, fun x r p g h hs => ?far⟩,
    fun s u x off sel => farPointer_ok⟩
  case pop =>
    have hpop := instr_ok hl (popSelector_ok h hs)
    refine ⟨?_, ?_, ?_, ?_, ?_⟩ <;> rintro rfl <;> exact hpop
  case far =>
    have hload := instr_ok hl (loadFarPtr_ok r h hs)
    refine ⟨?_, ?_, ?_, ?_, ?_⟩ <;> rintro rfl <;> exact hload

end Sys2Proof.Machine
end

-- ==== Proofs: pushes and pops ====
section
/-!
PROOFS. The stack: what a push with paging off leaves, what the pushes push, and what the pops load (40_data_transfer.md R612 to R624;
41_flag_control.md R676, R678).
-/
namespace Sys2Proof.Machine

open Sys2Proof

/-! The stack pointer and the registers beside it. -/

theorem low16_low16 (v : Word) : low16 (low16 v) = low16 v := by
  simp [low16]

theorem low16_stackAdd {wide : Bool} (sp d : Word) :
    (if wide then stackAdd wide sp d else low16 (stackAdd wide sp d)) = stackAdd wide sp d := by
  cases wide with
  | true => rfl
  | false => exact low16_low16 _

theorem State.ssz32_setSp (s : State) (v : Word) : (s.setSp v).ssz32 = s.ssz32 := by
  simp [State.ssz32, State.prot, State.pe]

theorem State.regs_setSp (s : State) (v : Word) :
    (s.setSp v).regs = if s.ssz32 then s.regs.write .b32 .esp v else s.regs.write .b16 .esp (v.setWidth 16) := by
  unfold State.setSp
  split <;> rfl

theorem State.sp_setSp (s : State) (v : Word) : (s.setSp v).sp = if s.ssz32 then v else low16 v := by
  unfold State.sp
  rw [State.ssz32_setSp]
  split
  case isTrue h => simp [State.setSp, h, State.setReg, Regs.write, Regs.set]
  case isFalse h => simp [State.setSp, h, State.setReg, Regs.write, Regs.set, low16, BitVec.setWidth_append]

theorem State.sp_dropStack (s : State) (d : Word) : (s.dropStack d).sp = stackAdd s.ssz32 s.sp d :=
  (s.sp_setSp _).trans (low16_stackAdd ..)

/-- Moving the stack pointer changes no other register. -/
theorem State.get_setSp (s : State) (v : Word) {q : Reg} (hq : q ≠ .esp) : (s.setSp v).regs.get q = s.regs.get q := by
  unfold State.setSp
  split <;> exact (Regs.get_set ..).trans (if_neg hq)

theorem State.setSp_frame (s : State) (v : Word) : s.setSp v = { s with regs := (s.setSp v).regs } := by
  unfold State.setSp
  split <;> rfl

theorem State.reg_setSp {w : Width} (hw : w ≠ .b8) (s : State) (v : Word) {q : Reg} (hq : q ≠ .esp) : (s.setSp v).reg w q = s.reg w q :=
  State.reg_congr hw (s.get_setSp v hq)

/-- A 16-bit stack pointer leaves the upper half of ESP. -/
theorem State.upper_setSp {s : State} (h : s.ssz32 = false) (v : Word) (q : Reg) :
    ((s.setSp v).regs.get q).extractLsb' 16 16 = (s.regs.get q).extractLsb' 16 16 := by
  unfold State.setSp
  rw [h]
  exact s.upper_setReg ..

/-! Pushes. -/

/-- What the environment does moves no item of the stack. -/
theorem busTurn_pushKeys {s t : State} (h : busTurn s = .ok () t) (nb : Nat) : t.pushKeys nb = s.pushKeys nb :=
  (congrArg (State.pushKeys · nb) (Leaves.busTurn.same h) :)

/-- A push with paging off, after what the environment does. -/
theorem push_unpaged {s t : State} {v : Word} {nb : Nat} (hp : s.pg = false) (hr : s.rightsViolated .ss .write = false)
    (hl : s.limitViolated .ss (stackSub s.ssz32 s.sp nb) nb = false) (ht : busTurn s = .ok () t) :
    push v nb s = .ok () (t.pushed nb v) := by
  have hkept := Leaves.busTurn.kept ht
  refine push_ok.mpr ⟨_, _, memKeys_ok.mpr ⟨hr, hl, t, linKeys_unpaged hp ht, rfl⟩, ?_⟩
  unfold State.pushed State.linear State.seg
  rw [hkept.ss, hkept.ssz32, hkept.sp, busTurn_pushKeys ht]
  rfl

theorem State.byte_pushed (s : State) (nb : Nat) (v : Word) {a : Nat} (h : a ∉ s.pushKeys nb) : (s.pushed nb v).byte a = s.byte a := by
  have hmem : (s.pushed nb v).mem = ((s.noteData (s.linear .ss (stackSub s.ssz32 s.sp nb)) nb true).writeKeys (s.pushKeys nb) v).mem := by
    simp [State.pushed]
  exact (congrArg (cellAt · a) hmem).trans (State.byte_writeKeys_notMem _ _ v a h)

/-- The item stored, before the stack pointer moves. -/
theorem State.accessKept_store (s : State) (la : Word) (nb : Nat) (keys : List Nat) (v : Word) :
    s.AccessKept ((s.noteData la nb true).writeKeys keys v) := .of_unaccessed (State.writeKeys_unaccessed ..)

/-- Of the registers a push changes what the move of the stack pointer changes. -/
theorem State.regs_pushed (s : State) (nb : Nat) (v : Word) : (s.pushed nb v).regs = (s.setSp (stackSub s.ssz32 s.sp nb)).regs := by
  have hkept := s.accessKept_store (s.linear .ss (stackSub s.ssz32 s.sp nb)) nb (s.pushKeys nb) v
  exact (State.regs_setSp ..).trans (by rw [hkept.ssz32, hkept.regs, State.regs_setSp])

theorem State.sp_pushed (s : State) (nb : Nat) (v : Word) : (s.pushed nb v).sp = stackSub s.ssz32 s.sp nb := by
  have hkept := s.accessKept_store (s.linear .ss (stackSub s.ssz32 s.sp nb)) nb (s.pushKeys nb) v
  exact (State.sp_setSp ..).trans (by rw [hkept.ssz32]; exact low16_stackAdd ..)

theorem pushValue_ok {v : Word} {s u : State} (h : push v s.osz.bytes s = .ok () u) : pushValue v s = .ok () u.advance :=
  M.bind_of_ok h

theorem pushOperand_ok {m : RM} {s t u : State} {v : BitVec s.osz.bits} (h : readRM s.osz m s = .ok v t)
    (hp : push (v.setWidth 32) t.osz.bytes t = .ok () u) : pushOperand m s = .ok () u.advance :=
  (M.bind_of_ok h).trans (pushValue_ok hp)

theorem pushOperand_reg {s u : State} (r : Reg) (h : push ((s.reg s.osz r).setWidth 32) s.osz.bytes s = .ok () u) :
    pushOperand (.reg r) s = .ok () u.advance := pushOperand_ok (v := s.reg s.osz r) (t := s) rfl h

theorem pushImmediate_ok {s8 : Bool} {imm : Word} {s u : State} (h : push ((immValue s.osz s8 imm).setWidth 32) s.osz.bytes s = .ok () u) :
    pushImmediate s8 imm s = .ok () u.advance := (M.get_bind _ s).trans (pushValue_ok h)

theorem pushSelector_ok {g : Seg} {s u : State} (h : push (undefHigh s.freeIdx (s.seg g).sel) s.osz.bytes s = .ok () u) :
    pushSelector g s = .ok () u.advance := (M.get_bind _ s).trans (pushValue_ok h)

theorem pushFlags_ok {s u : State} (hv : s.v86 = true → s.flags.iopl = 3)
    (h : push (s.flags.image &&& 0x00FCFFFF) s.osz.bytes s = .ok () u) :
    pushFlags s = .ok () u.advance :=
  (M.bind_of_ok (requireV86Iopl_ok.mpr ⟨hv, rfl⟩)).trans (M.bind_of_ok h)

theorem pushAllRegs_ok {s u : State} (h : pushAll s.osz.bytes
    [s.regs.eax, s.regs.ecx, s.regs.edx, s.regs.ebx, s.regs.esp, s.regs.ebp, s.regs.esi, s.regs.edi] s = .ok () u) :
    pushAllRegs s = .ok () u.advance := M.bind_of_ok h

theorem stackSub_eq (wide : Bool) (sp : Word) (n : Nat) :
    stackSub wide sp n = if wide then sp - BitVec.ofNat 32 n else (sp - BitVec.ofNat 32 n) &&& 0xFFFF := by
  have hsub : sp + (0 - BitVec.ofNat 32 n) = sp - BitVec.ofNat 32 n := by
    rw [zero_sub, ← sub_eq_add_neg]
  unfold stackSub stackAdd
  rw [hsub, low16_eq]

/-- Settles O21: a push is a store and a move of the stack pointer, and each form pushes its item by it. -/
theorem pushInstructions : Obligations.PushInstructions := by
  refine ⟨fun s t v nb hp hr hl ht => ?push, fun s t u hl => ?forms, fun s sp n => ?sizes⟩
  case push =>
    have hkept := Leaves.busTurn.kept ht
    have hregs : (t.pushed nb v).regs = (t.setSp (stackSub t.ssz32 t.sp nb)).regs := t.regs_pushed nb v
    refine ⟨push_unpaged hp hr hl ht, fun a ha => t.byte_pushed nb v (by rwa [busTurn_pushKeys ht]), ?sp, fun r hr => ?regs,
      fun hw => ?upper, fun hb => ?quiet⟩
    case sp => rw [t.sp_pushed, hkept.ssz32, hkept.sp]
    case regs => rw [hregs, State.get_setSp _ _ hr, hkept.regs]
    case upper =>
      rw [hregs, ← hkept.regs]
      exact State.upper_setSp (hkept.ssz32.trans hw) _ .esp
    case quiet =>
      rw [busTurn_nil hb] at ht
      cases ht
      rfl
  case forms =>
    intro w
    exact ⟨fun m v h hp => instr_ok hl (pushOperand_ok h hp), fun r h => instr_ok hl (pushOperand_reg r h),
      fun s8 imm h => instr_ok hl (pushImmediate_ok h),
      fun g h => ⟨instr_ok hl (pushSelector_ok h), fun hg => instr_ok hl (pushSelector_ok (hg ▸ h)),
        fun hg => instr_ok hl (pushSelector_ok (hg ▸ h))⟩,
      fun hv h => instr_ok hl (pushFlags_ok hv h), fun h => instr_ok hl (pushAllRegs_ok h)⟩
  case sizes =>
    refine ⟨rfl, rfl, rfl, rfl, rfl, State.ssz32_of_prot, State.ssz32_of_small, ?_, stackSub_eq ..⟩
    unfold State.sp
    rw [low16_eq]

/-! Pops. -/

theorem popOperand_reg {s t : State} {v : Word} (r : Reg) (h : stackRead 0 s.osz.bytes s = .ok v t) :
    popOperand (.reg r) s = .ok () ((t.dropStack (BitVec.ofNat 32 s.osz.bytes)).setReg s.osz r (v.setWidth s.osz.bits)).advance :=
  M.bind_of_ok h

/-- The address of the destination is computed with the stack pointer already moved. -/
theorem popOperand_mem {x : MemRef} {keys : List Nat} {s t u d : State} {v : Word} (h : stackRead 0 s.osz.bytes s = .ok v t)
    (hd : d = t.dropStack (BitVec.ofNat 32 s.osz.bytes)) (hk : memKeys (d.ea x).1 (d.ea x).2 s.osz.bytes true d = .ok keys u) :
    popOperand (.mem x) s = .ok () (u.writeKeys keys ((v.setWidth s.osz.bits).setWidth 32)).advance := by
  subst hd
  exact (M.bind_of_ok h).trans (M.bind_of_ok (a := ()) (writeRM_mem_ok hk))

theorem popAll_ok {s u : State} {items : List Word} (h : stackItems s.osz.bytes 0 8 s = .ok items u) :
    popAll s = .ok () (u.popAllRegs s.osz items).advance := M.bind_of_ok h

theorem popFlags_ok {s t : State} {v : Word} (hv : s.v86 = true → s.flags.iopl = 3) (h : stackRead 0 s.osz.bytes s = .ok v t) :
    popFlags s = .ok () { (t.dropStack (BitVec.ofNat 32 s.osz.bytes)).toNext with flags := t.loadFlags v false } :=
  (M.bind_of_ok (requireV86Iopl_ok.mpr ⟨hv, rfl⟩)).trans (M.bind_of_ok h)

theorem stackItems_length {w i k : Nat} {items : List Word} {s t : State} (h : stackItems w i k s = .ok items t) : items.length = k := by
  induction k generalizing i items s with
  | zero =>
    cases h
    rfl
  | succ k ih =>
    obtain ⟨v, u, -, h⟩ := M.bind_ok.mp h
    obtain ⟨rest, x, hrest, h⟩ := M.bind_ok.mp h
    cases h
    exact congrArg (· + 1) (ih hrest)

theorem stackItems_succ {w i k : Nat} {x : Word} {xs : List Word} {a b c : State} (hx : stackRead (i * w) w a = .ok x b)
    (hxs : stackItems w (i + 1) k b = .ok xs c) : stackItems w i (k + 1) a = .ok (x :: xs) c :=
  (M.bind_of_ok hx).trans (M.bind_of_ok hxs)

theorem State.osz_ne_b8 (s : State) : s.osz ≠ .b8 := by
  unfold State.osz
  split <;> decide

/-- The registers, in the order in which POPA loads them. -/
def State.loadSeven (s : State) (w : Width) (v : List Word) : State :=
  let item (i : Nat) : BitVec w.bits := (v.getD i 0).setWidth w.bits
  ((((((s.setReg w .edi (item 0)).setReg w .esi (item 1)).setReg w .ebp (item 2)).setReg w .ebx (item 4)).setReg w .edx
    (item 5)).setReg w .ecx (item 6)).setReg w .eax (item 7)

theorem State.popAllRegs_eq (s : State) (w : Width) (v : List Word) :
    s.popAllRegs w v = (s.loadSeven w v).dropStack (BitVec.ofNat 32 (8 * w.bytes)) := rfl

theorem State.popAllRegs_frame (s : State) (w : Width) (v : List Word) : s.popAllRegs w v = { s with regs := (s.popAllRegs w v).regs } :=
  (s.loadSeven w v).setSp_frame _

section
variable {w : Width} (hw : w ≠ .b8) (s : State) (v : List Word)
include hw

/-- Each register is loaded from its item. -/
theorem State.reg_popAllRegs :
    let y := s.popAllRegs w v
    let item (i : Nat) : BitVec w.bits := (v.getD i 0).setWidth w.bits
    y.reg w .edi = item 0 ∧ y.reg w .esi = item 1 ∧ y.reg w .ebp = item 2 ∧ y.reg w .ebx = item 4 ∧ y.reg w .edx = item 5 ∧
      y.reg w .ecx = item 6 ∧ y.reg w .eax = item 7 := by
  simp [State.popAllRegs_eq, State.dropStack, State.loadSeven, State.reg_setSp hw, State.reg_setReg_ne hw, State.reg_setReg_self]

theorem State.get_esp_loadSeven : (s.loadSeven w v).regs.get .esp = s.regs.get .esp := by
  simp [State.loadSeven, State.get_setReg_ne hw, -State.setReg_fields]

theorem State.sp_popAllRegs : (s.popAllRegs w v).sp = stackAdd s.ssz32 s.sp (BitVec.ofNat 32 (8 * w.bytes)) := by
  have hsp : (s.loadSeven w v).sp = s.sp := congrArg (fun e => if s.ssz32 then e else low16 e) (s.get_esp_loadSeven hw v)
  rw [State.popAllRegs_eq, State.sp_dropStack, hsp]
  rfl

theorem State.upper_esp_popAllRegs (h : s.ssz32 = false) :
    ((s.popAllRegs w v).regs.get .esp).extractLsb' 16 16 = (s.regs.get .esp).extractLsb' 16 16 := by
  have hnarrow : (s.loadSeven w v).ssz32 = false := h
  rw [State.popAllRegs_eq, State.dropStack, State.upper_setSp hnarrow, State.get_esp_loadSeven hw]

end

/-- At operand size 16 the items go to the lower halves. -/
theorem State.upper_popAllRegs (s : State) (v : List Word) {q : Reg} (hq : q ≠ .esp) :
    ((s.popAllRegs .b16 v).regs.get q).extractLsb' 16 16 = (s.regs.get q).extractLsb' 16 16 := by
  rw [State.popAllRegs_eq, State.dropStack, State.get_setSp _ _ hq]
  simp only [State.loadSeven, State.upper_setReg]

/-- POPF loads EFLAGS as IRET does, but RF. -/
theorem State.loadFlags_popf (s : State) (image : Word) :
    let f := s.loadFlags image false
    f = { Flags.ofImage image with ifl := f.ifl, iopl := f.iopl, rf := s.flags.rf, vm := s.flags.vm } ∧
    (s.pe = false ∨ s.cpl.toNat ≤ s.flags.iopl.toNat → f.ifl = image.getLsbD 9) ∧
    (s.pe = true → s.flags.iopl.toNat < s.cpl.toNat → f.ifl = s.flags.ifl) ∧
    (s.pe = false ∨ (s.prot = true ∧ s.cpl = 0) → f.iopl = image.extractLsb' 12 2) ∧
    (s.v86 = true ∨ (s.prot = true ∧ s.cpl ≠ 0) → f.iopl = s.flags.iopl) := by
  obtain ⟨-, -, -, -, hflags⟩ := interruptReturns
  exact hflags s image false

/-- Settles O22: a pop reads at the stack top, moves the stack pointer, and writes its destination. -/
theorem popInstructions : Obligations.PopInstructions := by
  intro s t v hl h w
  refine ⟨fun r => ⟨instr_ok hl (popOperand_reg r h), instr_ok hl (popOperand_reg r h)⟩,
    fun x keys u hk => instr_ok hl (popOperand_mem h rfl hk), fun items u hitems => ?all,
    fun n i k a b c x xs => ⟨rfl, stackItems_succ⟩, fun hv => instr_ok hl (popFlags_ok hv h), t.loadFlags_popf v⟩
  have hw := s.osz_ne_b8
  have hframe := u.popAllRegs_frame s.osz items
  obtain ⟨hdi, hsi, hbp, hbx, hdx, hcx, hax⟩ := u.reg_popAllRegs hw items
  refine ⟨(u.popAllRegs s.osz items).regs, (instr_ok hl (popAll_ok hitems)).trans (by rw [← hframe]), stackItems_length hitems,
    hdi, hsi, hbp, hbx, hdx, hcx, hax, ?_, fun hs r hr => ?_, u.upper_esp_popAllRegs hw items⟩
  · rw [← hframe]
    exact u.sp_popAllRegs hw items
  · have hosz : s.osz = .b16 := if_neg (by rw [hs]; decide)
    rw [hosz]
    exact u.upper_popAllRegs items hr

end Sys2Proof.Machine
end

-- ==== Proofs: flag control ====
section
/-!
PROOFS. The flag instructions: the low byte of EFLAGS in AH and back, and IF and TS where the level permits (41_flag_control.md R670 to R675,
R677, R679 to R681).
-/
namespace Sys2Proof.Machine

open Sys2Proof

/-! The low byte of EFLAGS, and AH. -/

/-- The low byte of the image of EFLAGS, as LAHF lays it out (R675). -/
theorem Flags.setWidth_image (f : Flags) : f.image.setWidth 8 =
    BitVec.ofBool f.sf ++ BitVec.ofBool f.zf ++ (0 : BitVec 1) ++ BitVec.ofBool f.af ++ (0 : BitVec 1) ++ BitVec.ofBool f.pf ++
      (1 : BitVec 1) ++ BitVec.ofBool f.cf := by
  simp only [Flags.image, BitVec.setWidth_append]
  simp

/-- The bits of AH are bits 8 to 15 of EAX. -/
theorem State.getLsbD_ah (s : State) {i : Nat} (hi : i < 8) : (s.reg .b8 .esp).getLsbD i = s.regs.eax.getLsbD (8 + i) := by
  show (s.regs.eax.extractLsb' 8 8).getLsbD i = _
  rw [BitVec.getLsbD_extractLsb', decide_eq_true hi, Bool.true_and]

/-- What SAHF loads from AH, by the bits of EAX (R677). -/
theorem State.loadLow_ah (s : State) : s.flags.loadLow (s.reg .b8 .esp) =
    { s.flags with
      sf := s.regs.eax.getLsbD 15, zf := s.regs.eax.getLsbD 14, af := s.regs.eax.getLsbD 12, pf := s.regs.eax.getLsbD 10
      cf := s.regs.eax.getLsbD 8 } := by
  simp only [Flags.loadLow, State.getLsbD_ah, Nat.reduceLT, Nat.reduceAdd]

theorem flagsToAh_ok (s : State) : flagsToAh s = .ok () (s.setReg .b8 .esp (s.flags.image.setWidth 8)).advance := rfl

theorem ahToFlags_ok (s : State) : ahToFlags s = .ok () { s with flags := s.flags.loadLow (s.reg .b8 .esp) }.advance := rfl

theorem setFlags_ok (k : Flags → Flags) (s : State) : setFlags k s = .ok () { s with flags := k s.flags }.advance := rfl

/-- Settles O25: one flag is changed, or the low byte of EFLAGS moves to AH or from it. -/
theorem flagInstructions : Obligations.FlagInstructions := by
  refine ⟨fun s hl => ⟨?clc, ?stc, ?cmc, ?cld, ?std⟩, fun s hl => ⟨?lahf, ?sahf⟩⟩
  case clc | stc | cmc | cld | std => exact instr_ok hl (setFlags_ok _ s)
  case lahf =>
    rw [← Flags.setWidth_image]
    exact instr_ok hl (flagsToAh_ok s)
  case sahf =>
    rw [← State.loadLow_ah]
    exact instr_ok hl (ahToFlags_ok s)

/-! IF and TS, where the level permits. -/

section
variable {s : State}

theorem requireIopl_of_permitted (h : s.pe = false ∨ s.cpl.toNat ≤ s.flags.iopl.toNat) : requireIopl s = .ok () s :=
  requireIopl_ok.mpr ⟨fun hp => h.resolve_left (by rw [hp]; nofun), rfl⟩

theorem clearInterrupt_ok (h : s.pe = false ∨ s.cpl.toNat ≤ s.flags.iopl.toNat) :
    clearInterrupt s = .ok () { s with flags := { s.flags with ifl := false } }.advance :=
  M.bind_of_ok (requireIopl_of_permitted h)

theorem setInterrupt_ok (h : s.pe = false ∨ s.cpl.toNat ≤ s.flags.iopl.toNat) :
    setInterrupt s =
      .ok () { s with inhibit := s.inhibit || !s.flags.ifl, flags := { s.flags with ifl := true } }.advance :=
  M.bind_of_ok (requireIopl_of_permitted h)

theorem clearTaskSwitched_ok (h : s.pe = false ∨ (s.prot = true ∧ s.cpl = 0)) :
    clearTaskSwitched s = .ok () { s with cr0 := s.cr0 &&& ~~~ 8 }.advance :=
  M.bind_of_ok (requireCpl0_of_privileged h)

end

/-- Settles O26: the check of the level is passed, and IF or TS is written. -/
theorem interruptFlagControl : Obligations.InterruptFlagControl := fun _ hl =>
  ⟨fun h => ⟨instr_ok hl (clearInterrupt_ok h), instr_ok hl (setInterrupt_ok h)⟩, fun h => instr_ok hl (clearTaskSwitched_ok h)⟩

end Sys2Proof.Machine
end


-- ==== Proofs: the flags of sums and differences ====
section
/-!
PROOFS. Sums and differences as numbers (42_arithmetic.md R700): the result is the exact one modulo 2^n, and OF compares the two by their
signs.
-/
namespace Sys2Proof

theorem Width.bits_pos (w : Width) : 0 < w.bits := by cases w <;> decide

end Sys2Proof

namespace Sys2Proof.Machine

open Sys2Proof

variable {n : Nat}

/-! Signed results. -/

/-- A result modulo 2^n is the exact number, or 2^n away from it, where that lies within three halves of 2^n. -/
theorem toInt_cases_of_bmod {r : BitVec n} {z : Int} (hr : r.toInt = z.bmod (2 ^ n)) (hlow : -(3 * 2 ^ n) ≤ 2 * z)
    (hhigh : 2 * z < 3 * 2 ^ n) : r.toInt = z ∨ r.toInt = z + 2 ^ n ∨ r.toInt = z - 2 ^ n := by
  have hpow : ((2 ^ n : Nat) : Int) = 2 ^ n := by norm_cast
  rw [hr]
  by_cases hbelow : 2 * z < -2 ^ n
  · right; left
    rw [← hpow, ← Int.add_bmod_right]
    exact Int.bmod_eq_of_le_mul_two (by omega) (by omega)
  by_cases habove : 2 ^ n ≤ 2 * z
  · right; right
    rw [← hpow, ← Int.sub_bmod_right]
    exact Int.bmod_eq_of_le_mul_two (by omega) (by omega)
  · left
    exact Int.bmod_eq_of_le_mul_two (by omega) (by omega)

theorem msb_iff_toInt_neg (r : BitVec n) : r.msb = true ↔ r.toInt < 0 := by
  rw [BitVec.msb_eq_toInt, decide_eq_true_eq]

/-! Sums. -/

theorem toInt_addFlags (f : Flags) (a b : BitVec n) (c : Bool) :
    (addFlags f a b c).1.toInt = (a.toInt + b.toInt + c.toNat).bmod (2 ^ n) := by
  have hsum : (addFlags f a b c).1 = a + b + BitVec.ofNat n c.toNat := by simp [addFlags, BitVec.ofNat_add]
  rw [hsum, BitVec.toInt_add, BitVec.toInt_add, BitVec.toInt_ofNat', Int.bmod_add_bmod, Int.add_bmod_bmod]

/-- OF of a sum: two terms of one sign and a result of the other. -/
theorem addFlags_off_iff (hn : 0 < n) (f : Flags) (a b : BitVec n) (c : Bool) :
    (addFlags f a b c).2.off = true ↔ (addFlags f a b c).1.toInt ≠ a.toInt + b.toInt + c.toNat := by
  have hsigns : (addFlags f a b c).2.off = true ↔ (a.toInt < 0 ↔ b.toInt < 0) ∧ ¬ ((addFlags f a b c).1.toInt < 0 ↔ a.toInt < 0) := by
    simp only [← msb_iff_toInt_neg]
    simp [addFlags]
  have hr := toInt_addFlags f a b c
  have heven : (2 : Int) ^ n = 2 * 2 ^ (n - 1) := (mul_pow_sub_one hn.ne' 2).symm
  have hc := c.toNat_le
  have := a.toInt_lt
  have := a.le_toInt
  have := b.toInt_lt
  have := b.le_toInt
  have := (addFlags f a b c).1.toInt_lt
  have := (addFlags f a b c).1.le_toInt
  have hcases := toInt_cases_of_bmod hr (by omega) (by omega)
  rw [hsigns]
  omega

/-! Differences. -/

theorem toInt_subFlags (f : Flags) (a b : BitVec n) (c : Bool) :
    (subFlags f a b c).1.toInt = (a.toInt - b.toInt - c.toNat).bmod (2 ^ n) := by
  show (a - b - BitVec.ofNat n c.toNat).toInt = _
  rw [BitVec.toInt_sub, BitVec.toInt_sub, BitVec.toInt_ofNat', Int.bmod_sub_bmod, Int.sub_bmod_bmod]

theorem toInt_complement (hn : 0 < n) (b : BitVec n) : (~~~b).toInt = -b.toInt - 1 := by
  have hlt := b.isLt
  rw [BitVec.toInt_eq_msb_cond, BitVec.toInt_eq_msb_cond, BitVec.msb_not, decide_eq_true hn, BitVec.toNat_not]
  cases b.msb <;> simp only [Bool.true_and, Bool.not_true, Bool.not_false, Bool.false_eq_true, if_true, if_false] <;> omega

/-- OF of a difference is that of the sum with the complement, which is the same number. -/
theorem subFlags_off_iff (hn : 0 < n) (f : Flags) (a b : BitVec n) (c : Bool) :
    (subFlags f a b c).2.off = true ↔ (subFlags f a b c).1.toInt ≠ a.toInt - b.toInt - c.toNat := by
  have hexact : a.toInt + (~~~b).toInt + ((!c).toNat : Nat) = a.toInt - b.toInt - c.toNat := by
    rw [toInt_complement hn]
    cases c <;> simp <;> omega
  have hresult : (subFlags f a b c).1 = (addFlags f a (~~~b) (!c)).1 :=
    BitVec.eq_of_toInt_eq (by rw [toInt_subFlags, toInt_addFlags, hexact])
  have hoff : (subFlags f a b c).2.off = (addFlags f a (~~~b) (!c)).2.off := by
    show (a.msb != b.msb && (subFlags f a b c).1.msb != a.msb) = (a.msb == (~~~b).msb && (addFlags f a (~~~b) (!c)).1.msb != a.msb)
    rw [hresult, BitVec.msb_not, decide_eq_true hn, Bool.true_and]
    cases a.msb <;> cases b.msb <;> rfl
  rw [hoff, addFlags_off_iff hn, hexact, hresult]

/-- A borrow out of natural numbers is a negative difference. -/
theorem decide_borrow_iff (x y c : Nat) : decide (x < y + c) = true ↔ (x : Int) - y - c < 0 := by
  rw [decide_eq_true_eq]
  omega

theorem ofResult_zf_sf_pf (f : Flags) (r : BitVec n) :
    ((f.ofResult r).zf = true ↔ r.toNat = 0) ∧ ((f.ofResult r).sf = true ↔ r.toInt < 0) ∧
      ((f.ofResult r).pf = true ↔ ((List.range 8).countP fun i => r.getLsbD i) % 2 = 0) :=
  ⟨beq_zero_iff_toNat r, msb_iff_toInt_neg r, parity_iff r⟩

/-- Settles O30: the result is the exact number modulo 2^n, so CF and OF are what is lost of it. -/
theorem flagsOfAdditionAndSubtraction : Obligations.FlagsOfAdditionAndSubtraction := by
  intro w f a b c
  refine ⟨BitVec.toNat_ofNat _ _, decide_eq_true_iff, addFlags_off_iff w.bits_pos f a b c, decide_eq_true_iff, toInt_subFlags f a b c,
    decide_borrow_iff .., subFlags_off_iff w.bits_pos f a b c, decide_borrow_iff .., ?result⟩
  case result =>
    rintro r g (⟨rfl, rfl⟩ | ⟨rfl, rfl⟩)
    · exact ⟨rfl, ofResult_zf_sf_pf f _⟩
    · exact ⟨rfl, ofResult_zf_sf_pf f _⟩

end Sys2Proof.Machine
end


-- ==== Proofs: CMP and TEST ====
section
/-!
PROOFS. CMP and TEST (42_arithmetic.md R710; 43_logic.md R772): an operand is read and flags are written, nothing else.
-/
namespace Sys2Proof.Machine

open Sys2Proof

theorem readOnly_ok {w : Width} {m : RM} {k : BitVec w.bits → Flags → Flags} {s t : State} {a : BitVec w.bits}
    (h : readRM w m s = .ok a t) : readOnly w m k s = .ok () { t with flags := k a t.flags }.advance :=
  M.bind_of_ok h

theorem testBody_ok {w : Width} {m : RM} {s t : State} {a : BitVec w.bits} (b : BitVec w.bits) (h : readRM w m s = .ok a t) :
    testBody w m b s = .ok () { t with flags := (alu .and t.flags s.freeIdx a b).2 }.advance :=
  readOnly_ok (k := fun x f => logicFlags f s.freeIdx (x &&& b)) h

/-- Settles O28: each form is a read of its operand and the flags of one operation. -/
theorem compareAndTest : Obligations.CompareAndTest := by
  intro s t w m r s8 imm a hl
  refine ⟨fun h => ⟨?cmp, ?cmpTo, ?cmpImm, ?test, ?testImm⟩, ?cmpAcc, ?testAcc, fun u x y => ⟨rfl, logicFlags_bitwise ..⟩⟩
  case cmp | cmpTo | cmpImm => exact instr_ok hl (readOnly_ok h)
  case test | testImm => exact instr_ok hl (testBody_ok _ h)
  case cmpAcc => exact instr_ok hl (readOnly_ok rfl)
  case testAcc => exact instr_ok hl (testBody_ok _ rfl)

end Sys2Proof.Machine
end


-- ==== Proofs: products and quotients ====
section
/-!
PROOFS. Multiplication and division (42_arithmetic.md R716 to R721): what the instructions leave, the halves of the exact product, and when
a quotient fits.
-/
namespace Sys2Proof.Machine

open Sys2Proof

/-! The instructions. -/

section
variable {w : Width} {m : RM} {s t : State} {b : BitVec w.bits}

theorem multiplyAcc_ok {lo hi : BitVec w.bits → BitVec w.bits → BitVec w.bits} {significant : BitVec w.bits → BitVec w.bits → Bool}
    (h : readRM w m s = .ok b t) :
    multiplyAcc w m lo hi significant s =
      .ok () { t.setPair w (hi (t.reg w .eax) b) (lo (t.reg w .eax) b) with
        flags := mulFlags t.flags t.freeIdx (significant (t.reg w .eax) b) }.advance :=
  M.bind_of_ok h

theorem imulTo_ok {r : Reg} {other : State → BitVec w.bits} (h : readRM w m s = .ok b t) :
    imulTo w m r other s =
      .ok () { t.setReg w r (mulLo (other t) b) with flags := mulFlags t.flags t.freeIdx (imulBig (other t) b) }.advance :=
  M.bind_of_ok h

/-- How a division ends that began in `s`: with the quotient and the remainder in the pair, or with exception 0 (R720, R721). -/
def divisionOutcome (s t : State) (w : Width) : Option (BitVec w.bits × BitVec w.bits) → Result
  | some (q, r) => .next { t.setPair w r q with flags := t.flags.undefAll t.freeIdx }.advance.complete
  | none => takeException s t ⟨0, none⟩ false

theorem divideAcc_some {k : State → BitVec w.bits → Option (BitVec w.bits × BitVec w.bits)} {q r : BitVec w.bits}
    (h : readRM w m s = .ok b t) (hk : k t b = some (q, r)) :
    divideAcc w m k s = .ok () { t.setPair w r q with flags := t.flags.undefAll t.freeIdx }.advance := by
  unfold divideAcc
  rw [M.bind_of_ok h, M.get_bind, hk]
  rfl

theorem divideAcc_none {k : State → BitVec w.bits → Option (BitVec w.bits × BitVec w.bits)}
    (h : readRM w m s = .ok b t) (hk : k t b = none) : divideAcc w m k s = .error (.exc ⟨0, none⟩ false) t := by
  unfold divideAcc
  rw [M.bind_of_ok h, M.get_bind, hk]
  rfl

theorem instr_divideAcc (k : State → BitVec w.bits → Option (BitVec w.bits × BitVec w.bits)) (hl : s.pfx.lock = false)
    (h : readRM w m s = .ok b t) : instr (divideAcc w m k) s = divisionOutcome s t w (k t b) := by
  cases hk : k t b with
  | some x => exact instr_ok hl (divideAcc_some h hk)
  | none => rw [instr_of_noLock hl, perform_exc (divideAcc_none h hk)]; rfl

end

/-! Products. -/

section
variable {n : Nat}

/-- The upper and the lower half of a product make it up. -/
theorem mulHi_mulLo (a b : BitVec n) : (mulHi a b).toNat * 2 ^ n + (mulLo a b).toNat = a.toNat * b.toNat := by
  have hfits : a.toNat * b.toNat / 2 ^ n < 2 ^ n :=
    (Nat.div_lt_iff_lt_mul (Nat.two_pow_pos n)).mpr (Nat.mul_lt_mul'' a.isLt b.isLt)
  rw [mulHi, mulLo, BitVec.toNat_ofNat, Nat.mod_eq_of_lt hfits, BitVec.toNat_mul]
  exact Nat.div_add_mod' _ _

/-- The product of signed numbers is at most a quarter of 2^(2n), on both sides of 0. -/
theorem toInt_mul_toInt_bounds (hn : 0 < n) (a b : BitVec n) :
    -(2 ^ (n - 1) * 2 ^ (n - 1)) ≤ a.toInt * b.toInt ∧ a.toInt * b.toInt ≤ 2 ^ (n - 1) * 2 ^ (n - 1) := by
  have hpow : (2 : Int) ^ (n * 2 - 2) = 2 ^ (n - 1) * 2 ^ (n - 1) := by rw [← pow_add]; congr 1; omega
  rw [← hpow]
  exact ⟨BitVec.le_toInt_mul_toInt, BitVec.toInt_mul_toInt_le⟩

theorem toInt_imulHi (hn : 0 < n) (a b : BitVec n) : (imulHi a b).toInt = a.toInt * b.toInt / 2 ^ n := by
  obtain ⟨hlow, hhigh⟩ := toInt_mul_toInt_bounds hn a b
  have hpos : (0 : Int) < 2 ^ (n - 1) := by positivity
  have heven : (2 : Int) ^ n = 2 * 2 ^ (n - 1) := (mul_pow_sub_one hn.ne' 2).symm
  refine BitVec.toInt_ofInt_eq_self hn ?_ ?_
  · rw [Int.le_ediv_iff_mul_le (by positivity), heven]
    nlinarith
  · rw [Int.ediv_lt_iff_lt_mul (by positivity), heven]
    nlinarith

theorem toNat_mulLo (a b : BitVec n) : ((mulLo a b).toNat : Int) = a.toInt * b.toInt % 2 ^ n := by
  have hpow : ((2 ^ n : Nat) : Int) = 2 ^ n := by norm_cast
  have hmod : (mulLo a b).toInt % (2 ^ n : Nat) = a.toInt * b.toInt % (2 ^ n : Nat) := by
    rw [mulLo, BitVec.toInt_mul, Int.bmod_emod]
  rw [BitVec.toInt_eq_toNat_bmod, Int.bmod_emod] at hmod
  rw [← hpow, ← hmod, Int.emod_eq_of_lt (by omega) (by exact_mod_cast (mulLo a b).isLt)]

theorem imulHi_mulLo (hn : 0 < n) (a b : BitVec n) :
    (imulHi a b).toInt * 2 ^ n + (mulLo a b).toNat = a.toInt * b.toInt := by
  rw [toInt_imulHi hn, toNat_mulLo]
  exact Int.ediv_mul_add_emod _ _

/-- The lower half as a signed number is the product where the product is a signed number of n bits. -/
theorem imulBig_iff (hn : 0 < n) (a b : BitVec n) :
    imulBig a b = true ↔ a.toInt * b.toInt < -(2 ^ (n - 1)) ∨ 2 ^ (n - 1) ≤ a.toInt * b.toInt := by
  have hlo : (mulLo a b).toInt = (BitVec.ofInt n (a.toInt * b.toInt)).toInt := by
    rw [mulLo, BitVec.toInt_mul, BitVec.toInt_ofInt]
  rw [imulBig, decide_eq_true_eq, ← not_lt, ← not_le, ← not_and_or]
  refine not_congr ⟨fun h => ?_, fun h => ?_⟩
  · rw [h]
    exact ⟨(mulLo a b).le_toInt, BitVec.toInt_lt⟩
  · rw [hlo, BitVec.toInt_ofInt_eq_self hn h.1 h.2]

end

/-- Settles O31: the instructions write what the operations give, and the two halves are quotient and remainder of the product by 2^n. -/
theorem multiplication : Obligations.Multiplication := by
  refine ⟨fun s t w m b hl h => ⟨instr_ok hl (multiplyAcc_ok h), instr_ok hl (multiplyAcc_ok h)⟩,
    fun s t m r s8 imm b hl h => ⟨instr_ok hl (imulTo_ok h), instr_ok hl (imulTo_ok h)⟩, fun w a b => ?_⟩
  exact ⟨mulHi_mulLo a b, imulHi_mulLo w.bits_pos a b, imulBig_iff w.bits_pos a b⟩

/-! Quotients. -/

section
variable {n : Nat}

theorem ofNat_eq_iff {x : Nat} {v : BitVec n} (hx : x < 2 ^ n) : BitVec.ofNat n x = v ↔ v.toNat = x := by
  rw [← BitVec.toNat_inj, BitVec.toNat_ofNat, Nat.mod_eq_of_lt hx, eq_comm]

theorem ofInt_eq_iff (hn : 0 < n) {x : Int} {v : BitVec n} (hlow : -2 ^ (n - 1) ≤ x) (hhigh : x < 2 ^ (n - 1)) :
    BitVec.ofInt n x = v ↔ v.toInt = x := by
  rw [← BitVec.toInt_inj, BitVec.toInt_ofInt_eq_self hn hlow hhigh, eq_comm]

theorem divide_eq_some_iff {num : Nat} {d q r : BitVec n} :
    divide num d = some (q, r) ↔ d.toNat ≠ 0 ∧ q.toNat = num / d.toNat ∧ r.toNat = num % d.toNat := by
  have hzero : d = 0 ↔ d.toNat = 0 := BitVec.toNat_inj.symm
  unfold divide
  split
  case isTrue h =>
    refine iff_of_false nofun ?_
    rintro ⟨hd, hq, -⟩
    have := q.isLt
    exact h.elim (fun h => hd (hzero.mp h)) (by omega)
  case isFalse h =>
    obtain ⟨hd, hq⟩ := not_or.mp h
    rw [hzero] at hd
    have hr : num % d.toNat < 2 ^ n := (Nat.mod_lt _ (Nat.pos_of_ne_zero hd)).trans d.isLt
    rw [Option.some_inj, Prod.mk.injEq, ofNat_eq_iff (not_le.mp hq), ofNat_eq_iff hr]
    exact (and_iff_right hd).symm

/-- A remainder is less than the divisor, so it fits. -/
theorem tmod_toInt_bounds (num : Int) {d : BitVec n} (hd : d.toInt ≠ 0) :
    -2 ^ (n - 1) ≤ num.tmod d.toInt ∧ num.tmod d.toInt < 2 ^ (n - 1) := by
  have hless : (num.tmod d.toInt).natAbs < d.toInt.natAbs := by
    rw [Int.natAbs_tmod]
    exact Nat.mod_lt _ (Int.natAbs_pos.mpr hd)
  have := d.le_toInt
  have := d.toInt_lt
  omega

theorem idivide_eq_some_iff (hn : 0 < n) {num : Int} {d q r : BitVec n} :
    idivide num d = some (q, r) ↔ d.toInt ≠ 0 ∧ q.toInt = num.tdiv d.toInt ∧ r.toInt = num.tmod d.toInt := by
  have hzero : d = 0 ↔ d.toInt = 0 := by rw [← BitVec.toInt_inj, show (0 : BitVec n).toInt = 0 from BitVec.toInt_zero]
  simp only [idivide]
  split
  case isTrue h =>
    refine iff_of_false nofun ?_
    rintro ⟨hd, hq, -⟩
    have := q.le_toInt
    have := q.toInt_lt
    exact h.elim (fun h => hd (hzero.mp h)) (by omega)
  case isFalse h =>
    obtain ⟨hd, hfits⟩ := not_or.mp h
    rw [hzero] at hd
    obtain ⟨hlow, hhigh⟩ := tmod_toInt_bounds num hd
    rw [Option.some_inj, Prod.mk.injEq, ofInt_eq_iff hn (by omega) (by omega), ofInt_eq_iff hn hlow hhigh]
    exact (and_iff_right hd).symm

end

/-- Settles O32: a division ends as its quotient says, and the quotient is refused where no number of n bits is it. -/
theorem division : Obligations.Division :=
  ⟨fun _ _ _ _ _ hl h => ⟨instr_divideAcc _ hl h, instr_divideAcc _ hl h⟩, fun _ _ _ _ _ => divide_eq_some_iff,
    fun w _ _ _ _ => idivide_eq_some_iff w.bits_pos⟩

end Sys2Proof.Machine
end


-- ==== Proofs: decimal adjustments ====
section
/-!
PROOFS. The decimal and ASCII adjustments and the sign conversions (42_arithmetic.md R712 to R715, R722 to R725).
-/
namespace Sys2Proof.Machine

open Sys2Proof

theorem daaAl_eq (al : Byte) (f : Flags) : daaAl al f =
    (al + (if adjustLow al f then 6 else 0) + (if decide (0x99 < al.toNat) || f.cf then 0x60 else 0), decide (0x99 < al.toNat) || f.cf) := by
  unfold daaAl
  cases adjustLow al f <;> cases decide (0x99 < al.toNat) || f.cf <;> simp

theorem dasAl_eq (al : Byte) (f : Flags) : dasAl al f =
    (al - (if adjustLow al f then 6 else 0) - (if decide (0x99 < al.toNat) || f.cf then 0x60 else 0),
      decide (0x99 < al.toNat) || f.cf || (adjustLow al f && (f.cf || decide (al.toNat < 6)))) := by
  unfold dasAl
  cases adjustLow al f <;> cases decide (0x99 < al.toNat) || f.cf <;> simp

theorem decimalAdjust_ok (k : Byte → Flags → Byte × Bool) (s : State) : decimalAdjust k s =
    .ok () { s.setReg .b8 .eax (k (s.reg .b8 .eax) s.flags).1 with
      flags := { s.flags.ofResult (k (s.reg .b8 .eax) s.flags).1 with
        af := adjustLow (s.reg .b8 .eax) s.flags, cf := (k (s.reg .b8 .eax) s.flags).2, off := undefBit s.freeIdx 5 } }.advance := rfl

theorem aamBody_ok {base : Byte} (h : base ≠ 0) (s : State) :
    aamBody base s = .ok () (s.setAhAl (s.reg .b8 .eax / base) (s.reg .b8 .eax % base)).advance := by
  unfold aamBody
  rw [beq_eq_false_iff_ne.mpr h]
  rfl

/-- Settles O33: each changes AL, AX or the pair at once, and AAM checks its base first. -/
theorem decimalAdjustAndConvert : Obligations.DecimalAdjustAndConvert := by
  intro s hl
  refine ⟨?aaa, ?aas, ?daa, ?das, fun base => ?aad, fun base h => ?aam, ?aamZero, ?cbw, ?cwd⟩
  case aaa | aas | aad | cbw | cwd => exact instr_ok hl rfl
  case daa =>
    have h := decimalAdjust_ok daaAl s
    rw [daaAl_eq] at h
    exact instr_ok hl h
  case das =>
    have h := decimalAdjust_ok dasAl s
    rw [dasAl_eq] at h
    exact instr_ok hl h
  case aam => exact instr_ok hl (aamBody_ok h s)
  case aamZero => exact instr_exc hl rfl

end Sys2Proof.Machine
end


-- ==== Proofs: shifts and rotates ====
section
/-!
PROOFS. The shifts and rotates (43_logic.md section 1): a rotate is read bit by bit, and one through the carry is a rotate of the carry
above the operand; then the flags, and the forms of the instructions, which check a memory operand and leave it where the count is 0.
-/
namespace Sys2Proof.Machine

open Sys2Proof

/-! Rotates, bit by bit. -/

section
variable {n : Nat} (f : Flags) (idx c : Nat) (a : BitVec n)

theorem getLsbD_rotateLeft_add {i : Nat} (hi : i < n) : (a.rotateLeft c).getLsbD ((i + c) % n) = a.getLsbD i := by
  have hc : c % n < n := Nat.mod_lt _ (by omega)
  rw [BitVec.getLsbD_rotateLeft, Nat.add_mod_eq_ite, Nat.mod_eq_of_lt hi]
  split
  case isTrue hwrap => simp [show i + c % n - n < c % n by omega, show n - c % n + (i + c % n - n) = i by omega]
  case isFalse hstay => simp [Nat.lt_of_not_le hstay]

theorem getLsbD_rotateRight_add {i : Nat} (hi : i < n) : (a.rotateRight c).getLsbD i = a.getLsbD ((i + c) % n) := by
  have hc : c % n < n := Nat.mod_lt _ (by omega)
  rw [BitVec.getLsbD_rotateRight, Nat.add_mod_eq_ite, Nat.mod_eq_of_lt hi]
  split
  case isTrue hwrap => simp [hi, show ¬ i < n - c % n by omega, show i - (n - c % n) = i + c % n - n by omega]
  case isFalse hstay => simp [show i < n - c % n by omega, Nat.add_comm]

theorem rotateRight_rotateLeft : (a.rotateLeft c).rotateRight c = a :=
  BitVec.eq_of_getLsbD_eq fun _ hi => by rw [getLsbD_rotateRight_add _ _ hi, getLsbD_rotateLeft_add _ _ hi]

theorem rol_fst : (rol f idx a c).1 = a.rotateLeft c := by
  rw [rol, BitVec.rotateLeft_def]
  split
  case isTrue h => simp [h, BitVec.ushiftRight_eq_zero]
  case isFalse => rfl

theorem ror_fst : (ror f idx a c).1 = a.rotateRight c := by
  rw [ror, BitVec.rotateRight_def]
  split
  case isTrue h => simp [h]
  case isFalse => rfl

/-- RCL rotates the carry above the operand (R763). -/
theorem cons_rcl : BitVec.cons (rcl f idx a c).2.cf (rcl f idx a c).1 = (BitVec.cons f.cf a).rotateLeft c :=
  (BitVec.cons_msb_setWidth _).trans (rol_fst f idx c (BitVec.cons f.cf a))

/-- RCR rotates it back (R764). -/
theorem cons_rcr : BitVec.cons (rcr f idx a c).2.cf (rcr f idx a c).1 = (BitVec.cons f.cf a).rotateRight c :=
  (BitVec.cons_msb_setWidth _).trans (ror_fst f idx c (BitVec.cons f.cf a))

theorem cons_inj {x y : Bool} {u v : BitVec n} (h : BitVec.cons x u = BitVec.cons y v) : x = y ∧ u = v :=
  ⟨by simpa using congrArg BitVec.msb h, by simpa using congrArg (BitVec.setWidth n) h⟩

/-- CF and the operand come back together: both are parts of the value rotated. -/
theorem rcr_rcl : (rcr (rcl f idx a c).2 idx (rcl f idx a c).1 c).2.cf = f.cf ∧ (rcr (rcl f idx a c).2 idx (rcl f idx a c).1 c).1 = a :=
  cons_inj (by rw [cons_rcr, cons_rcl, rotateRight_rotateLeft])

theorem getLsbD_rol {i : Nat} (hi : i < n) : (rol f idx a c).1.getLsbD ((i + c) % n) = a.getLsbD i := by
  rw [rol_fst, getLsbD_rotateLeft_add c a hi]

theorem getLsbD_ror {i : Nat} (hi : i < n) : (ror f idx a c).1.getLsbD i = a.getLsbD ((i + c) % n) := by
  rw [ror_fst, getLsbD_rotateRight_add c a hi]

theorem getLsbD_cons_rcl {i : Nat} (hi : i ≤ n) :
    (BitVec.cons (rcl f idx a c).2.cf (rcl f idx a c).1).getLsbD ((i + c) % (n + 1)) = (BitVec.cons f.cf a).getLsbD i := by
  rw [cons_rcl, getLsbD_rotateLeft_add c _ (Nat.lt_succ_of_le hi)]

theorem getLsbD_cons_rcr {i : Nat} (hi : i ≤ n) :
    (BitVec.cons (rcr f idx a c).2.cf (rcr f idx a c).1).getLsbD i = (BitVec.cons f.cf a).getLsbD ((i + c) % (n + 1)) := by
  rw [cons_rcr, getLsbD_rotateRight_add c _ (Nat.lt_succ_of_le hi)]

end

/-! OF of a count of 1: the bit next to the sign, or the one moved around, is the sign of the operand. -/

section
variable {n : Nat} (f : Flags) (idx : Nat) (a : BitVec n)

@[simp] theorem shiftOf_one (b : Bool) : shiftOf idx 1 b = b := rfl

theorem shl_one_off (hn : 0 < n) : (shl f idx a 1).2.off = ((shl f idx a 1).1.msb ^^ a.msb) := by
  simp only [shl, shiftOf_one, if_pos (Nat.succ_le_of_lt hn), ← BitVec.msb_eq_getLsbD_last]

theorem rol_one_off (hn : 0 < n) : (rol f idx a 1).2.off = ((rol f idx a 1).1.msb ^^ a.msb) := by
  have hsign := getLsbD_rol f idx 1 a (Nat.sub_one_lt_of_lt hn)
  rw [Nat.sub_add_cancel hn, Nat.mod_self, ← BitVec.msb_eq_getLsbD_last] at hsign
  rw [← hsign]
  rfl

theorem ror_one_off (hn : 1 < n) : (ror f idx a 1).2.off = ((ror f idx a 1).1.msb ^^ a.msb) := by
  have hsign := getLsbD_ror f idx 1 a (show n - 2 < n by omega)
  rw [show n - 2 + 1 = n - 1 by omega, Nat.mod_eq_of_lt (by omega), ← BitVec.msb_eq_getLsbD_last] at hsign
  rw [← hsign]
  rfl

theorem rcl_one_off (hn : 0 < n) : (rcl f idx a 1).2.off = ((rcl f idx a 1).1.msb ^^ a.msb) := by
  have hsign := getLsbD_cons_rcl f idx 1 a (Nat.sub_le n 1)
  rw [Nat.sub_add_cancel hn, Nat.mod_eq_of_lt n.lt_succ_self, BitVec.getLsbD_cons, BitVec.getLsbD_cons, if_pos rfl, if_neg (by omega),
    ← BitVec.msb_eq_getLsbD_last] at hsign
  rw [← hsign]
  rfl

theorem rcr_one_off (hn : 1 < n) : (rcr f idx a 1).2.off = ((rcr f idx a 1).1.msb ^^ a.msb) := by
  have hsign := getLsbD_cons_rcr f idx 1 a (Nat.sub_le n 2)
  rw [show n - 2 + 1 = n - 1 by omega, Nat.mod_eq_of_lt (by omega), BitVec.getLsbD_cons, BitVec.getLsbD_cons, if_neg (by omega),
    if_neg (by omega), ← BitVec.msb_eq_getLsbD_last] at hsign
  rw [← hsign]
  rfl

end

/-! Shifts. -/

section
variable {n : Nat} (f : Flags) (idx c : Nat) (a b : BitVec n)

theorem toNat_shl : (shl f idx a c).1.toNat = a.toNat * 2 ^ c % 2 ^ n := by
  rw [← Nat.shiftLeft_eq]
  exact BitVec.toNat_shiftLeft

theorem toNat_shr : (shr f idx a c).1.toNat = a.toNat / 2 ^ c := by
  rw [← Nat.shiftRight_eq_div_pow]
  exact BitVec.toNat_ushiftRight a c

theorem toInt_sar : (sar f idx a c).1.toInt = a.toInt / 2 ^ c := by
  have h := Int.shiftRight_eq_div_pow a.toInt c
  rw [Int.natCast_pow] at h
  exact BitVec.toInt_sshiftRight.trans h

/-- SF, ZF and PF are those of the result, whatever CF and OF are. -/
theorem shiftFlags_shifted (r : BitVec n) (cf off : Bool) : ({ shiftFlags f idx r with cf := cf, off := off } : Flags).shifted f idx r :=
  ⟨rfl, beq_zero_iff_toNat r, parity_iff r⟩

theorem doubleShift_left (h : c ≤ n) : doubleShift false f idx a b c =
    ((a <<< c) ||| (b >>> (n - c)), doubleFlags f idx a ((a <<< c) ||| (b >>> (n - c))) c (a.getLsbD (n - c))) :=
  if_neg (Nat.not_lt.mpr h)

theorem doubleShift_right (h : c ≤ n) : doubleShift true f idx a b c =
    ((a >>> c) ||| (b <<< (n - c)), doubleFlags f idx a ((a >>> c) ||| (b <<< (n - c))) c (a.getLsbD (c - 1))) :=
  if_neg (Nat.not_lt.mpr h)

/-- The upper half of the two operands shifted left as one. -/
theorem extractLsb'_append_shiftLeft (h : c ≤ n) : ((a ++ b) <<< c).extractLsb' n n = (a <<< c) ||| (b >>> (n - c)) := by
  refine BitVec.eq_of_getLsbD_eq fun i hi => ?_
  simp only [BitVec.getLsbD_extractLsb', BitVec.getLsbD_shiftLeft, BitVec.getLsbD_append, BitVec.getLsbD_or, BitVec.getLsbD_ushiftRight]
  rcases Nat.lt_or_ge i c with hic | hic
  · simp [hi, hic, show n + i < n + n by omega, show ¬ n + i < c by omega, show n + i - c < n by omega,
      show n - c + i = n + i - c by omega]
  · simp [hi, show n + i < n + n by omega, show ¬ n + i < c by omega, show ¬ i < c by omega, show ¬ n + i - c < n by omega,
      show n + i - c - n = i - c by omega, BitVec.getLsbD_of_ge b (n - c + i) (by omega)]

/-- The lower half of the two operands shifted right as one. -/
theorem extractLsb'_append_ushiftRight (h : c ≤ n) : ((b ++ a) >>> c).extractLsb' 0 n = (a >>> c) ||| (b <<< (n - c)) := by
  refine BitVec.eq_of_getLsbD_eq fun i hi => ?_
  simp only [BitVec.getLsbD_extractLsb', BitVec.getLsbD_shiftLeft, BitVec.getLsbD_append, BitVec.getLsbD_or, BitVec.getLsbD_ushiftRight]
  rcases Nat.lt_or_ge (c + i) n with hci | hci
  · simp [hi, hci, show i < n - c by omega]
  · simp [hi, show ¬ c + i < n by omega, show ¬ i < n - c by omega, show c + i - n = i - (n - c) by omega,
      BitVec.getLsbD_of_ge a (c + i) hci]

end

theorem one_lt_bits (w : Width) : 1 < w.bits := by cases w <;> decide

/-- Settles O35: the rotates bit by bit, the shifts as products and quotients, and the flags as each operation writes them. -/
theorem shiftResults : Obligations.ShiftResults := by
  intro w f idx c a _ _
  have hn := one_lt_bits w
  refine ⟨toNat_shl f idx c a, toNat_shr f idx c a, toInt_sar f idx c a, fun hc => ⟨if_pos hc, if_pos hc, if_pos hc⟩, fun g => ?rorRol,
    (rcr_rcl f idx c a).2, (rcr_rcl f idx c a).1,
    ⟨fun i hi => ⟨getLsbD_rol f idx c a hi, getLsbD_ror f idx c a hi⟩, rfl, rfl, fun i hi => ?around⟩, ?overflow,
    ?rotateFlags, ?shiftFlags, fun hc => if_neg (Nat.not_le.mpr hc), fun b hc => ?double⟩
  case rorRol => rw [ror_fst, rol_fst, rotateRight_rotateLeft]
  case around =>
    simp only [← BitVec.getLsbD_cons]
    exact ⟨getLsbD_cons_rcl f idx c a hi, getLsbD_cons_rcr f idx c a hi⟩
  case overflow =>
    rintro rfl
    exact ⟨shl_one_off f idx a w.bits_pos, rfl, rfl, rol_one_off f idx a w.bits_pos, ror_one_off f idx a hn,
      rcl_one_off f idx a w.bits_pos, rcr_one_off f idx a hn⟩
  case rotateFlags =>
    simp only [List.forall_mem_cons]
    exact ⟨rfl, rfl, rfl, rfl, List.forall_mem_nil _⟩
  case shiftFlags =>
    simp only [List.forall_mem_cons]
    exact ⟨shiftFlags_shifted .., shiftFlags_shifted .., shiftFlags_shifted .., List.forall_mem_nil _⟩
  case double =>
    simp only [doubleShift_left f idx c a b hc, doubleShift_right f idx c a b hc, extractLsb'_append_shiftLeft c a b hc,
      extractLsb'_append_ushiftRight c a b hc, List.forall_mem_cons]
    refine ⟨trivial, trivial, rfl, rfl, ⟨shiftFlags_shifted .., ?_⟩, ⟨shiftFlags_shifted .., ?_⟩, List.forall_mem_nil _⟩
    all_goals rintro rfl; rfl

/-! The forms. -/

theorem probeKeys_ok {g : Seg} {off : Word} {nb : Nat} {keys : List Nat} {s t : State} :
    probeKeys g off nb s = .ok keys t ↔
      s.rightsViolated g .write = false ∧ s.limitViolated g off nb = false ∧
      ∃ u, linKeys (s.linear g off) nb true s.user s = .ok keys u ∧ t = u.noteData (s.linear g off) nb false := by
  unfold probeKeys
  rw [M.bind_ok]
  constructor
  · rintro ⟨_, u, hcheck, hrest⟩
    obtain ⟨hrights, hlimit, rfl⟩ := checkSeg_ok.mp hcheck
    rw [M.get_bind] at hrest
    obtain ⟨k, v, hkeys, hend⟩ := M.bind_ok.mp hrest
    cases hend
    exact ⟨hrights, hlimit, v, hkeys, rfl⟩
  · rintro ⟨hrights, hlimit, u, hkeys, rfl⟩
    refine ⟨(), s, checkSeg_ok.mpr ⟨hrights, hlimit, rfl⟩, ?_⟩
    rw [M.get_bind, M.bind_of_ok hkeys]
    rfl

theorem maskedCount_eq (raw : Byte) : maskedCount raw = raw.toNat % 32 :=
  (BitVec.toNat_and raw 0x1F).trans (Nat.and_two_pow_sub_one_eq_mod raw.toNat 5)

section
variable {W : Width} {s t : State} {x : MemRef} {c : Nat} {keys : List Nat} (k : BitVec W.bits → Flags → BitVec W.bits × Flags)

theorem shiftBody_reg (q : Reg) (c : Nat) (s : State) :
    shiftBody W (.reg q) c k s = .ok () (if c = 0 then s else s.updateReg W q k).advance := by
  unfold shiftBody
  split <;> rfl

theorem shiftBody_mem (h : memKeys (s.ea x).1 (s.ea x).2 W.bytes true s = .ok keys t) (hc : c ≠ 0) :
    shiftBody W (.mem x) c k s = .ok () (t.updateKeys W keys k).advance := by
  unfold shiftBody
  rw [if_neg hc]
  exact M.bind_of_ok (updateRM_mem_ok.mpr ⟨keys, t, h, rfl⟩)

/-- With a count of 0 a memory operand is probed only. -/
theorem shiftBody_mem_zero (h : probeKeys (s.ea x).1 (s.ea x).2 W.bytes s = .ok keys t) (hc : c = 0) :
    shiftBody W (.mem x) c k s = .ok () t.advance := by
  unfold shiftBody
  rw [if_pos hc]
  exact M.bind_of_ok (a := ()) (t := t) (M.bind_of_ok h)

end

/-- Settles O34: every instruction is the shared body with the operation of its name, and the body takes the three forms. -/
theorem shiftInstructions : Obligations.ShiftInstructions := by
  intro s w r hl shifts group double
  have forms {W : Width} {i : RM → Instr} {raw : Byte} {k : Nat → BitVec W.bits → Flags → BitVec W.bits × Flags}
      (hexec : ∀ m, exec (i m) s = instr (shiftBody W m (maskedCount raw) (k (maskedCount raw))) s) : shifts W i raw k :=
    ⟨fun q => (hexec _).trans (instr_ok hl (shiftBody_reg _ q _ s)),
      fun _ _ _ h hc => (hexec _).trans (instr_ok hl (shiftBody_mem _ h hc)),
      fun _ _ t hrights hlimit h hc =>
        (hexec _).trans (instr_ok hl (shiftBody_mem_zero _ (probeKeys_ok.mpr ⟨hrights, hlimit, t, h, rfl⟩) hc))⟩
  -- Opaque, so that the instruction and the count are read off the goal.
  clear_value shifts
  refine ⟨?rol, ?ror, ?rcl, ?rcr, ?shl, ?shr, ?sar, ?shld, ?shrd, fun W f idx c a => ⟨rfl, rfl, rfl, rfl, rfl, rfl, rfl⟩, maskedCount_eq⟩
  case shld | shrd => exact ⟨forms fun _ => rfl, fun _ => forms fun _ => rfl⟩
  all_goals exact ⟨forms fun _ => rfl, forms fun _ => rfl, fun _ => forms fun _ => rfl⟩

end Sys2Proof.Machine
end


-- ==== Proofs: string instructions ====
section
/-!
PROOFS. The string instructions: the two operands of an element, the element of each instruction as its accesses and one update, and the
instruction as one element or one iteration (44_string.md R800 to R812).
-/
namespace Sys2Proof.Machine

open Sys2Proof

/-! The operands of an element. -/

section
variable {w : Width} {s t u x : State} {a b : Word} {keys : List Nat}

theorem readSource_ok (h : memRead s.dataSeg (s.addrReg .esi) w.bytes s = .ok a t) : readSource w s = .ok (a.setWidth w.bits) t :=
  M.bind_of_ok h

theorem readDest_ok (h : memRead .es (s.addrReg .edi) w.bytes s = .ok b t) : readDest w s = .ok (b.setWidth w.bits) t :=
  M.bind_of_ok h

theorem writeDest_ok (v : BitVec w.bits) (h : memKeys .es (s.addrReg .edi) w.bytes true s = .ok keys t) :
    writeDest w v s = .ok () (t.writeKeys keys (v.setWidth 32)) :=
  memWrite_ok.mpr ⟨keys, t, h, rfl⟩

theorem portRead_ok {port : Half} {nb : Nat} (h : busTurn s = .ok () t) : portRead port nb s = .ok (t.ioRead port nb) t :=
  M.bind_of_ok h

/-! Elements. -/

theorem lodsElement_ok (h : memRead s.dataSeg (s.addrReg .esi) w.bytes s = .ok a t) :
    lodsElement w s = .ok () ((t.setReg w .eax (a.setWidth w.bits)).stepIndex .esi w) :=
  M.bind_of_ok (readSource_ok h)

theorem movsElement_ok (h : memRead s.dataSeg (s.addrReg .esi) w.bytes s = .ok a t)
    (hk : memKeys .es (t.addrReg .edi) w.bytes true t = .ok keys u) :
    movsElement w s = .ok () (((u.writeKeys keys ((a.setWidth w.bits).setWidth 32)).stepIndex .esi w).stepIndex .edi w) :=
  (M.bind_of_ok (readSource_ok h)).trans (M.bind_of_ok (writeDest_ok _ hk))

theorem cmpsElement_ok (h : memRead s.dataSeg (s.addrReg .esi) w.bytes s = .ok a t)
    (hb : memRead .es (t.addrReg .edi) w.bytes t = .ok b u) :
    cmpsElement w s = .ok () (({ u with
      flags := cmpFlags u.flags (a.setWidth w.bits) (b.setWidth w.bits) }.stepIndex .esi w).stepIndex .edi w) :=
  (M.bind_of_ok (readSource_ok h)).trans (M.bind_of_ok (readDest_ok hb))

theorem scasElement_ok (h : memRead .es (s.addrReg .edi) w.bytes s = .ok b t) :
    scasElement w s = .ok () ({ t with flags := cmpFlags t.flags (t.reg w .eax) (b.setWidth w.bits) }.stepIndex .edi w) :=
  M.bind_of_ok (readDest_ok h)

theorem stosElement_ok (h : memKeys .es (s.addrReg .edi) w.bytes true s = .ok keys t) :
    stosElement w s = .ok () ((t.writeKeys keys ((s.reg w .eax).setWidth 32)).stepIndex .edi w) :=
  M.bind_of_ok (writeDest_ok _ h)

/-- The destination is checked before the port is read (R806; decision D26). -/
theorem insElement_ok (hp : ioPermitted (s.regs.edx.setWidth 16) w.bytes s = .ok () t)
    (hk : memKeys .es (s.addrReg .edi) w.bytes true t = .ok keys u) (hx : busTurn u = .ok () x) :
    insElement w s = .ok () ((x.writeKeys keys (x.ioRead (s.regs.edx.setWidth 16) w.bytes)).stepIndex .edi w) :=
  (M.bind_of_ok hp).trans ((M.bind_of_ok hk).trans (M.bind_of_ok (portRead_ok hx)))

theorem outsElement_ok (hp : ioPermitted (s.regs.edx.setWidth 16) w.bytes s = .ok () t)
    (h : memRead t.dataSeg (t.addrReg .esi) w.bytes t = .ok a u)
    (hx : portWrite (s.regs.edx.setWidth 16) w.bytes ((a.setWidth w.bits).setWidth 32) u = .ok () x) :
    outsElement w s = .ok () (x.stepIndex .esi w) :=
  (M.bind_of_ok hp).trans ((M.bind_of_ok (readSource_ok h)).trans (M.bind_of_ok hx))

end

/-- Settles O37: each element is its accesses in order and one update, and a port write that nothing comes between is its bytes. -/
theorem stringElements : Obligations.StringElements := by
  intro s t u w a b keys moved port
  refine ⟨fun h => ⟨?lods, fun hk => ?movs, fun hb => ?cmps⟩, fun h => ?scas, fun h => ?stos,
    fun hp x => ⟨fun hk hx => ?ins, fun h => ⟨fun hx => ?outs, fun hb => ?port⟩⟩⟩
  case lods => exact lodsElement_ok h
  case movs => exact movsElement_ok h hk
  case cmps => exact cmpsElement_ok h hb
  case scas => exact scasElement_ok h
  case stos => exact stosElement_ok h
  case ins => exact insElement_ok hp hk hx
  case outs => exact outsElement_ok hp h hx
  case port => exact portWrite_nil (bytes_cases w) hb

/-! One element and one iteration. -/

section
variable {element : M Unit} {s t : State} {stop : Flags → Bool}

theorem once_ok (h : element s = .ok () t) : once element s = .ok () t.advance := M.bind_of_ok h

theorem repStep_zero (stop : Flags → Bool) (element : M Unit) (h : s.addrReg .ecx = 0) :
    repStep stop element s = .ok () s.advance := by
  unfold repStep
  rw [M.get_bind, if_pos h]
  rfl

/-- The second exit is taken by the flags of the element: the count changes no flag (R801, R802). -/
theorem repStep_ok (h : s.addrReg .ecx ≠ 0) (ht : element s = .ok () t) :
    repStep stop element s = .ok () (
      let u := t.setAddrReg .ecx (s.addrReg .ecx - 1)
      if s.addrReg .ecx = 1 ∨ stop t.flags = true then u.advance else u.holdOn) := by
  have hflags : (t.setAddrReg .ecx (s.addrReg .ecx - 1)).flags = t.flags := by simp
  unfold repStep
  rw [M.get_bind, if_neg h, M.bind_of_ok ht, M.modify_bind, M.get_bind, hflags, M.ite_apply]
  split <;> rfl

theorem instr_repStep_ok (hl : s.pfx.lock = false) (h : s.addrReg .ecx ≠ 0) (ht : element s = .ok () t) :
    instr (repStep stop element) s = .next (
      let u := t.setAddrReg .ecx (s.addrReg .ecx - 1)
      if s.addrReg .ecx = 1 ∨ stop t.flags = true then u.advance.complete else u.holdOn.complete) :=
  (instr_ok hl (repStep_ok h ht)).trans (congrArg _ (apply_ite State.complete ..))

end

/-- Settles O38: every instruction is one element or one iteration, with the element of its name. -/
theorem stringInstructions : Obligations.StringInstructions := by
  intro s t w hl cx ends single W
  have one {i : Instr} {element : M Unit} (hexec : exec i s = instr (once element) s) : single i element :=
    fun h => hexec.trans (instr_ok hl (once_ok h))
  have rep {i : Instr} {element : M Unit} (stop : Flags → Bool) (hexec : exec i s = instr (repStep stop element) s) :
      ends (stop t.flags) i element :=
    ⟨fun h => hexec.trans (instr_ok hl (repStep_zero stop element h)), fun h ht => hexec.trans (instr_repStep_ok hl h ht)⟩
  -- Opaque, so that the instruction and its element are read off the goal.
  clear_value ends single
  exact ⟨one rfl, one rfl, one rfl, one rfl, one rfl, one rfl, one rfl,
    rep neverStop rfl, rep neverStop rfl, rep neverStop rfl, rep neverStop rfl, rep neverStop rfl,
    rep stopUnequal rfl, rep stopEqual rfl, rep stopUnequal rfl, rep stopEqual rfl⟩

end Sys2Proof.Machine
end

-- ==== Proofs: the entry of REAL mode ====
section
/-!
PROOFS. With paging off the entry of REAL mode is three pushes that do not stop and the reads of the vector (60_exceptions.md R1060 to R1062,
R1122).
-/
namespace Sys2Proof.Machine

open Sys2Proof

/-! Pushes one after another. -/

theorem stackAdd_stackAdd (wide : Bool) (sp d e : Word) : stackAdd wide (stackAdd wide sp d) e = stackAdd wide sp (d + e) := by
  cases wide with
  | true => exact BitVec.add_assoc ..
  | false =>
    show low16 (low16 (sp + d) + e) = low16 (sp + (d + e))
    simp [low16, BitVec.setWidth_add, BitVec.add_assoc]

theorem stackSub_stackSub (wide : Bool) (sp : Word) (m n : Nat) : stackSub wide (stackSub wide sp m) n = stackSub wide sp (m + n) := by
  have hsum : (0 - BitVec.ofNat 32 m) + (0 - BitVec.ofNat 32 n) = 0 - BitVec.ofNat 32 (m + n) := by
    rw [BitVec.ofNat_add]
    ring
  exact (stackAdd_stackAdd ..).trans (congrArg (stackAdd wide sp) hsum)

/-- Room for one more item is room below the first one. -/
theorem SegReg.hasRoom_succ {r : SegReg} {sp : Word} {n w : Nat} {prot : Bool} (h : r.hasRoom sp (n + 1) w prot = true) :
    r.outside (stackSub (r.stackWide prot) sp w) w prot = false ∧ r.hasRoom (stackSub (r.stackWide prot) sp w) n w prot = true := by
  simp only [SegReg.hasRoom, List.all_eq_true, List.mem_range, Bool.not_eq_true', stackSub_stackSub] at h ⊢
  refine ⟨by simpa using h 0 (by omega), fun i hi => ?_⟩
  have hitem : (i + 1 + 1) * w = w + (i + 1) * w := by ring
  exact hitem ▸ h (i + 1) (by omega)

/-- A push changes the stack pointer and memory, and notes the breakpoints. -/
theorem State.pushed_frame (s : State) (nb : Nat) (v : Word) :
    s.pushed nb v = { s with regs := (s.pushed nb v).regs, mem := (s.pushed nb v).mem, stale := (s.pushed nb v).stale,
                             pend := (s.pushed nb v).pend, accessIdx := (s.pushed nb v).accessIdx } := by
  unfold State.pushed
  dsimp only
  rw [State.setSp_frame, State.writeKeys_eq]
  rfl

theorem State.flags_pushed (s : State) (nb : Nat) (v : Word) : (s.pushed nb v).flags = s.flags := (congrArg State.flags (s.pushed_frame nb v) :)

theorem State.ssz32_pushed (s : State) (nb : Nat) (v : Word) : (s.pushed nb v).ssz32 = s.ssz32 := (congrArg State.ssz32 (s.pushed_frame nb v) :)

/-- With paging off and no other bus master, `n` items of `w` bytes can be pushed. -/
structure State.TakesItems (s : State) (n w : Nat) : Prop where
  unpaged : s.pg = false
  alone : s.bus = []
  rights : s.rightsViolated .ss .write = false
  room : s.ss.hasRoom s.sp n w s.prot = true

theorem State.TakesItems.push {s : State} {n w : Nat} (h : s.TakesItems (n + 1) w) (v : Word) :
    push v w s = .ok () (s.pushed w v) ∧ (s.pushed w v).TakesItems n w := by
  obtain ⟨hfirst, hrest⟩ := SegReg.hasRoom_succ h.room
  have hframe := s.pushed_frame w v
  refine ⟨push_unpaged h.unpaged h.rights hfirst (busTurn_nil h.alone), (congrArg State.pg hframe).trans h.unpaged,
    (congrArg State.bus hframe).trans h.alone, (congrArg (State.rightsViolated · .ss .write) hframe).trans h.rights, ?room⟩
  rw [State.sp_pushed, hframe]
  exact hrest

/-! The entry. -/

theorem entry_real {e : Event} {savedEip : Word} {s : State} (h : s.entryProt e = false) : entry e savedEip s = realEntry e savedEip s := by
  unfold entry
  rw [M.get_bind, h]
  rfl

theorem State.entryProt_eq_false_iff (s : State) (e : Event) :
    s.entryProt e = false ↔ s.pe = false ∨ (e.kind = .software ∧ s.v86 = false ∧ s.decodedProt = false) := by
  rw [← Bool.not_eq_true, State.entryProt_iff]
  simp only [not_and_or, not_or, Bool.not_eq_true, ne_eq, not_not]

theorem realEntry_unpaged {e : Event} {savedEip : Word} {s : State} (hlimit : e.vector.toNat * 4 + 3 ≤ s.idtr.limit.toNat)
    (h : s.TakesItems 3 2) : realEntry e savedEip s = .ok () (s.realEntered e savedEip) := by
  have hread (la : Word) : linRead la 2 false s = .ok (s.readKeys (s.physKeys la 2)) s := linRead_unpaged h.unpaged (busTurn_nil h.alone)
  obtain ⟨hflags, h2⟩ := h.push s.flags.image
  obtain ⟨hcs, h1⟩ := h2.push (s.cs.sel.setWidth 32)
  obtain ⟨hip, -⟩ := h1.push savedEip
  unfold realEntry
  refine (M.get_bind _ s).trans <| (M.check_bind (decide_eq_false (by omega))).trans <| (M.bind_of_ok (hread _)).trans <|
    (M.bind_of_ok (hread _)).trans <| (M.bind_of_ok (checkRoom_pass h.room)).trans <| (M.bind_of_ok hflags).trans <|
      (M.bind_of_ok hcs).trans <| (M.bind_of_ok hip).trans rfl

theorem State.realEntered_flags (s : State) (e : Event) (savedEip : Word) : (s.realEntered e savedEip).flags =
    { s.flags with ifl := false, tf := false, rf := s.flags.rf && e.kind != .software } := by
  unfold State.realEntered
  simp only [State.flags_pushed]

theorem State.realEntered_sp (s : State) (e : Event) (savedEip : Word) : (s.realEntered e savedEip).sp = stackSub s.ssz32 s.sp 6 := by
  have hflags : (s.realEntered e savedEip).sp = (((s.pushed 2 s.flags.image).pushed 2 (s.cs.sel.setWidth 32)).pushed 2 savedEip).sp := rfl
  rw [hflags]
  simp only [State.sp_pushed, State.ssz32_pushed, stackSub_stackSub]

/-- Settles O48: the three pushes find room one below the other, and what they do not store to keeps its value. -/
theorem realModeEntry : Obligations.RealModeEntry := by
  refine fun s e savedEip => ⟨s.entryProt_eq_false_iff e, fun hreal hpg hbus hlimit hroom hrights => ?_⟩
  have hentry := realEntry_unpaged (savedEip := savedEip) hlimit ⟨hpg, hbus, hrights, hroom⟩
  refine ⟨deliver_of_entry ((entry_real hreal).trans hentry), s.realEntered_flags e savedEip, s.realEntered_sp e savedEip,
    fun a hflags hcs hip => ?_⟩
  exact (State.byte_pushed _ 2 savedEip hip).trans ((State.byte_pushed _ 2 _ hcs).trans (State.byte_pushed _ 2 _ hflags))

end Sys2Proof.Machine
end

-- ==== Proofs: near transfers ====
section
/-!
PROOFS. Near jumps, calls and returns, where the target lies within the limit of CS and where it does not (46_control_transfer.md R860 to R862,
R866 to R868, R872, R873, R877 to R883).
-/
namespace Sys2Proof.Machine

open Sys2Proof

/-! The target. -/

theorem checkTarget_error {a : Word} {s : State} (h : s.cs.limit.toNat < a.toNat) :
    checkTarget a s = .error (.exc ⟨13, some 0⟩ false) s := by
  unfold checkTarget
  rw [M.get_bind, decide_eq_true h]
  rfl

theorem nearJump_error {a : Word} {s : State} (h : s.cs.limit.toNat < a.toNat) : nearJump a s = .error (.exc ⟨13, some 0⟩ false) s :=
  M.bind_of_error (checkTarget_error h)

theorem takeException_undone (s t : State) (x : Exc) : takeException s t x false = deliver x.event s.eip (s.rollback t) := rfl

/-- A check that fails after other parts of the instruction leaves what they have done to memory, and no more. -/
theorem instr_gp0_after {body : M Unit} {s t : State} (hl : s.pfx.lock = false) (h : body s = .error (.exc ⟨13, some 0⟩ false) t) :
    instr body s = deliver { vector := 13, kind := .fault, code := some 0 } s.eip (s.rollback t) :=
  (instr_error hl h).trans (takeException_undone s t ⟨13, some 0⟩)

/-! CALL. The target is checked before the return address is pushed, and the push leaves CS. -/

theorem nearCall_ok {a : Word} {s u : State} (hroom : s.ss.hasRoom s.sp 1 s.osz.bytes s.prot = true) (h : a.toNat ≤ s.cs.limit.toNat)
    (hpush : push s.eipNext s.osz.bytes s = .ok () u) : nearCall a s = .ok () (u.jump a) := by
  have hcs : u.cs = s.cs := ((Leaves.push ..).of_unpushed (q := State.cs) fun _ => rfl).same hpush
  exact (M.get_bind _ s).trans <| (M.bind_of_ok (checkRoom_pass hroom)).trans <| (M.bind_of_ok (checkTarget_pass h)).trans <|
    (M.bind_of_ok hpush).trans (nearJump_ok.mpr ⟨hcs ▸ h, rfl⟩)

theorem nearCall_error {a : Word} {s : State} (hroom : s.ss.hasRoom s.sp 1 s.osz.bytes s.prot = true) (h : s.cs.limit.toNat < a.toNat) :
    nearCall a s = .error (.exc ⟨13, some 0⟩ false) s :=
  (M.get_bind _ s).trans <| (M.bind_of_ok (checkRoom_pass hroom)).trans (M.bind_of_error (checkTarget_error h))

/-- A transfer through an operand begins with its read. -/
theorem indirect_apply {m : RM} {k : Word → M Unit} {s t : State} {v : BitVec s.osz.bits} (h : readRM s.osz m s = .ok v t) :
    indirect m k s = k (v.setWidth 32) t := M.bind_of_ok h

/-! RET. -/

theorem nearRet_ok {imm v : Word} {s t : State} (htop : s.limitViolated .ss s.sp s.osz.bytes = false)
    (hread : stackRead 0 s.osz.bytes s = .ok v t) (h : v.toNat ≤ t.cs.limit.toNat) :
    nearRet imm s = .ok () ((t.dropStack (BitVec.ofNat 32 s.osz.bytes + imm)).jump v) :=
  (M.get_bind _ s).trans <| (M.bind_of_ok (checkStackTop_pass htop)).trans <| (M.bind_of_ok hread).trans (M.bind_of_ok (checkTarget_pass h))

theorem nearRet_error {imm v : Word} {s t : State} (htop : s.limitViolated .ss s.sp s.osz.bytes = false)
    (hread : stackRead 0 s.osz.bytes s = .ok v t) (h : t.cs.limit.toNat < v.toNat) :
    nearRet imm s = .error (.exc ⟨13, some 0⟩ false) t :=
  (M.get_bind _ s).trans <| (M.bind_of_ok (checkStackTop_pass htop)).trans <| (M.bind_of_ok hread).trans (M.bind_of_error (checkTarget_error h))

/-! Conditional jumps and loops that are taken. -/

theorem exec_shortJump {tttn : Nat} (h : tttn < 16) (rel : Byte) (s : State) :
    exec (Sys2Proof.shortJump tttn rel) s = instr (jumpIf (s.flags.cond tttn) (s.relTarget8 rel)) s := by
  interval_cases tttn <;> rfl

theorem exec_nearJump {tttn : Nat} (h : tttn < 16) (rel : Word) (s : State) :
    exec (Sys2Proof.nearJump tttn rel) s = instr (jumpIf (s.flags.cond tttn) (s.relTarget rel)) s := by
  interval_cases tttn <;> rfl

theorem jumpIf_error {c : Bool} {a : Word} {s : State} (hc : c = true) (h : s.cs.limit.toNat < a.toNat) :
    jumpIf c a s = .error (.exc ⟨13, some 0⟩ false) s := by
  rw [hc]
  exact nearJump_error h

/-- The count that a loop has decremented is undone with it. -/
theorem State.rollback_setAddrReg (s : State) (r : Reg) (v : Word) : s.rollback (s.setAddrReg r v) = s := by
  unfold State.setAddrReg
  split <;> rfl

theorem instr_loopBody_error {c : Bool} {a : Word} {s : State} (hl : s.pfx.lock = false) (hc : c = true) (hcount : s.addrReg .ecx ≠ 1)
    (h : s.cs.limit.toNat < a.toNat) :
    instr (loopBody c a) s = deliver { vector := 13, kind := .fault, code := some 0 } s.eip s := by
  have hjump : loopBody c a s = .error (.exc ⟨13, some 0⟩ false) (s.setAddrReg .ecx (s.addrReg .ecx - 1)) :=
    jumpIf_error (by rw [hc, bne_iff_ne.mpr hcount]; rfl) (by simpa using h)
  rw [instr_gp0_after hl hjump, State.rollback_setAddrReg]

/-- Settles O39: the target is checked before anything is stored, and a fault keeps only what the reads before it leave. -/
theorem nearTransfers : Obligations.NearTransfers := by
  refine ⟨fun s t u hl => ?transfers, fun s r8 rel hl => ?beyond⟩
  case transfers =>
    intro cut target8 target within room called gp
    have hshort : target8 = s.relTarget8 := funext fun d => (s.target_eq _).symm
    have hnear : target = s.relTarget := funext fun d => (s.target_eq _).symm
    rw [hshort, hnear]
    refine ⟨fun rel h => ?short, fun rel => ⟨fun h => ?jump, fun ⟨hroom, h, hpush⟩ => ?call⟩, fun m v hread => ?operand,
      fun v htop hread => ?ret⟩
    case short => exact instr_ok hl (nearJump_ok.mpr ⟨h, rfl⟩)
    case jump => exact instr_ok hl (nearJump_ok.mpr ⟨h, rfl⟩)
    case call => exact instr_ok hl (nearCall_ok hroom h hpush)
    case operand =>
      have hindirect {k : Word → M Unit} := indirect_apply (k := k) hread
      refine ⟨fun h => instr_ok hl (hindirect.trans (nearJump_ok.mpr ⟨h, rfl⟩)),
        fun ⟨hroom, h, hpush⟩ => instr_ok hl (hindirect.trans (nearCall_ok hroom h hpush)), fun h => ?_⟩
      have h := Nat.lt_of_not_le h
      exact ⟨instr_gp0_after hl (hindirect.trans (nearJump_error h)), fun hroom => instr_gp0_after hl (hindirect.trans (nearCall_error hroom h))⟩
    case ret =>
      refine ⟨fun h => ⟨?_, fun imm => instr_ok hl (nearRet_ok htop hread h)⟩, fun h => ?_⟩
      · rw [← Word.add_zero_lit (BitVec.ofNat 32 s.osz.bytes)]
        exact instr_ok hl (nearRet_ok htop hread h)
      · have h := Nat.lt_of_not_le h
        exact ⟨instr_gp0_after hl (nearRet_error htop hread h), fun imm => instr_gp0_after hl (nearRet_error htop hread h)⟩
  case beyond =>
    intro cut target8 target gp cx
    have hshort : target8 = s.relTarget8 := funext fun d => (s.target_eq _).symm
    have hnear : target = s.relTarget := funext fun d => (s.target_eq _).symm
    rw [hshort, hnear]
    refine ⟨fun h => ?short, fun h => ?near⟩
    case short =>
      have hjump {c : Bool} (hc : c = true) := instr_gp0 hl (jumpIf_error hc h)
      have hloop {c : Bool} (hcount : cx ≠ 1) (hc : c = true) := instr_loopBody_error hl hc hcount h
      exact ⟨instr_gp0 hl (nearJump_error h), fun tttn hn hc => (exec_shortJump hn r8 s).trans (hjump hc),
        fun hcx => hjump (beq_iff_eq.mpr hcx),
        fun hcx => ⟨hloop hcx rfl, hloop hcx, fun hz => hloop hcx (congrArg (!·) hz)⟩⟩
    case near =>
      exact ⟨instr_gp0 hl (nearJump_error h), fun tttn hn hc => (exec_nearJump hn rel s).trans (instr_gp0 hl (jumpIf_error hc h)),
        fun hroom => instr_gp0 hl (nearCall_error hroom h)⟩

end Sys2Proof.Machine
end

-- ==== Proofs: ENTER, LEAVE and the software interrupts ====
section
/-!
PROOFS. ENTER and LEAVE (47_setcc_enter_leave.md R901, R902), and INT, INTO and BOUND (48_interrupt_instructions.md R920 to R923).
-/
namespace Sys2Proof.Machine

open Sys2Proof

/-! ENTER and LEAVE. -/

/-- The frame pointer `frame` in (E)BP of the width `w`, and the space of `size` bytes reserved below the stack top. -/
def State.withFrame (s : State) (w : Width) (frame : Word) (size : Half) : State :=
  (s.setReg w .ebp (frame.setWidth w.bits)).setSp (stackAdd s.ssz32 s.sp (0 - size.setWidth 32))

theorem enterBody_zero {size : Half} {level : Byte} {s t : State} (hlevel : level.toNat % 32 = 0)
    (hpush : push s.regs.ebp s.osz.bytes s = .ok () t) : enterBody size level s = .ok () (t.withFrame s.osz t.sp size).advance := by
  unfold enterBody
  refine (M.get_bind _ s).trans <| (M.bind_of_ok hpush).trans <| (M.get_bind _ t).trans ?_
  rw [if_pos hlevel]
  rfl

theorem enterBody_display {size : Half} {level : Byte} {s t u v : State} (hlevel : level.toNat % 32 ≠ 0)
    (hpush : push s.regs.ebp s.osz.bytes s = .ok () t)
    (hdisplay : copyDisplay s.osz.bytes (level.toNat % 32 - 1) s.bp t = .ok () u) (hframe : push t.sp s.osz.bytes u = .ok () v) :
    enterBody size level s = .ok () (v.withFrame s.osz t.sp size).advance := by
  unfold enterBody
  refine (M.get_bind _ s).trans <| (M.bind_of_ok hpush).trans <| (M.get_bind _ t).trans ?_
  rw [if_neg hlevel]
  exact (M.bind_of_ok hdisplay).trans (M.bind_of_ok hframe)

/-- One frame pointer of the display is read and pushed, and the rest follows below it. -/
theorem copyDisplay_succ {w k : Nat} {bp x : Word} {a b c : State} (hread : memRead .ss (stackSub a.ssz32 bp w) w a = .ok x b)
    (hpush : push x w b = .ok () c) : copyDisplay w (k + 1) bp a = copyDisplay w k (stackSub a.ssz32 bp w) c :=
  (M.get_bind _ a).trans <| (M.bind_of_ok hread).trans (M.bind_of_ok hpush)

theorem leaveBody_ok {v : Word} {s t : State} (h : memRead .ss s.bp s.osz.bytes s = .ok v t) :
    leaveBody s = .ok () ((t.setSp (stackAdd s.ssz32 s.bp (BitVec.ofNat 32 s.osz.bytes))).setReg s.osz .ebp
      (v.setWidth s.osz.bits)).advance := M.bind_of_ok h

/-- Settles O45: ENTER pushes, copies the display, pushes its own frame and sets the registers; LEAVE is one read. -/
theorem enterAndLeave : Obligations.EnterAndLeave := by
  refine fun s t hl => ⟨fun size level hpush => ⟨fun hlevel => ?zero, fun u v hlevel hdisplay hframe => ?display⟩,
    fun w k bp x a b c => ⟨rfl, fun hread hpush => ?copy⟩, fun v h => instr_ok hl (leaveBody_ok h)⟩
  case zero => exact instr_ok hl (enterBody_zero hlevel hpush)
  case display => exact instr_ok hl (enterBody_display hlevel hpush hdisplay hframe)
  case copy =>
    rw [← stackSub_eq] at hread ⊢
    exact copyDisplay_succ hread hpush

/-! Software interrupts. -/

/-- A software interrupt after a check that is passed, which leaves the state as it is. -/
theorem interruptAfter_of_entry {pre : M Unit} {vec : Byte} {s t : State} (hl : s.pfx.lock = false) (hpre : pre s = .ok () s)
    (h : entry { vector := vec, kind := .software, code := none } s.eipNext s = .ok () t) :
    interruptAfter pre vec s = .next (t.entered { vector := vec, kind := .software, code := none }) := by
  unfold interruptAfter
  rw [M.seqRight_apply, M.bind_of_ok (a := ()) (t := s) (by rw [noLock_apply, hl]; rfl), hpre]
  exact deliver_of_entry h

/-- The two reads of the bounds, and the comparison of the index with them. -/
theorem boundBody_of_reads {x : MemRef} {r : Reg} {lo hi : Word} {s t u : State}
    (hlo : memRead (s.ea x).1 (s.ea x).2 s.osz.bytes s = .ok lo t)
    (hhi : memRead (s.ea x).1 (s.offsetAdd (s.ea x).2 (BitVec.ofNat 32 s.osz.bytes)) s.osz.bytes t = .ok hi u) :
    boundBody (.mem x) r s =
      if (s.reg s.osz r).toInt < (lo.setWidth s.osz.bits).toInt ∨ (hi.setWidth s.osz.bits).toInt < (s.reg s.osz r).toInt then
        .error (.exc ⟨5, none⟩ false) u
      else .ok () u.advance := by
  refine (M.bind_of_ok (a := x) (t := s) rfl).trans <| (M.get_bind _ s).trans <| (M.bind_of_ok hlo).trans <| (M.bind_of_ok hhi).trans ?_
  split
  case isTrue h =>
    rw [decide_eq_true h]
    rfl
  case isFalse h =>
    rw [decide_eq_false h]
    rfl

/-- Settles O46: the entry is the delivery, and BOUND is a comparison of signed numbers. -/
theorem softwareInterrupts : Obligations.SoftwareInterrupts := by
  intro s t u hl
  refine ⟨fun n hio h => ?int, fun h => ?int3, fun hof h => ?into, fun hof => ?skip, fun x r lo hi hlo hhi => ?bound⟩
  case int => exact interruptAfter_of_entry hl (requireV86Iopl_ok.mpr ⟨hio, rfl⟩) h
  case int3 => exact interruptAfter_of_entry hl rfl h
  case into => exact (if_pos hof).trans (interruptAfter_of_entry hl rfl h)
  case skip => exact (if_neg (by simp [hof])).trans (instr_ok hl (advance_apply s))
  case bound =>
    intro i within
    have hbody := boundBody_of_reads (r := r) hlo hhi
    refine ⟨fun hin => instr_ok hl (hbody.trans (if_neg ?_)), fun hout => instr_error hl (hbody.trans (if_pos ?_))⟩
    · exact not_or.mpr ⟨not_lt.mpr hin.1, not_lt.mpr hin.2⟩
    · exact (not_and_or.mp hout).imp not_le.mp not_le.mp

end Sys2Proof.Machine
end

-- ==== Proofs: WAIT, ESC and PEREQ ====
section
/-!
PROOFS. HLT, WAIT, ESC, and the transfers of a coprocessor's operand (49_system.md R950, R965, R966, R975 to R979).
-/
namespace Sys2Proof.Machine

open Sys2Proof

/-! HLT and WAIT. -/

theorem halt_ok {s : State} (h : s.pe = false ∨ (s.prot = true ∧ s.cpl = 0)) :
    halt s = .ok () { s with run := .halted, cycles := .halt :: s.cycles }.advance := M.bind_of_ok (requireCpl0_of_privileged h)

theorem afterBusy_busy {k : M Unit} {s : State} (h : s.pins.busy = true) : afterBusy k s = .ok () s.waiting := by
  unfold afterBusy
  rw [M.get_bind, if_pos h]
  rfl

theorem afterBusy_idle {k : M Unit} {s : State} (h : s.pins.busy = false) :
    afterBusy k s = if s.pins.error then .error (.exc ⟨16, none⟩ false) s else k s := by
  unfold afterBusy
  rw [M.get_bind, if_neg (by simp [h])]
  cases s.pins.error <;> rfl

theorem waitBody_apply {s : State} (h : s.ts = false ∨ s.mp = false) : waitBody s = afterBusy advance s :=
  (M.get_bind _ s).trans (M.check_bind (by rcases h with h | h <;> simp [h]))

theorem waitBody_error {s : State} (hts : s.ts = true) (hmp : s.mp = true) : waitBody s = .error (.exc ⟨7, none⟩ false) s :=
  (M.get_bind _ s).trans (M.check_fail (by simp [hts, hmp]))

/-! ESC. -/

section
variable {ttt lll : BitVec 3} {m : RM} {s t u v : State}

theorem escBody_error (h : s.em = true ∨ s.ts = true) : escBody ttt lll m s = .error (.exc ⟨7, none⟩ false) s :=
  (M.get_bind _ s).trans (M.check_fail (by simpa using h))

/-- With a coprocessor that is ready the instruction is handed over. -/
theorem escBody_ready (hem : s.em = false) (hts : s.ts = false) (h387 : s.platform.has387 = true)
    (hready : escNoWait ttt lll m = true ∨ (s.pins.busy = false ∧ s.pins.error = false)) : escBody ttt lll m s = escHandOver ttt lll m s := by
  refine (M.get_bind _ s).trans <| (M.check_bind (by simp [hem, hts])).trans ?_
  rw [if_neg (by simp [h387])]
  cases hn : escNoWait ttt lll m with
  | true => rfl
  | false =>
    obtain ⟨hbusy, herror⟩ := hready.resolve_left (by simp [hn])
    exact (afterBusy_idle hbusy).trans (if_neg (by simp [herror]))

theorem escHandOver_plain (hop : escOperand ttt lll m s = .ok () t) (hu : busTurn t = .ok () u) (hax : escStoresAx ttt lll m = false) :
    escHandOver ttt lll m s = .ok () (u.handOver ttt lll m).advance := by
  refine (M.bind_of_ok hop).trans <| (M.bind_of_ok hu).trans ?_
  rw [M.modify_bind, if_neg (by simp [hax])]
  rfl

theorem escHandOver_storesAx (hop : escOperand ttt lll m s = .ok () t) (hu : busTurn t = .ok () u) (hax : escStoresAx ttt lll m = true)
    (hv : busTurn (u.handOver ttt lll m) = .ok () v) :
    escHandOver ttt lll m s = .ok () (v.setReg .b16 .eax ((Config.undef v.freeIdx 10).setWidth 16)).advance := by
  refine (M.bind_of_ok hop).trans <| (M.bind_of_ok hu).trans ?_
  rw [M.modify_bind, if_pos hax]
  exact M.bind_of_ok (M.bind_of_ok hv)

/-- The command that is kept: that of the operand in memory, and none for a register. -/
theorem escOperand_command (h : escOperand ttt lll m s = .ok () t) :
    t.escCommand = match m with | .reg _ => none | .mem x => some (s.escStart ttt lll x) := by
  cases m with
  | reg q =>
    cases h
    rfl
  | mem x =>
    obtain ⟨_, _, -, h⟩ := M.bind_ok.mp ((M.get_bind _ s).symm.trans h)
    obtain ⟨_, _, -, h⟩ := M.bind_ok.mp h
    cases h
    rfl

end

/-! PEREQ. -/

section
variable {c : EscCommand} {dword : Bool} {value : Word} {keys : List Nat} {s t u y : State}

theorem State.pereq_ok (hc : s.escCommand = some c) (hdue : s.escDue = none) (h : transferItem c dword value s = .ok () t) :
    s.pereq dword value = { t with escCommand := some (c.moved (itemBytes dword)) } := by
  unfold State.pereq
  rw [hc, hdue]
  dsimp only
  rw [h]

theorem State.pereq_exc {x : Exc} {keep : Bool} (hc : s.escCommand = some c) (hdue : s.escDue = none)
    (h : transferItem c dword value s = .error (.exc x keep) t) : s.pereq dword value = (s.rollback t).itemFailed c x := by
  unfold State.pereq
  rw [hc, hdue]
  dsimp only
  rw [h]

theorem State.pereq_idle (h : s.escCommand = none ∨ s.escDue ≠ none) (dword : Bool) (value : Word) : s.pereq dword value = s := by
  unfold State.pereq
  split
  · simp_all
  · rfl

theorem extractLsb'_of_extractLsb' {w : Nat} (x : BitVec w) {i m j n : Nat} (h : j + n ≤ m) :
    (x.extractLsb' i m).extractLsb' j n = x.extractLsb' (i + j) n := by
  refine BitVec.eq_of_getLsbD_eq fun k hk => ?_
  simp [hk, show j + k < m by omega, Nat.add_assoc]

/-- A word of the item goes to the operand register byte by byte. -/
theorem State.operandWord_extract (s : State) (address : Nat) (v : Word) (k : Nat) : s.operandWord address (v.extractLsb' k 16) =
    { s with ioOut := (address + 1, v.extractLsb' (k + 8) 8) :: (address, v.extractLsb' k 8) :: s.ioOut } := by
  unfold State.operandWord
  rw [extractLsb'_of_extractLsb' v (by omega), extractLsb'_of_extractLsb' v (by omega)]
  rfl

/-- What the first cycle of an item leaves, or the only one: the low word at the operand register (R977). -/
def State.itemLow (s : State) (v : Word) : State :=
  { s with ioOut := (0x8000FD, v.extractLsb' 8 8) :: (0x8000FC, v.extractLsb' 0 8) :: s.ioOut }

/-- What the second cycle of a dword leaves: the high word after the low one (R977). -/
def State.itemHigh (s : State) (v : Word) : State :=
  { s with ioOut := (0x8000FF, v.extractLsb' 24 8) :: (0x8000FE, v.extractLsb' 16 8) :: s.ioOut }

theorem State.operandWord_low (s : State) (v : Word) : s.operandWord coprocessorData (v.setWidth 16) = s.itemLow v := by
  rw [BitVec.setWidth_eq_extractLsb' (by omega)]
  exact s.operandWord_extract coprocessorData v 0

theorem operandOut_word {v : Word} (hu : busTurn t = .ok () u) : operandOut false v t = .ok () (u.itemLow v) :=
  (M.bind_of_ok hu).trans (congrArg (EStateM.Result.ok ()) (u.operandWord_low v))

theorem operandOut_dword {v : Word} (hu : busTurn t = .ok () u) (hy : cycleTurn (u.itemLow v) = .ok () y) :
    operandOut true v t = .ok () (y.itemHigh v) := by
  refine (M.bind_of_ok hu).trans <| (M.modify_bind ..).trans ?_
  rw [u.operandWord_low, if_pos rfl]
  exact (M.bind_of_ok hy).trans (congrArg (EStateM.Result.ok ()) (y.operandWord_extract (coprocessorData + 2) v 16))

/-! The direction of the command decides what becomes of the bytes that the access has found. -/

theorem transferItem_stores (hs : c.stores = true) (hkeys : regKeys c.seg c.stack s.user c.off (itemBytes dword) c.stores s = .ok keys t)
    (hu : busTurn t = .ok () u) : transferItem c dword value s = .ok () (u.writeKeys keys value) := by
  refine (M.get_bind _ s).trans <| (M.bind_of_ok hkeys).trans <| (M.get_bind _ t).trans ?_
  rw [if_pos hs]
  exact M.bind_of_ok hu

theorem transferItem_loads (hs : c.stores = false) (hkeys : regKeys c.seg c.stack s.user c.off (itemBytes dword) c.stores s = .ok keys t) :
    transferItem c dword value s = operandOut dword (t.readKeys keys) t := by
  refine (M.get_bind _ s).trans <| (M.bind_of_ok hkeys).trans <| (M.get_bind _ t).trans ?_
  rw [if_neg (by simp [hs])]

theorem transferItem_exc {e : Stop} (hkeys : regKeys c.seg c.stack s.user c.off (itemBytes dword) c.stores s = .error e t) :
    transferItem c dword value s = .error e t := (M.get_bind _ s).trans (M.bind_of_error hkeys)

end

/-- Settles O56: each body is read off its checks, and PEREQ off the access that finds the item. -/
theorem waitAndEscape : Obligations.WaitAndEscape := by
  refine ⟨fun s hl => ⟨instr_ok hl (advance_apply s), fun hpriv => instr_ok hl (halt_ok hpriv), rfl, fun hnm => ⟨fun hb he => ?idle,
      fun hb => ?busy, fun hb he => ?error⟩, fun hts hmp => instr_exc hl (waitBody_error hts hmp)⟩,
    fun s t ttt lll m hl => ⟨fun h => instr_exc hl (escBody_error h), fun hem hts h387 hready hop => ⟨fun u hu => ?handOver, ?command⟩⟩,
    fun s t u c dword value hc hdue => ⟨fun keys hkeys hu => ?item, fun x keep hkeys => ?failed⟩,
    fun s dword value h => State.pereq_idle h dword value⟩
  case idle => exact instr_ok hl ((waitBody_apply hnm).trans ((afterBusy_idle hb).trans (if_neg (by simp [he]))))
  case busy => exact ⟨_, instr_ok hl ((waitBody_apply hnm).trans (afterBusy_busy hb)), rfl, rfl, rfl, rfl⟩
  case error => exact instr_exc hl ((waitBody_apply hnm).trans ((afterBusy_idle hb).trans (if_pos he)))
  case handOver =>
    have hbody := escBody_ready hem hts h387 hready
    refine ⟨fun hax => instr_ok hl (hbody.trans (escHandOver_plain hop hu hax)),
      fun v hax hv => instr_ok hl (hbody.trans (escHandOver_storesAx hop hu hax hv)), fun hb => ⟨?_, busTurn_nil hb⟩⟩
    rw [busTurn_nil hb] at hu
    cases hu
    rfl
  case command =>
    rw [escOperand_command hop]
    cases m <;> rfl
  case item =>
    refine ⟨fun hs => State.pereq_ok hc hdue (transferItem_stores hs hkeys hu), fun hs hd => ?word, fun y hs hd hy => ?dword,
      fun hb => ?alone⟩
    case word =>
      subst hd
      exact State.pereq_ok hc hdue ((transferItem_loads hs hkeys).trans (operandOut_word hu))
    case dword =>
      subst hd
      exact State.pereq_ok hc hdue ((transferItem_loads hs hkeys).trans (operandOut_dword hu hy))
    case alone =>
      rw [busTurn_nil hb] at hu
      cases hu
      exact ⟨rfl, cycleTurn_nil hb⟩
  case failed =>
    have hpereq := State.pereq_exc hc hdue (transferItem_exc (value := value) hkeys)
    exact ⟨fun hs => hpereq.trans (if_pos hs), fun hs => hpereq.trans (if_neg (by simp [hs]))⟩

end Sys2Proof.Machine
end

-- ==== Proofs: the table registers, LMSW, LLDT and LTR ====
section
/-!
PROOFS. GDTR, IDTR, LDTR, TR and the machine status word loaded and stored, where the checks are passed (49_system.md R987 to R994).
-/
namespace Sys2Proof.Machine

open Sys2Proof

/-! GDTR and IDTR. -/

theorem loadTable_of_reads {x : MemRef} {k : TableReg → State → State} {lim base : Word} {s t u : State}
    (hpriv : s.pe = false ∨ (s.prot = true ∧ s.cpl = 0)) (hlim : memRead (s.ea x).1 (s.ea x).2 2 s = .ok lim t)
    (hbase : memRead (s.ea x).1 (s.offsetAdd (s.ea x).2 2) 4 t = .ok base u) :
    loadTable (.mem x) k s = .ok () (k (tableOf u.osz32 lim base) u).advance := by
  have hosz : u.osz32 = s.osz32 := ((Leaves.memRead ..).kept hbase).osz32.trans ((Leaves.memRead ..).kept hlim).osz32
  rw [hosz]
  exact (M.bind_of_ok (a := ()) (t := s) rfl).trans <| (M.bind_of_ok (requireCpl0_of_privileged hpriv)).trans <|
    (M.bind_of_ok (a := x) (t := s) rfl).trans <| (M.get_bind _ s).trans <| (M.bind_of_ok hlim).trans (M.bind_of_ok hbase)

/-- Both parts are checked, and then both are stored. -/
theorem storeTable_of_keys {x : MemRef} {k : State → TableReg} {limKeys baseKeys : List Nat} {s t u : State}
    (hlim : memKeys (s.ea x).1 (s.ea x).2 2 true s = .ok limKeys t)
    (hbase : memKeys (s.ea x).1 (s.offsetAdd (s.ea x).2 2) 4 true t = .ok baseKeys u) :
    storeTable (.mem x) k s = .ok () ((u.writeKeys limKeys ((k s).limit.setWidth 32)).writeKeys baseKeys
      (storedBase s.osz32 s.freeIdx (k s).base)).advance :=
  (M.bind_of_ok (a := x) (t := s) rfl).trans <| (M.get_bind _ s).trans <| (M.bind_of_ok hlim).trans (M.bind_of_ok hbase)

/-! LMSW. -/

theorem getLsbD_lmswValue (cr0 : Word) (v : Half) {i : Nat} (hi : i < 32) : (lmswValue cr0 v).getLsbD i =
    if i = 0 then cr0.getLsbD 0 || v.getLsbD 0 else if i < 4 then v.getLsbD i else cr0.getLsbD i := by
  unfold lmswValue
  interval_cases i <;> simp

/-- CR0 becomes `v`, and the queues keep the mode by which they have decoded, where PE changes (R1221). -/
def State.withMsw (s : State) (v : Word) : State :=
  { s with cr0 := v, queuedMode := if s.cr0.getLsbD 0 = v.getLsbD 0 then s.queuedMode else some s.prot }

theorem State.keepMode_withCr0 (s : State) (v : Word) : { s.keepMode v with cr0 := v } = s.withMsw v := by
  unfold State.keepMode State.withMsw
  split <;> rfl

theorem lmswBody_of_read {m : RM} {v : Half} {s t : State} (hpriv : s.pe = false ∨ (s.prot = true ∧ s.cpl = 0))
    (h : readRM .b16 m s = .ok v t) : lmswBody m s = .ok () (t.withMsw (lmswValue t.cr0 v)).advance := by
  rw [← State.keepMode_withCr0]
  exact (M.bind_of_ok (requireCpl0_of_privileged hpriv)).trans (M.bind_of_ok h)

/-! LLDT and LTR. -/

section
variable {m : RM} {sel : Half} {d : Descriptor} {s t u v : State}

/-- What LLDT and LTR begin with: the checks of the mode and of the level, and the read of the selector. -/
theorem selector_of_checks {f : BitVec Width.b16.bits → M Unit} (hp : s.decodedProt = true) (hpriv : ¬ s.unprivileged)
    (h : readRM .b16 m s = .ok sel t) : (requireProt >>= fun _ => requireCpl0 >>= fun _ => readRM .b16 m >>= f) s = f sel t :=
  (M.bind_of_ok (requireProt_ok.mpr ⟨hp, rfl⟩)).trans <| (M.bind_of_ok (requireCpl0_of_not_unprivileged hpriv)).trans (M.bind_of_ok h)

theorem lldtBody_null (hp : s.decodedProt = true) (hpriv : ¬ s.unprivileged) (h : readRM .b16 m s = .ok sel t) (hn : selNull sel = true) :
    lldtBody m s = .ok () { t with ldtr := { t.ldtr with sel := sel, valid := false } }.advance := by
  refine (selector_of_checks hp hpriv h).trans ?_
  rw [if_pos hn]
  rfl

theorem lldtBody_of_read (hp : s.decodedProt = true) (hpriv : ¬ s.unprivileged) (h : readRM .b16 m s = .ok sel t)
    (hn : selNull sel = false) (hti : selTI sel = false) (hd : readDescriptor sel t = .ok (some d) u) (hsys : d.system = some 2)
    (hpresent : arP d.ar = true) : lldtBody m s = .ok () { u with ldtr := d.toSegReg sel }.advance := by
  refine (selector_of_checks hp hpriv h).trans ?_
  rw [if_neg (by simp [hn])]
  exact (M.check_bind hti).trans <| (M.bind_of_ok (needDescriptor_of_read hd)).trans <| (M.check_bind (by simp [hsys])).trans
    (M.check_bind (by simp [hpresent]))

theorem ltrBody_of_read (hp : s.decodedProt = true) (hpriv : ¬ s.unprivileged) (h : readRM .b16 m s = .ok sel t)
    (hn : selNull sel = false) (hti : selTI sel = false) (hd : readDescriptor sel t = .ok (some d) u) (hfree : d.isFreeTss = true)
    (hpresent : arP d.ar = true) (hbusy : writeAccessByte sel 2 0 u = .ok () v) :
    ltrBody m s = .ok () { v with tr := { d.toSegReg sel with ar := d.ar ||| 2 } }.advance :=
  (selector_of_checks hp hpriv h).trans <| (M.check_bind hn).trans <| (M.check_bind hti).trans <|
    (M.bind_of_ok (needDescriptor_of_read hd)).trans <| (M.check_bind (by simp [hfree])).trans <|
      (M.check_bind (by simp [hpresent])).trans (M.bind_of_ok hbusy)

end

/-- Settles O59: every body passes its checks; of CR0, LMSW changes the bits 0 to 3 only, and bit 0 to 1 only. -/
theorem systemTableLoads : Obligations.SystemTableLoads := by
  refine ⟨fun s t u x hl => ⟨fun lim base hpriv hlim hbase => ?load, fun k k' hlim hbase => ?store⟩,
    fun s t u m sel hl hread => ⟨fun hpriv => ?lmsw, fun hp hpriv => ⟨fun hn => ?null, fun d hn hti hd hpresent => ⟨fun hsys => ?lldt,
      fun v hsys hbusy => ?ltr⟩⟩⟩⟩
  case load =>
    exact ⟨instr_ok hl (loadTable_of_reads hpriv hlim hbase), instr_ok hl (loadTable_of_reads hpriv hlim hbase)⟩
  case store => exact ⟨instr_ok hl (storeTable_of_keys hlim hbase), instr_ok hl (storeTable_of_keys hlim hbase)⟩
  case lmsw =>
    have hbit {i : Nat} := getLsbD_lmswValue t.cr0 sel (i := i)
    refine ⟨lmswValue t.cr0 sel, instr_ok hl (lmswBody_of_read hpriv hread), ?upper, hbit (by omega), ?flags⟩
    case upper =>
      refine BitVec.eq_of_getLsbD_eq fun i hi => ?_
      simp [hbit (i := 4 + i) (by omega)]
    case flags =>
      refine BitVec.eq_of_getLsbD_eq fun i hi => ?_
      simp [hbit (i := 1 + i) (by omega), hi, show ¬ 4 ≤ 1 + i by omega]
  case null => exact instr_ok hl (lldtBody_null hp hpriv hread hn)
  case lldt => exact instr_ok hl (lldtBody_of_read hp hpriv hread hn hti hd hsys hpresent)
  case ltr => exact instr_ok hl (ltrBody_of_read hp hpriv hread hn hti hd (by simpa [Descriptor.isFreeTss] using hsys) hpresent hbusy)

end Sys2Proof.Machine
end

-- ==== Proofs: the reset state ====
section
/-!
PROOFS. What the machine holds after reset (10_state.md R160 to R162), and that it has what steps keep.
-/
namespace Sys2Proof.Machine

open Sys2Proof

/-- Settles O5: the values are read off the reset state; only the other five segment registers are more than one value. -/
theorem resetState : Obligations.ResetState := by
  have others : ∀ g, g ≠ Seg.cs → State.reset.seg g = SegReg.reset := fun g hg => by
    cases g
    case cs => exact absurd rfl hg
    all_goals rfl
  refine ⟨by decide, rfl, rfl, rfl, rfl, fun g hg => ?_, by decide⟩
  rw [others g hg]
  decide

theorem State.reset_modeLegal : State.reset.modeLegal := State.resetEvent_modeLegal State.reset

/-- CR3 is 0, the TLB is empty. -/
theorem State.reset_translationLegal : State.reset.translationLegal := ⟨by decide, Nat.zero_le _, .nil⟩

theorem State.reset_prefixLegal : State.reset.prefixLegal := Nat.zero_le _

/-- Settles O6: each invariant holds of the reset state. -/
theorem resetMeetsInvariants : Obligations.ResetMeetsInvariants :=
  ⟨reset_memWf, State.reset_modeLegal, State.reset_translationLegal, State.reset_prefixLegal⟩

end Sys2Proof.Machine
end

-- ==== Proofs: what the processor goes on doing ====
section
/-!
PROOFS. NMI service, the run state and the prefixes (10_state.md R143, R145; 30_encoding.md R504) while a meaning or an entry runs. The transfers and
the entries keep all three (`Calm`); for a whole instruction, `Allowed` says which of PE, NMI service and the run state it may change.
-/
namespace Sys2Proof.Machine

open Sys2Proof

/-! What the transfers and entries keep. -/

/-- NMI service, the run state and the prefixes are as before. -/
structure State.ActivityKept (s t : State) : Prop where
  nmi : t.nmiInService = s.nmiInService
  run : t.run = s.run
  pfx : t.pfx = s.pfx

protected theorem State.ActivityKept.refl (s : State) : s.ActivityKept s := ⟨rfl, rfl, rfl⟩

protected theorem State.ActivityKept.trans {s t u : State} (h : s.ActivityKept t) (k : t.ActivityKept u) : s.ActivityKept u :=
  ⟨k.nmi.trans h.nmi, k.run.trans h.run, k.pfx.trans h.pfx⟩

variable {α β : Type}

/-- However the computation ends, it has kept NMI service, the run state and the prefixes. -/
structure Calm (x : M α) : Prop where
  keeps : Keeps State.ActivityKept x

theorem Ordinary.calm {x : M α} (h : Ordinary x) : Calm x :=
  ⟨fun s => ⟨(h.keeps s).nmiInService, (h.keeps s).run, (h.keeps s).pfx⟩⟩

theorem Calm.error {x : M α} (h : Calm x) {s t : State} {e : Stop} (hx : x s = .error e t) : s.ActivityKept t := by
  simpa [hx] using h.keeps s

theorem Calm.ok {x : M α} (h : Calm x) {s t : State} {a : α} (hx : x s = .ok a t) : s.ActivityKept t := by
  simpa [hx] using h.keeps s

protected theorem Calm.bind {x : M α} {f : α → M β} (hx : Calm x) (hf : ∀ a, Calm (f a)) : Calm (x >>= f) :=
  ⟨Keeps.bind (fun _ _ _ => .trans) hx.keeps fun a => (hf a).keeps⟩

theorem Calm.seq {x : M α} {y : M β} (hx : Calm x) (hy : Calm y) : Calm (x >>= fun _ => y) := hx.bind fun _ => hy

/-- Ordinary work first. -/
theorem Calm.after {x : M α} {f : α → M β} (hx : Ordinary x) (hf : ∀ a, Calm (f a)) : Calm (x >>= f) := hx.calm.bind hf

theorem Calm.afterSeq {x : M α} {y : M β} (hx : Ordinary x) (hy : Calm y) : Calm (x >>= fun _ => y) := hx.calm.seq hy

theorem Calm.get_bind {f : State → M α} (h : ∀ s, Calm (f s)) : Calm (get >>= f) := ⟨fun s => (h s).keeps s⟩

/-- A computation that stops at once. -/
theorem Calm.throw_bind (e : Stop) (f : α → M β) : Calm ((throw e : M α) >>= f) := ⟨fun s => .refl s⟩

/-- A change of other parts of the state. -/
theorem Calm.frame {k : State → State} (h : ∀ s : State, s.ActivityKept (k s)) : Calm (modify k : M Unit) := ⟨Keeps.modify h⟩

protected theorem Calm.ite {c : Prop} [Decidable c] {x y : M α} (hx : Calm x) (hy : Calm y) : Calm (if c then x else y) :=
  ⟨Keeps.ite hx.keeps hy.keeps⟩

protected theorem Calm.lockedIf {c : Bool} {x : M α} (hx : Calm x) : Calm (lockedIf c x) :=
  ⟨Keeps.lockedIf (fun _ _ _ _ h => ⟨h.nmi, h.run, h.pfx⟩) hx.keeps⟩

protected theorem Calm.committed {x : M α} (hx : Calm x) : Calm (committed x) := by
  refine ⟨fun s => ?_⟩
  have h := hx.keeps s
  unfold Machine.committed
  split <;> rename_i hu <;> rw [hu] at h <;> exact h

/-! Far transfers within a task. -/

theorem Calm.loadCs (sel : Half) (d : Descriptor) (n : BitVec 2) : Calm (loadCs sel d n) :=
  .afterSeq (.markAccessed ..) (.frame fun _ => ⟨rfl, rfl, rfl⟩)

theorem Calm.enterCode (sel : Half) (d : Descriptor) (n : BitVec 2) (off : Word) : Calm (enterCode sel d n off) :=
  .seq (.loadCs ..) (.frame fun _ => ⟨rfl, rfl, rfl⟩)

theorem Calm.sameLevel (call : Bool) (sel : Half) (d : Descriptor) (off : Word) (w : Nat) : Calm (sameLevel call sel d off w) := by
  refine .get_bind fun s => .afterSeq .check ?_
  cases call with
  | false => exact .afterSeq (.checkOffset ..) (.enterCode ..)
  | true => exact .afterSeq (.checkRoom ..) <| .afterSeq (.checkOffset ..) <| .afterSeq (.pushReturn ..) (.enterCode ..)

theorem Calm.directCode (call : Bool) (sel : Half) (d : Descriptor) (off : Word) : Calm (directCode call sel d off) :=
  .get_bind fun _ => .ite (.afterSeq .check (.sameLevel ..)) (.afterSeq .check (.sameLevel ..))

theorem Calm.callInner (csel : Half) (c : Descriptor) (off : Word) (w k : Nat) : Calm (callInner csel c off w k) :=
  .get_bind fun _ => .after (.innerStack _) fun _ => .afterSeq .check <| .afterSeq (.checkOffset ..) <| .afterSeq (.loadStack ..) <|
    .seq (.frame fun _ => ⟨rfl, rfl, rfl⟩) <| .afterSeq (.pushAll ..) <| .afterSeq (.copyParams ..) <| .afterSeq (.pushAll ..) (.enterCode ..)

theorem Calm.throughGate (call : Bool) (gsel : Half) (g : Descriptor) : Calm (throughGate call gsel g) := by
  refine .get_bind fun s => .afterSeq .check <| .afterSeq .check <| .afterSeq .check <| .after (.needDescriptor (.raise ..)) fun c =>
    .afterSeq .check <| .afterSeq .check ?_
  cases call with
  | false => exact .afterSeq .check (.lockedIf (.sameLevel ..))
  | true => exact .afterSeq .check (.ite (.lockedIf (.callInner ..)) (.lockedIf (.sameLevel ..)))

theorem Calm.returnOuter (sel : Half) (c : Descriptor) (newEip : Word) (w frame : Nat) (imm : Word) :
    Calm (returnOuter sel c newEip w frame imm) :=
  .afterSeq (.checkStackTop _) <| .after (.stackRead ..) fun _ => .after (.stackRead ..) fun _ =>
    .after (.stackDescriptor (.raise ..) fun _ => .raise ..) fun _ => .afterSeq (.checkOffset ..) <| .seq (.loadCs ..) <|
      .afterSeq (.loadStack ..) (.frame fun s => have h := State.SystemKept.setEspW s w _; ⟨h.nmiInService, h.run, h.pfx⟩)

theorem Calm.farReturn (imm : Word) : Calm (farReturn imm) :=
  .get_bind fun _ => .afterSeq (.checkStackTop _) <| .after (.stackRead ..) fun _ => .after (.stackRead ..) fun _ =>
    .after (.returnDescriptor _) fun _ => .ite
      (.afterSeq (.checkOffset ..) <| .seq (.loadCs ..) (.frame fun _ => by constructor <;> simp))
      (.seq (.lockedIf (.returnOuter ..)) (.frame fun _ => ⟨rfl, rfl, rfl⟩))

/-! The task switch. -/

theorem Calm.switchCs (sel : Half) : Calm (switchCs sel) :=
  .afterSeq .check <| .after (.needDescriptor (.raise ..)) fun _ => .afterSeq .check <| .afterSeq .check <| .afterSeq .check <|
    .afterSeq .check (.loadCs ..)

theorem Calm.switchSegments : Calm switchSegments :=
  .get_bind fun _ => .ite (.frame fun _ => ⟨rfl, rfl, rfl⟩) <| .seq (.switchCs _) <| .afterSeq (.switchSs _) <| Ordinary.calm <|
    .seq (.loadDataSeg fun _ => .raise ..) <| .seq (.loadDataSeg fun _ => .raise ..) <| .seq (.loadDataSeg fun _ => .raise ..)
      (.loadDataSeg fun _ => .raise ..)

theorem Calm.switchCr3 (base : Word) : Calm (switchCr3 base) :=
  .get_bind fun _ => .ite (.after (.linRead ..) fun _ => .frame fun _ => ⟨rfl, rfl, rfl⟩) (Ordinary.pure _).calm

theorem Calm.load386 (base : Word) (kind : SwitchKind) : Calm (load386 base kind) :=
  .after (.linRead ..) fun _ => .seq (.switchCr3 base) <| .after (.linRead ..) fun _ => .after (.linRead ..) fun _ =>
    .after (.readItems ..) fun _ => .after (.readItems ..) fun _ => .after (.linRead ..) fun _ =>
      .seq (.frame fun _ => ⟨rfl, rfl, rfl⟩) (Ordinary.pure _).calm

theorem Calm.load286 (base : Word) (kind : SwitchKind) : Calm (load286 base kind) :=
  .after (.linRead ..) fun _ => .after (.linRead ..) fun _ => .after (.linRead ..) fun _ => .after (.readItems ..) fun _ =>
    .after (.readItems ..) fun _ => .seq (.frame fun _ => ⟨rfl, rfl, rfl⟩) (Ordinary.pure _).calm

theorem Calm.enterTask (nsel : Half) (t : Descriptor) (kind : SwitchKind) : Calm (enterTask nsel t kind) := by
  have segments (debug : Bool) (s : State) : Calm (do
      switchLdt s.ldtr.sel
      Machine.switchSegments
      modify fun u => { u with pend := { u.pend with bt := u.pend.bt || debug } }
      let u ← get
      raiseIf (decide (u.cs.limit.toNat < u.eip.toNat)) raiseGP0) :=
    .afterSeq (.switchLdt _) <| .seq .switchSegments <| .seq (.frame fun _ => ⟨rfl, rfl, rfl⟩) (Ordinary.get_bind fun _ => .check).calm
  exact .seq (.frame fun _ => ⟨rfl, rfl, rfl⟩) <|
    .ite (.bind (.load386 ..) fun _ => .get_bind (segments _)) (.bind (.load286 ..) fun _ => .get_bind (segments _))

theorem Calm.taskSwitch (nsel : Half) (t : Descriptor) (kind : SwitchKind) (savedEip image : Word) :
    Calm (taskSwitch nsel t kind savedEip image) :=
  .afterSeq .check <| .afterSeq (.lockedIf (.leaveTask ..)) (.committed (.enterTask ..))

theorem Calm.farSwitch (call : Bool) (tsel : Half) (t : Descriptor) : Calm (farSwitch call tsel t) := .get_bind fun _ => .taskSwitch ..

theorem Calm.toTss (call : Bool) (sel : Half) (t : Descriptor) : Calm (toTss call sel t) :=
  .get_bind fun _ => .afterSeq .check <| .afterSeq .check <| .afterSeq .check (.farSwitch ..)

theorem Calm.throughTaskGate (call : Bool) (gsel : Half) (g : Descriptor) : Calm (throughTaskGate call gsel g) :=
  .get_bind fun _ => .afterSeq .check <| .afterSeq .check <| .after (.gateTask _) fun _ => .farSwitch ..

/-! Far CALL, JMP and RET, and the returns of IRET. -/

theorem Calm.farTarget (call : Bool) (sel : Half) (off : Word) : Calm (farTarget call sel off) := by
  refine .afterSeq .check <| .after (.needDescriptor (.raise ..)) fun d => ?_
  split
  · exact .ite (.lockedIf (.directCode ..)) (Ordinary.raise ..).calm
  · exact .toTss ..
  · exact .throughGate ..
  · exact .throughTaskGate ..
  · exact .toTss ..
  · exact .throughGate ..
  · exact (Ordinary.raise ..).calm

theorem Calm.farTransfer (call : Bool) (sel : Half) (off : Word) : Calm (farTransfer call sel off) :=
  .get_bind fun _ => .ite (.farTarget ..) (Ordinary.far8086 ..).calm

theorem Calm.farIndirect (call : Bool) (m : RM) : Calm (farIndirect call m) :=
  .after (.memOperand m) fun x => .after (.farPointer x) fun _ => .farTransfer ..

theorem Calm.farRet (imm : Word) : Calm (farRet imm) := .get_bind fun _ => .ite (.farReturn imm) (Ordinary.farReturn8086 imm).calm

theorem Calm.iretTask : Calm iretTask :=
  .get_bind fun _ => .after (.linRead ..) fun _ => .afterSeq .check <| .after (.needDescriptor (.raise ..)) fun _ =>
    .afterSeq .check <| .afterSeq .check (.taskSwitch ..)

theorem Calm.iretV86 (newEip csImage image : Word) : Calm (iretV86 newEip csImage image) :=
  .afterSeq (.checkStackTop _) <| .after (.stackRead ..) fun _ => .after (.stackRead ..) fun _ => .after (.stackRead ..) fun _ =>
    .after (.stackRead ..) fun _ => .after (.stackRead ..) fun _ => .after (.stackRead ..) fun _ => .frame fun _ => ⟨rfl, rfl, rfl⟩

theorem Calm.iretCode (newEip csImage image : Word) (w : Nat) : Calm (iretCode newEip csImage image w) :=
  .get_bind fun _ => .after (.returnDescriptor _) fun _ => .ite
    (.afterSeq (.checkOffset ..) <| .seq (.loadCs ..) <| .seq (.frame fun _ => by constructor <;> simp) (.frame fun _ => ⟨rfl, rfl, rfl⟩))
    (.seq (.lockedIf (.returnOuter ..)) (.frame fun _ => ⟨rfl, rfl, rfl⟩))

theorem Calm.iretProt : Calm iretProt :=
  .get_bind fun _ => .afterSeq (.checkStackTop _) <| .after (.stackRead ..) fun _ => .after (.stackRead ..) fun _ =>
    .after (.stackRead ..) fun _ => .ite (.iretV86 ..) (.iretCode ..)

/-! Entries to handlers. -/

theorem Calm.enterHandler (csel : Half) (c : Descriptor) (n : BitVec 2) (off : Word) (ig : Bool) : Calm (enterHandler csel c n off ig) :=
  .seq (.loadCs ..) (.frame fun _ => ⟨rfl, rfl, rfl⟩)

theorem Calm.sameEntry (e : Event) (savedEip : Word) (g c : Descriptor) (w : Nat) : Calm (sameEntry e savedEip g c w) :=
  .get_bind fun _ => .afterSeq (.checkRoom ..) <| .afterSeq (.checkOffset ..) <| .afterSeq (.pushAll ..) (.enterHandler ..)

theorem Calm.innerEntry (e : Event) (savedEip : Word) (g c : Descriptor) (w : Nat) : Calm (innerEntry e savedEip g c w) :=
  .get_bind fun _ => .after (.innerStack _) fun _ => .afterSeq (.checkNewRoom ..) <| .afterSeq (.checkOffset ..) <|
    .afterSeq (.loadStack ..) <| .seq (.frame fun _ => ⟨rfl, rfl, rfl⟩) <| .afterSeq (.pushAll ..) (.enterHandler ..)

theorem Calm.v86Entry (e : Event) (savedEip : Word) (g c : Descriptor) : Calm (v86Entry e savedEip g c) := by
  refine .get_bind fun s => .afterSeq .check ?_
  cases g.isGate386 with
  | false => exact .throw_bind _ _
  | true =>
    exact .after (.innerStack _) fun _ => .afterSeq (.checkNewRoom ..) <| .afterSeq (.checkOffset ..) <|
      .seq (.frame fun _ => ⟨rfl, rfl, rfl⟩) <| .afterSeq (.loadStack ..) <| .afterSeq (.modify fun _ => .setReg) <|
        .afterSeq (.pushAll ..) <| .seq (.frame fun _ => ⟨rfl, rfl, rfl⟩) <| .afterSeq (.pushAll ..) (.enterHandler ..)

theorem Calm.taskEntry (e : Event) (savedEip : Word) (g : Descriptor) : Calm (taskEntry e savedEip g) :=
  .get_bind fun _ => .after (.gateTask _) fun _ => .seq (.taskSwitch ..) (.committed (Ordinary.seq (.checkRoom ..) (.pushAll ..)).calm)

theorem Calm.gateEntry (e : Event) (savedEip : Word) (g : Descriptor) : Calm (gateEntry e savedEip g) :=
  .get_bind fun _ => .afterSeq .check <| .after (.needDescriptor (.raise ..)) fun _ => .afterSeq .check <| .afterSeq .check <|
    .afterSeq .check <| .lockedIf <| .ite (.v86Entry ..) (.ite (.innerEntry ..) (.sameEntry ..))

theorem Calm.protEntry (e : Event) (savedEip : Word) : Calm (protEntry e savedEip) :=
  .get_bind fun _ => .afterSeq .check <| .after (.linDescriptor _) fun _ => .afterSeq .check <| .afterSeq .check <| .afterSeq .check <|
    .ite (.taskEntry ..) (.gateEntry ..)

theorem Calm.entry (e : Event) (savedEip : Word) : Calm (entry e savedEip) :=
  .get_bind fun _ => .ite (.protEntry ..) (Ordinary.realEntry ..).calm

/-! What an instruction may change. -/

/-- PE is not cleared but by MOV CR0, NMI service ends by IRET only, and the run state changes by HLT only; the prefixes stay, and nothing comes on
the bus that was not to come. -/
structure State.Allows (i : Instr) (s t : State) : Prop where
  pe : (s.pe = true → t.pe = true) ∨ ∃ r, i = .movCrReg .cr0 r
  nmi : t.nmiInService = s.nmiInService ∨ i = .iret
  run : t.run = s.run ∨ i = .hlt
  pfx : t.pfx = s.pfx
  bus : ∀ x ∈ t.bus, x ∈ s.bus

variable {i : Instr} {α β : Type}

protected theorem State.Allows.refl (s : State) : s.Allows i s := ⟨.inl id, .inl rfl, .inl rfl, rfl, fun _ h => h⟩

protected theorem State.Allows.trans {s t u : State} (h : s.Allows i t) (k : t.Allows i u) : s.Allows i u where
  pe := by
    rcases h.pe with hs | hi
    · exact k.pe.imp_left fun ht hp => ht (hs hp)
    · exact .inr hi
  nmi := by
    rcases h.nmi with hs | hi
    · exact k.nmi.imp_left (·.trans hs)
    · exact .inr hi
  run := by
    rcases h.run with hs | hi
    · exact k.run.imp_left (·.trans hs)
    · exact .inr hi
  pfx := k.pfx.trans h.pfx
  bus x hx := h.bus x (k.bus x hx)

theorem State.Allows.unstopped {s t : State} (h : s.Allows i t) (hs : s.unstopped) : t.unstopped := fun x hx => hs x (h.bus x hx)

/-- Every change of the state that leaves CR0, NMI service, the run state, the prefixes and the bus alone. -/
theorem State.Allows.of_eq {s t : State} (hcr0 : t.cr0 = s.cr0) (hnmi : t.nmiInService = s.nmiInService) (hrun : t.run = s.run)
    (hpfx : t.pfx = s.pfx) (hbus : t.bus = s.bus) : s.Allows i t :=
  ⟨.inl fun h => by rw [State.pe, hcr0]; exact h, .inl hnmi, .inl hrun, hpfx, fun _ h => hbus ▸ h⟩

/-- However the computation ends, it has changed only what the instruction may, and it is cut short at a bus operation only by what was to
come there. -/
structure Allowed (i : Instr) (x : M α) : Prop where
  keeps : Keeps (State.Allows i) x
  stops : ∀ s b t, x s = .error (.bus b) t → ¬ s.unstopped

theorem Allowed.ok {x : M α} (h : Allowed i x) {s t : State} {a : α} (hx : x s = .ok a t) : s.Allows i t := by
  simpa [hx] using h.keeps s

theorem Allowed.error {x : M α} (h : Allowed i x) {s t : State} {e : Stop} (hx : x s = .error e t) : s.Allows i t := by
  simpa [hx] using h.keeps s

/-- What keeps PE and the bus, and keeps NMI service, the run state and the prefixes, is allowed to every instruction. -/
theorem Calm.allowed {x : M α} (h : Calm x) (k : Shelters x) : Allowed i x :=
  ⟨fun s => have hs := h.keeps s; have ks := k.keeps s; ⟨.inl fun hp => ks.pe.trans hp, .inl hs.nmi, .inl hs.run, hs.pfx, ks.bus⟩, k.stops⟩

theorem Ordinary.allowed {x : M α} (h : Ordinary x) (k : Shelters x) : Allowed i x := h.calm.allowed k

protected theorem Allowed.bind {x : M α} {f : α → M β} (hx : Allowed i x) (hf : ∀ a, Allowed i (f a)) : Allowed i (x >>= f) where
  keeps := Keeps.bind (fun _ _ _ => .trans) hx.keeps fun a => (hf a).keeps
  stops s b u h hs := by
    rcases M.bind_error.mp h with h | ⟨a, t, ht, h⟩
    · exact hx.stops s b u h hs
    · exact (hf a).stops t b u h ((hx.ok ht).unstopped hs)

theorem Allowed.seq {x : M α} {y : M β} (hx : Allowed i x) (hy : Allowed i y) : Allowed i (x >>= fun _ => y) := hx.bind fun _ => hy

theorem Allowed.get_bind {f : State → M α} (h : ∀ s, Allowed i (f s)) : Allowed i (get >>= f) :=
  ⟨fun s => (h s).keeps s, fun s => (h s).stops s⟩

protected theorem Allowed.modify {k : State → State} (h : ∀ s : State, s.Allows i (k s)) : Allowed i (modify k : M Unit) :=
  ⟨Keeps.modify h, fun _ _ _ h => nomatch h⟩

/-- After a refusal nothing comes. -/
theorem Allowed.refuse_bind (r : Refusal) (f : α → M β) : Allowed i (refuse r >>= f) := ⟨fun s => .refl s, fun _ _ _ h => nomatch h⟩

protected theorem Allowed.ite {c : Prop} [Decidable c] {x y : M α} (hx : Allowed i x) (hy : Allowed i y) :
    Allowed i (if c then x else y) := by
  split
  · exact hx
  · exact hy

protected theorem Allowed.advance : Allowed i advance := Ordinary.advance.allowed .advance

protected theorem Allowed.requireCpl0 : Allowed i requireCpl0 := Ordinary.requireCpl0.allowed .requireCpl0

protected theorem Allowed.noLock : Allowed i noLock := Ordinary.noLock.allowed .noLock

/-- A change, and the end of the instruction. -/
theorem Allowed.change {k : State → State} (h : ∀ s : State, s.Allows i (k s)) : Allowed i (change k) := .seq (.modify h) .advance

/-! The instructions with a purpose of their own. -/

theorem Allowed.halt : Allowed .hlt halt :=
  .seq .requireCpl0 <| .change fun _ => ⟨.inl id, .inl rfl, .inr rfl, rfl, fun _ h => h⟩

/-- CLTS clears TS alone. -/
theorem Allowed.clearTaskSwitched : Allowed i clearTaskSwitched :=
  .seq .requireCpl0 <| .change fun _ => ⟨.inl fun h => by simpa [State.pe] using h, .inl rfl, .inl rfl, rfl, fun _ h => h⟩

theorem Allowed.loadTable {m : RM} {k : TableReg → State → State} (hk : ∀ x (s : State), s.Allows i (k x s)) : Allowed i (loadTable m k) :=
  .seq (Ordinary.check.allowed .check) <| .seq .requireCpl0 <| .bind ((Ordinary.memOperand m).allowed (.memOperand m)) fun _ =>
    .get_bind fun _ => .bind ((Ordinary.memRead ..).allowed (.memRead ..)) fun _ => .bind ((Ordinary.memRead ..).allowed (.memRead ..)) fun _ =>
      .seq (.modify (hk _)) .advance

/-- LMSW sets PE and does not clear it. -/
theorem Allowed.lmswBody (m : RM) : Allowed i (lmswBody m) :=
  .seq .requireCpl0 <| .bind ((Ordinary.readRM ..).allowed (.readRM ..)) fun v => .seq (.modify fun s => by
    rw [State.keepMode_eq]
    have hpe (h : s.pe = true) : (lmswValue s.cr0 v).getLsbD 0 = true := by
      rw [lmswValue_pe]
      exact Bool.or_eq_true_iff.mpr (.inl h)
    exact ⟨.inl hpe, .inl rfl, .inl rfl, rfl, fun _ h => h⟩) .advance

/-- Of the control registers a write of CR0 alone changes PE. -/
theorem State.Allows.setCreg (s : State) (c : CReg) (r : Reg) (v : Word) : s.Allows (.movCrReg c r) (s.setCreg c v) := by
  unfold State.setCreg
  cases c with
  | cr0 =>
    dsimp only
    rw [State.keepMode_eq]
    split <;> exact ⟨.inr ⟨r, rfl⟩, .inl rfl, .inl rfl, rfl, fun _ h => h⟩
  | cr2 => exact .of_eq rfl rfl rfl rfl rfl
  | cr3 =>
    dsimp only
    split <;> exact .of_eq rfl rfl rfl rfl rfl

theorem Allowed.moveToCr (c : CReg) (r : Reg) : Allowed (.movCrReg c r) (moveToCr c r) :=
  .seq .requireCpl0 <| .get_bind fun _ => .seq (Ordinary.check.allowed .check) <| .ite (.refuse_bind _ _) <|
    .change fun s => (State.Allows.setCreg s c r _).trans (.of_eq rfl rfl rfl rfl rfl)

theorem Allowed.debugAccess : Allowed i debugAccess :=
  Ordinary.debugAccess.allowed <| .get_bind fun _ => .ite (.seq (.frame fun _ => rfl) (.raise ..)) (.pure _)

theorem Allowed.moveToDr (d : DReg) (r : Reg) : Allowed i (moveToDr d r) :=
  .seq .requireCpl0 <| .seq .debugAccess <| .change fun _ => by cases d <;> exact .of_eq rfl rfl rfl rfl rfl

theorem Allowed.moveFromDr (d : DReg) (r : Reg) : Allowed i (moveFromDr d r) :=
  .seq .requireCpl0 <| .seq .debugAccess <| .change fun _ => .of_eq rfl rfl rfl rfl rfl

theorem Allowed.moveToTr (x : TReg) (r : Reg) : Allowed i (moveToTr x r) :=
  .seq .requireCpl0 <| .get_bind fun _ => .ite (.refuse_bind _ _) <| .change fun _ => by cases x <;> exact .of_eq rfl rfl rfl rfl rfl

/-- Any return of IRET that completes ends the service of an NMI (60_exceptions.md R1084). -/
theorem Allowed.iretBody : Allowed .iret iretBody :=
  have done : Allowed .iret (modify fun t => { t with nmiInService := false } : M Unit) :=
    .modify fun _ => ⟨.inl id, .inr rfl, .inl rfl, rfl, fun _ h => h⟩
  .get_bind fun _ => .seq (Ordinary.requireV86Iopl.allowed .requireV86Iopl) <| .ite (.seq (Ordinary.iret8086.allowed .iret8086) done) <|
    .ite (.seq (Calm.iretTask.allowed .iretTask) done) (.seq (Calm.iretProt.allowed .iretProt) done)

/-! The meaning of every instruction. -/

/-- The outcome of an instruction that is none of the prefixes: of an allowed computation, or of a software interrupt after allowed checks. -/
inductive AllowedRun (i : Instr) (s : State) : Result → Prop
  | perform {body : M Unit} (h : Allowed i body) : AllowedRun i s (perform body s)
  | interrupt {pre : M Unit} (h : Allowed i pre) (vec : Byte) : AllowedRun i s (interruptAfter pre vec s)

theorem Allowed.instr {body : M Unit} (h : Allowed i body) (s : State) : AllowedRun i s (instr body s) := .perform (.seq .noLock h)

theorem Allowed.lockable {body : M Unit} (h : Allowed i body) (m : RM) (s : State) : AllowedRun i s (lockable m body s) := by
  cases m with
  | reg r => exact h.instr s
  | mem x => exact .perform (.seq ((Ordinary.pure ()).allowed (.pure ())) h)

theorem Ordinary.run {body : M Unit} (h : Ordinary body) (k : Shelters body) {s : State} : AllowedRun i s (Machine.instr body s) :=
  Allowed.instr (h.allowed k) s

theorem Calm.run {body : M Unit} (h : Calm body) (k : Shelters body) {s : State} : AllowedRun i s (Machine.instr body s) :=
  Allowed.instr (h.allowed k) s

theorem Ordinary.lockRun {body : M Unit} (h : Ordinary body) (k : Shelters body) {m : RM} {s : State} :
    AllowedRun i s (Machine.lockable m body s) := Allowed.lockable (h.allowed k) m s

theorem AllowedRun.aluRmReg (op : AluOp) (d w : Bool) (m : RM) (r : Reg) (s : State) : AllowedRun i s (aluRmReg op d w m r s) := by
  cases d with
  | true => exact (Ordinary.aluFrom ..).run (.aluFrom ..)
  | false => exact (Ordinary.aluTo ..).lockRun (.aluTo ..)

theorem exec_allowed (i : Instr) (hi : IsPrefix i = false) (s : State) : AllowedRun i s (exec i s) := by
  cases i
  case pfxAddrSize | pfxLock | pfxOpSize | pfxCs | pfxDs | pfxEs | pfxFs | pfxGs | pfxSs | pfxRep | pfxRepne => exact nomatch hi
  case movRmReg => exact (Ordinary.storeReg ..).run (.storeReg ..)
  case movRegRm => exact (Ordinary.loadReg ..).run (.loadReg ..)
  case movRmImm | movRegImm => exact (Ordinary.storeImm ..).run (.storeImm ..)
  case movAccMem => exact (Ordinary.loadAcc ..).run (.loadAcc ..)
  case movMemAcc => exact (Ordinary.storeAcc ..).run (.storeAcc ..)
  case movSegRm => exact (Ordinary.moveToSeg ..).run (.moveToSeg ..)
  case movRmSeg => exact (Ordinary.moveFromSeg ..).run (.moveFromSeg ..)
  case movsx | movzx => exact (Ordinary.extendReg ..).run (.extendReg ..)
  case pushRm | pushReg => exact (Ordinary.pushOperand _).run (.pushOperand _)
  case pushSeg | pushFs | pushGs => exact (Ordinary.pushSelector _).run (.pushSelector _)
  case pushImm => exact (Ordinary.pushImmediate ..).run (.pushImmediate ..)
  case pusha => exact Ordinary.pushAllRegs.run .pushAllRegs
  case popRm | popReg => exact (Ordinary.popOperand _).run (.popOperand _)
  case popEs | popSs | popDs | popFs | popGs => exact (Ordinary.popSelector _).run (.popSelector _)
  case popa => exact Ordinary.popAll.run .popAll
  case xchgRmReg => exact (Ordinary.exchange ..).lockRun (.exchange ..)
  case xchgAccReg => exact (Ordinary.exchange ..).run (.exchange ..)
  case inImm | inDx => exact (Ordinary.inPort ..).run (.inPort ..)
  case outImm | outDx => exact (Ordinary.outPort ..).run (.outPort ..)
  case lea => exact (Ordinary.leaBody ..).run (.leaBody ..)
  case lds | les | lfs | lgs | lss => exact (Ordinary.loadFarPtr ..).run (.loadFarPtr ..)
  case addRmReg | adcRmReg | subRmReg | sbbRmReg | andRmReg | orRmReg | xorRmReg => exact .aluRmReg ..
  case addRmImm | adcRmImm | subRmImm | sbbRmImm | andRmImm | orRmImm | xorRmImm => exact (Ordinary.aluTo ..).lockRun (.aluTo ..)
  case addAccImm | adcAccImm | subAccImm | sbbAccImm | andAccImm | orAccImm | xorAccImm => exact (Ordinary.aluTo ..).run (.aluTo ..)
  case cmpRmReg d _ _ _ => exact (Ordinary.readOnly fun _ _ => by cases d <;> exact cmpFlags_vm ..).run (.readOnly ..)
  case cmpRmImm | cmpAccImm => exact (Ordinary.readOnly fun _ _ => cmpFlags_vm ..).run (.readOnly ..)
  case testRmReg | testRmImm | testAccImm => exact (Ordinary.testBody ..).run (.testBody ..)
  case incRm | decRm | negRm | notRm => exact (Ordinary.readWrite fun _ _ => rfl).lockRun (.readWrite ..)
  case incReg | decReg => exact (Ordinary.readWrite fun _ _ => rfl).run (.readWrite ..)
  case aaa | aas => exact (Ordinary.asciiAdjust _).run (.asciiAdjust _)
  case daa | das => exact (Ordinary.decimalAdjust _).run (.decimalAdjust _)
  case mulRm | imulAcc => exact (Ordinary.multiplyAcc ..).run (.multiplyAcc ..)
  case imulReg | imulImm => exact (Ordinary.imulTo ..).run (.imulTo ..)
  case divRm | idivRm => exact (Ordinary.divideAcc ..).run (.divideAcc ..)
  case aad => exact (Ordinary.aadBody _).run (.aadBody _)
  case aam => exact (Ordinary.aamBody _).run (.aamBody _)
  case cbw => exact (Ordinary.change .convertLow).run (.change State.convertLow_apart)
  case cwd => exact (Ordinary.change (k := State.convertHigh) fun _ => by constructor <;> rfl).run (.change fun _ => rfl)
  case rolOne | rolCl | rolImm | rorOne | rorCl | rorImm | rclOne | rclCl | rclImm | rcrOne | rcrCl | rcrImm | shlOne | shlCl | shlImm |
      shrOne | shrCl | shrImm | sarOne | sarCl | sarImm => exact (Ordinary.shiftBody fun _ _ => shift_vm ..).run (.shiftBody ..)
  case shldImm | shldCl | shrdImm | shrdCl => exact (Ordinary.shiftBody fun _ _ => doubleShift_vm ..).run (.shiftBody ..)
  case bsf | bsr => exact (Ordinary.scanBits ..).run (.scanBits ..)
  case btRmImm => exact (Ordinary.bitImm ..).run (.bitImm ..)
  case btRmReg => exact (Ordinary.bitReg ..).run (.bitReg ..)
  case btcRmImm | btrRmImm | btsRmImm => exact (Ordinary.bitImm ..).lockRun (.bitImm ..)
  case btcRmReg | btrRmReg | btsRmReg => exact (Ordinary.bitReg ..).lockRun (.bitReg ..)
  case cmps => exact (Ordinary.once (.cmpsElement _)).run (Shelters.cmpsElement _).finish
  case ins => exact (Ordinary.once (.insElement _)).run (Shelters.insElement _).finish
  case lods => exact (Ordinary.once (.lodsElement _)).run (Shelters.lodsElement _).finish
  case movs => exact (Ordinary.once (.movsElement _)).run (Shelters.movsElement _).finish
  case outs => exact (Ordinary.once (.outsElement _)).run (Shelters.outsElement _).finish
  case scas => exact (Ordinary.once (.scasElement _)).run (Shelters.scasElement _).finish
  case stos => exact (Ordinary.once (.stosElement _)).run (Shelters.stosElement _).finish
  case repeCmps | repneCmps => exact (Ordinary.repStep (.cmpsElement _)).run (Shelters.cmpsElement _).repStep
  case repIns => exact (Ordinary.repStep (.insElement _)).run (Shelters.insElement _).repStep
  case repLods => exact (Ordinary.repStep (.lodsElement _)).run (Shelters.lodsElement _).repStep
  case repMovs => exact (Ordinary.repStep (.movsElement _)).run (Shelters.movsElement _).repStep
  case repOuts => exact (Ordinary.repStep (.outsElement _)).run (Shelters.outsElement _).repStep
  case repeScas | repneScas => exact (Ordinary.repStep (.scasElement _)).run (Shelters.scasElement _).repStep
  case repStos => exact (Ordinary.repStep (.stosElement _)).run (Shelters.stosElement _).repStep
  case xlat => exact Ordinary.xlatBody.run .xlatBody
  case callRel => exact (Ordinary.nearCall _).run (.nearCall _)
  case callRm => exact (Ordinary.indirect .nearCall).run (.indirect .nearCall)
  case callFar | jmpFar => exact (Calm.farTransfer ..).run (.farTransfer ..)
  case callFarMem | jmpFarMem => exact (Calm.farIndirect ..).run (.farIndirect ..)
  case jmpShort | jmpRel => exact (Ordinary.nearJump _).run (.nearJump _)
  case jmpRm => exact (Ordinary.indirect .nearJump).run (.indirect .nearJump)
  case ret | retImm => exact (Ordinary.nearRet _).run (.nearRet _)
  case retf | retfImm => exact (Calm.farRet _).run (.farRet _)
  case joShort | jnoShort | jbShort | jnbShort | jeShort | jneShort | jbeShort | jnbeShort | jsShort | jnsShort | jpShort | jnpShort |
      jlShort | jnlShort | jleShort | jnleShort | joNear | jnoNear | jbNear | jnbNear | jeNear | jneNear | jbeNear | jnbeNear | jsNear |
      jnsNear | jpNear | jnpNear | jlNear | jnlNear | jleNear | jnleNear | jcxz => exact (Ordinary.jumpIf ..).run (.jumpIf ..)
  case loop | loopz | loopnz => exact (Ordinary.loopBody ..).run (.loopBody ..)
  case seto | setno | setb | setnb | sete | setne | setbe | setnbe | sets | setns | setp | setnp | setl | setnl | setle | setnle =>
    exact (Ordinary.setByte ..).run (.setByte ..)
  case enter => exact (Ordinary.enterBody ..).run (.enterBody ..)
  case leave => exact Ordinary.leaveBody.run .leaveBody
  case bound => exact (Ordinary.boundBody ..).run (.boundBody ..)
  case intN imm => exact .interrupt (Ordinary.requireV86Iopl.allowed .requireV86Iopl) imm
  case int3 => exact .interrupt ((Ordinary.pure ()).allowed (.pure ())) 3
  case into =>
    show AllowedRun .into s (execInto s)
    unfold execInto
    split
    · exact .interrupt ((Ordinary.pure ()).allowed (.pure ())) 4
    · exact Ordinary.advance.run .advance
  case iret => exact Allowed.iretBody.instr s
  case clc | cld | cmc | stc | std => exact (Ordinary.setFlags fun _ => by rfl).run (.setFlags _)
  case cli => exact Ordinary.clearInterrupt.run .clearInterrupt
  case sti => exact Ordinary.setInterrupt.run .setInterrupt
  case clts => exact Allowed.clearTaskSwitched.instr s
  case lahf => exact Ordinary.flagsToAh.run .flagsToAh
  case sahf => exact Ordinary.ahToFlags.run .ahToFlags
  case popf => exact Ordinary.popFlags.run .popFlags
  case pushf => exact Ordinary.pushFlags.run .pushFlags
  case movRegCr => exact (Ordinary.moveFromCr ..).run (.seq .requireCpl0 (.change fun _ => rfl))
  case movRegTr => exact (Ordinary.moveFromTr ..).run (.seq .requireCpl0 (.change fun _ => rfl))
  case movCrReg => exact (Allowed.moveToCr ..).instr s
  case movRegDr => exact (Allowed.moveFromDr ..).instr s
  case movDrReg => exact (Allowed.moveToDr ..).instr s
  case movTrReg => exact (Allowed.moveToTr ..).instr s
  case hlt => exact Allowed.halt.instr s
  case nop => exact Ordinary.advance.run .advance
  case wait => exact Ordinary.waitBody.run .waitBody
  case esc => exact (Ordinary.escBody ..).run (.escBody ..)
  case arpl => exact (Ordinary.arplBody ..).run (.arplBody ..)
  case lar | lsl => exact (Ordinary.loadTested ..).run (.loadTested ..)
  case verr | verw => exact (Ordinary.verify ..).run (.verify ..)
  case sgdt | sidt => exact (Ordinary.storeTable ..).run (.storeTable ..)
  case lgdt | lidt => exact (Allowed.loadTable fun _ _ => by exact .of_eq rfl rfl rfl rfl rfl).instr s
  case sldt | str => exact (Ordinary.storeSelector ..).run (.storeSelector ..)
  case smsw => exact (Ordinary.storeSystem ..).run (.storeSystem ..)
  case lmsw => exact (Allowed.lmswBody _).instr s
  case lldt => exact (Ordinary.lldtBody _).run (.lldtBody _)
  case ltr => exact (Ordinary.ltrBody _).run (.ltrBody _)
  case und8F1 | und8F2 | und8F3 | und8F4 | und8F5 | und8F6 | und8F7 | undC61 | undC62 | undC63 | undC64 | undC65 | undC66 | undC67 |
      undFE2 | undFE3 | undFE4 | undFE5 | undFE6 | undFE7 | undFF7 | und0F006 | und0F007 | und0F015 | und0F017 | und0FBA0 | und0FBA1 |
      und0FBA2 | und0FBA3 => exact (Ordinary.raise ..).run (.raise ..)
  case undShift6 | undShiftImm6 | undF61 | undD6 | undF1 | und0F05 | und0F07 | und0FA6 | und0FA7 =>
    exact (Ordinary.refuse _).run (.refuse _)

/-! Outcomes: what a delivery leaves, and PE, NMI service and the run state after an instruction. -/

/-- After a delivery with no RESET to come the processor is not halted, and an NMI in service is still. -/
theorem deliverWith_activity {n : Nat} {e : Event} {savedEip : Word} {s t : State} (hs : s.unstopped)
    (h : deliverWith n e savedEip s = .next t) : t.nmiInService = s.nmiInService ∧ t.run ≠ .halted := by
  induction n generalizing e savedEip s with
  | zero =>
    cases h
    exact ⟨rfl, nofun⟩
  | succ n ih =>
    have shelters := Shelters.entry e savedEip
    unfold deliverWith at h
    split at h <;> rename_i u hx
    · cases h
      exact ⟨((Calm.entry e savedEip).ok hx).nmi, nofun⟩
    · cases h
    · exact absurd hs (shelters.stops _ _ _ hx)
    · rename_i x keep
      have hbase : (if keep then u else s.rollback u).nmiInService = s.nmiInService := by
        cases keep with
        | true => exact ((Calm.entry e savedEip).error hx).nmi
        | false => rfl
      have hquiet : (if keep then u else s.rollback u).unstopped := by
        cases keep with
        | true => exact (shelters.error hx).unstopped hs
        | false => exact (shelters.error hx).rollback.unstopped hs
      dsimp only at h
      split at h
      · cases h
        exact ⟨hbase, nofun⟩
      · obtain ⟨hnmi, hrun⟩ := ih hquiet h
        exact ⟨hnmi.trans hbase, hrun⟩

/-- PE, NMI service and the run state have changed from `s` to `t` only as they may by the instruction. -/
structure State.Permits (i : Instr) (s t : State) : Prop where
  pe : s.pe = true → t.pe = false → ∃ r, i = .movCrReg .cr0 r
  nmi : s.nmiInService = true → t.nmiInService = false → i = .iret
  run : s.run = .running → t.run = .halted → i = .hlt

theorem State.Allows.permits {s t : State} (h : s.Allows i t) : s.Permits i t where
  pe hs ht := h.pe.resolve_left fun k => by simp [k hs] at ht
  nmi hs ht := h.nmi.resolve_left fun k => by simp [k, hs] at ht
  run hs ht := h.run.resolve_left fun k => by simp [k, hs] at ht

theorem State.Allows.deliver {s t u : State} {e : Event} {savedEip : Word} (hs : s.unstopped) (h : s.Allows i t)
    (hd : deliver e savedEip t = .next u) : s.Permits i u := by
  have ht := h.unstopped hs
  have hpe : u.pe = t.pe := (State.Shields.deliver e savedEip ht (.refl t) u hd).pe
  obtain ⟨hnmi, hrun⟩ := deliverWith_activity ht hd
  exact ⟨fun hs hu => h.permits.pe hs (hpe ▸ hu), fun hs hu => h.permits.nmi hs (hnmi ▸ hu), fun _ hu => absurd hu hrun⟩

theorem Allowed.stopped {x : M α} (h : Allowed i x) {s t u : State} (hs : s.unstopped) {e : Stop} (hx : x s = .error e t)
    (hu : stopped s t e = .next u) : s.Permits i u := by
  have ht := h.error hx
  cases e with
  | exc x keep =>
    cases keep with
    | true => exact ht.deliver hs hu
    | false => exact State.Allows.deliver (t := s.rollback t) hs ⟨.inl id, .inl rfl, .inl rfl, rfl, ht.bus⟩ hu
  | refuse r => cases hu
  | bus b => exact absurd hs (h.stops s b t hx)

theorem AllowedRun.permits {s t : State} {r : Result} (h : AllowedRun i s r) (hs : s.unstopped) (hr : r = .next t) : s.Permits i t := by
  cases h with
  | perform h =>
    rcases perform_next hr with ⟨u, hu, rfl⟩ | ⟨u, e, hu, hst⟩
    · have hp := (h.ok hu).permits
      exact ⟨hp.pe, hp.nmi, hp.run⟩
    · exact h.stopped hs hu hst
  | interrupt h vec =>
    unfold interruptAfter at hr
    split at hr
    · exact ((Allowed.seq .noLock h).ok ‹_›).deliver hs hr
    · exact (Allowed.seq .noLock h).stopped hs ‹_› hr

/-- Each of the prefixes is remembered, and changes nothing else. -/
theorem exec_prefix {s : State} (hi : IsPrefix i = true) : ∃ p : Pfx, p.count = s.pfx.count + 1 ∧ exec i s = .next { s with pfx := p } := by
  cases i
  case pfxAddrSize | pfxLock | pfxOpSize | pfxCs | pfxDs | pfxEs | pfxFs | pfxGs | pfxSs | pfxRep | pfxRepne => exact ⟨_, rfl, rfl⟩
  all_goals exact nomatch hi

/-- Settles O12: every computation of an instruction, and every delivery, keeps the three, but for the named instructions' own. -/
theorem modeChangesHaveOneSource : Obligations.ModeChangesHaveOneSource := by
  intro i s t hs ht
  suffices h : s.Permits i t from ⟨h.pe, h.nmi, h.run⟩
  cases hi : IsPrefix i with
  | false => exact (exec_allowed i hi s).permits hs ht
  | true =>
    obtain ⟨p, -, hp⟩ := exec_prefix (s := s) hi
    rw [hp] at ht
    cases ht
    exact ⟨fun h k => by simp [State.pe] at h k; simp [h] at k, fun h k => by simp [h] at k, fun h k => by simp [h] at k⟩

end Sys2Proof.Machine
end

-- ==== Proofs: the translation state and the prefixes ====
section
/-!
PROOFS. What a step keeps of the TLB, of CR3 and of the prefixes. The updates of the TLB keep its size and one entry for a page (22_paging.md R480).
A byte of the prefixes is counted only after it has been fetched, for which one of the 15 was left (30_encoding.md R573), and everything that ends an
instruction forgets them.
-/
namespace Sys2Proof.Machine

open Sys2Proof

/-! The TLB and CR3. -/

/-- At most 32 entries, one for a page. -/
def TlbLegal (entries : List TlbEntry) : Prop := entries.length ≤ tlbSize ∧ entries.Pairwise fun a b => a.vpn ≠ b.vpn

theorem TlbLegal.sublist {l entries : List TlbEntry} (h : TlbLegal entries) (hl : l.Sublist entries) : TlbLegal l :=
  ⟨hl.length_le.trans h.1, h.2.sublist hl⟩

/-- A new entry takes the place of another one of its page, or of one that a full TLB gives up. -/
theorem State.cacheEntry_tlbLegal {s : State} (e : TlbEntry) (h : TlbLegal s.tlb) : TlbLegal (s.cacheEntry e).tlb := by
  have hothers : ∀ x ∈ s.tlb.filter (fun x => x.vpn != e.vpn), e.vpn ≠ x.vpn := fun x hx => by
    exact fun h => by simp [h] at hx
  have cons {kept : List TlbEntry} (hkept : kept.Sublist (s.tlb.filter fun x => x.vpn != e.vpn)) (hlen : kept.length < tlbSize) :
      TlbLegal (e :: kept) :=
    ⟨hlen, List.pairwise_cons.mpr ⟨fun x hx => hothers x (hkept.subset hx), h.2.sublist (hkept.trans List.filter_sublist)⟩⟩
  unfold State.cacheEntry
  dsimp only
  split
  · exact cons (List.Sublist.refl _) ‹_›
  · refine cons ((List.take_sublist ..).trans (List.eraseIdx_sublist ..)) ?_
    exact Nat.lt_of_le_of_lt (List.length_take_le ..) (by decide)

/-- The translation state, whatever the memory. -/
def legalTranslation : StoreInvariant where
  mem _ := True
  tlb := TlbLegal
  cr3 v := v.extractLsb' 0 12 = 0
  cellPut _ _ := trivial
  flushed := ⟨Nat.zero_le _, .nil⟩
  filtered _ h := h.sublist List.filter_sublist
  cached e h := State.cacheEntry_tlbLegal e h
  masked v := by
    refine BitVec.eq_of_getLsbD_eq fun i hi => ?_
    interval_cases i <;> simp

theorem legalTranslation_holds {s : State} : legalTranslation.Holds s ↔ s.translationLegal :=
  ⟨fun h => ⟨h.cr3, h.tlb⟩, fun h => ⟨trivial, h.2, h.1⟩⟩

theorem step_translationLegal {s t : State} (hs : s.translationLegal) (ht : step s = .next t) : t.translationLegal :=
  legalTranslation_holds.mp (StoreInvariant.Reached.step (legalTranslation_holds.mpr hs) t ht)

/-! The prefixes, through deliveries and instructions. -/

theorem State.prefixLegal.congr {s t : State} (hs : s.prefixLegal) (h : t.pfx = s.pfx) : t.prefixLegal := by
  unfold State.prefixLegal
  rw [h]
  exact hs

/-- Between instructions there are none. -/
theorem State.prefixLegal_of_none {s : State} (h : s.pfx = Pfx.none) : s.prefixLegal := by
  unfold State.prefixLegal
  rw [h]
  exact Nat.zero_le _

theorem State.prefixLegal.busStop {s : State} (hs : s.prefixLegal) (b : BusStop) : (s.busStop b).prefixLegal := by
  cases b with
  | reset => exact State.prefixLegal_of_none rfl
  | stall => exact hs

/-- The state that the outcome leads to, if any, has at most 15 bytes of prefixes. -/
def FewPrefixes (r : Result) : Prop := ∀ t, r = .next t → t.prefixLegal

theorem FewPrefixes.next {t : State} (h : t.prefixLegal) : FewPrefixes (.next t) := fun _ k => by cases k; exact h

theorem FewPrefixes.refused (r : Refusal) : FewPrefixes (.refused r) := fun _ k => nomatch k

theorem FewPrefixes.fault (f : Fault) : FewPrefixes (.fault f) := fun _ k => nomatch k

theorem FewPrefixes.deliverWith (n : Nat) (e : Event) (savedEip : Word) {s : State} (hs : s.prefixLegal) :
    FewPrefixes (deliverWith n e savedEip s) := by
  induction n generalizing e savedEip s with
  | zero => exact .next (State.prefixLegal_of_none rfl)
  | succ n ih =>
    unfold Machine.deliverWith
    split <;> rename_i u hx
    · exact .next (State.prefixLegal_of_none rfl)
    · exact .refused _
    · exact .next (State.prefixLegal.busStop (s := s.rollback u) hs _)
    · rename_i x keep
      have hbase : (if keep then u else s.rollback u).prefixLegal := by
        cases keep with
        | true => exact hs.congr ((Calm.entry e savedEip).error hx).pfx
        | false => exact hs
      dsimp only
      split
      · exact .next (State.prefixLegal_of_none rfl)
      · exact ih _ _ hbase

theorem FewPrefixes.deliver (e : Event) (savedEip : Word) {s : State} (hs : s.prefixLegal) : FewPrefixes (deliver e savedEip s) :=
  .deliverWith 5 e savedEip hs

theorem FewPrefixes.stopped {s t : State} (hs : s.prefixLegal) (ht : t.prefixLegal) (e : Stop) : FewPrefixes (stopped s t e) := by
  cases e with
  | exc x keep =>
    cases keep with
    | true => exact .deliver _ _ ht
    | false => exact .deliver _ _ (s := s.rollback t) hs
  | refuse r => exact .refused r
  | bus b => exact .next (State.prefixLegal.busStop (s := s.rollback t) hs b)

theorem FewPrefixes.of_allowedRun {i : Instr} {s : State} {r : Result} (h : AllowedRun i s r) (hs : s.prefixLegal) : FewPrefixes r := by
  cases h with
  | perform h =>
    unfold Machine.perform
    split <;> rename_i hx
    · exact .next (State.prefixLegal_of_none rfl)
    · exact .stopped hs (hs.congr (h.error hx).pfx) _
  | interrupt h vec =>
    have hpre := Allowed.seq .noLock h
    unfold interruptAfter
    split <;> rename_i hx
    · exact .deliver _ _ (hs.congr (hpre.ok hx).pfx)
    · exact .stopped hs (hs.congr (hpre.error hx).pfx) _

/-- An instruction, or one more of the prefixes where there is room for it. -/
theorem FewPrefixes.exec (i : Instr) {s : State} (hs : s.pfx.count < maxLength) : FewPrefixes (exec i s) := by
  cases hi : IsPrefix i with
  | false => exact .of_allowedRun (exec_allowed i hi s) (Nat.le_of_lt hs)
  | true =>
    obtain ⟨p, hp, hx⟩ := exec_prefix (s := s) hi
    rw [hx]
    refine .next ?_
    unfold State.prefixLegal
    dsimp only
    omega

/-! The fetch. -/

/-- With none of the 15 bytes left nothing is decoded: an instruction has a byte. -/
theorem fetchInstr_full (c : Ctx) (off : Word) (s : State) : fetchInstr c off 0 [] s = .error (.exc ⟨13, some 0⟩ false) s := rfl

/-- Where an instruction, or one of its prefixes, is fetched, one of the 15 bytes was left. -/
theorem fetch_room {s t : State} {i : Instr} {len : Nat} (h : fetch s = .ok (.instr i len) t) : s.pfx.count < maxLength := by
  unfold fetch at h
  rw [M.get_bind] at h
  obtain ⟨d, u, hd, h⟩ := M.bind_ok.mp h
  by_contra hfull
  rw [Nat.sub_eq_zero_of_le (Nat.le_of_not_lt hfull), fetchInstr_full] at hd
  cases hd

theorem FewPrefixes.rejected {s t : State} (hs : s.prefixLegal) (ht : t.prefixLegal) {body : M Unit} (h : Ordinary body) :
    FewPrefixes (s.rejected t body) := by
  have hbody := (Ordinary.seqRight .noLock h).calm
  unfold State.rejected
  split <;> rename_i hx
  · exact .next (State.prefixLegal_of_none rfl)
  · exact .stopped hs (ht.congr (hbody.error hx).pfx) _

theorem FewPrefixes.runNext {s : State} (hs : s.prefixLegal) : FewPrefixes s.runNext := by
  unfold State.runNext
  split <;> rename_i hx
  · rename_i d t
    have hpfx : t.pfx = s.pfx := (Ordinary.fetch.calm.ok hx).pfx
    have ht := hs.congr hpfx
    cases d with
    | instr i len => exact .exec i (show t.pfx.count < maxLength by rw [hpfx]; exact fetch_room hx)
    | more => exact .stopped hs ht (.exc _ false)
    | reject r =>
      cases r with
      | undefinedOpcode => exact .rejected hs ht (.raise ..)
      | specialCode => exact .rejected hs ht (.seqRight .requireCpl0 (.raise ..))
      | setccField => exact .rejected hs ht (.refuse _)
      | specialMod | cr1 | dr45 => exact .rejected hs ht (.seqRight .requireCpl0 (.refuse _))
  · exact .stopped hs (hs.congr (Ordinary.fetch.calm.error hx).pfx) _

/-! The boundary and the environment. -/

theorem FewPrefixes.maskIntr {r : Result} (h : FewPrefixes r) : FewPrefixes (maskIntr r) := by
  cases r with
  | next s => exact .next ((h s rfl).congr rfl)
  | fault f => exact .fault f
  | refused r => exact .refused r

theorem FewPrefixes.takeIntr {s : State} (hs : s.prefixLegal) : FewPrefixes s.takeIntr := by
  unfold State.takeIntr
  split <;> rename_i hx
  · exact .deliver _ _ (hs.congr (Ordinary.acknowledge.calm.ok hx).pfx)
  · have ht := hs.congr (Ordinary.acknowledge.calm.error hx).pfx
    exact .stopped ht ht _

theorem FewPrefixes.nmiInShutdown {s : State} (hs : s.prefixLegal) : FewPrefixes s.nmiInShutdown := by
  unfold State.nmiInShutdown
  split
  · exact .next hs
  · split
    · exact .next (State.prefixLegal_of_none rfl)
    · exact .refused _
    · exact .next (State.prefixLegal.busStop (s := s.takeNmi.rollback _) hs _)
    · exact .next (hs.congr rfl)

theorem FewPrefixes.takeEscDue {s : State} (hs : s.prefixLegal) (x : Exc) : FewPrefixes (s.takeEscDue x) := by
  unfold State.takeEscDue
  dsimp only
  split <;> exact .deliver _ _ (hs.congr rfl)

theorem FewPrefixes.proceed {s : State} (hs : s.prefixLegal) : FewPrefixes s.proceed := by
  unfold State.proceed
  split
  · exact .deliver _ _ (hs.congr rfl)
  · exact .runNext (hs.congr (by simp))

theorem FewPrefixes.ordinary {s : State} (hs : s.prefixLegal) : FewPrefixes s.ordinary := by
  unfold State.ordinary
  split_ifs
  · exact .deliver _ _ (hs.congr rfl)
  · exact .maskIntr (.deliver _ _ (hs.congr rfl))
  · exact .takeIntr hs
  · exact .next hs
  · exact .proceed hs

theorem FewPrefixes.boundary {s : State} (hs : s.prefixLegal) : FewPrefixes s.boundary := by
  unfold State.boundary
  split_ifs
  · exact .nmiInShutdown hs
  · exact .next hs
  · split
    · exact .takeEscDue hs _
    · exact .ordinary hs

theorem State.prefixLegal.pereq {s : State} (hs : s.prefixLegal) (dword : Bool) (value : Word) : (s.pereq dword value).prefixLegal := by
  unfold State.pereq
  split
  · rename_i c _ _
    split <;> rename_i t hx
    · exact hs.congr ((Ordinary.transferItem c dword value).calm.ok hx).pfx
    · exact State.prefixLegal.busStop (s := s.rollback t) hs _
    · unfold State.itemFailed
      split <;> exact hs.congr rfl
    · exact hs.congr rfl
  · exact hs

theorem State.prefixLegal.receive {s : State} (hs : s.prefixLegal) (x : Stimulus) : (s.receive x).prefixLegal := by
  cases x with
  | reset => exact State.prefixLegal_of_none rfl
  | pereq dword value =>
    unfold State.receive
    dsimp only
    split
    · exact hs
    · exact hs.pereq _ _
  | intr | nmi | busy | error | dma | port | stall => exact hs.congr rfl

theorem State.prefixLegal.receiveAll {s : State} (hs : s.prefixLegal) (xs : List Stimulus) : (s.receiveAll xs).prefixLegal := by
  induction xs generalizing s with
  | nil => exact hs
  | cons x rest ih => exact ih (hs.receive x)

theorem State.prefixLegal.withStimuli {s : State} (hs : s.prefixLegal) (rest : List (List Stimulus)) :
    State.prefixLegal { s with stimuli := rest } := hs

theorem FewPrefixes.boundaryWith {s : State} (hs : s.prefixLegal) (xs : List Stimulus) : FewPrefixes (s.boundaryWith xs) := by
  unfold State.boundaryWith
  dsimp only
  split
  · exact .next (hs.receiveAll xs)
  · exact .boundary (hs.receiveAll xs)

theorem FewPrefixes.stalledCycle {s : State} (hs : s.prefixLegal) : FewPrefixes s.stalledCycle := by
  unfold State.stalledCycle
  split
  · exact .fault _
  · exact .next ((hs.withStimuli _).receiveAll _)

theorem FewPrefixes.cycle {s : State} (hs : s.prefixLegal) : FewPrefixes s.cycle := by
  unfold State.cycle
  split_ifs
  · exact .stalledCycle hs
  · split
    · exact .boundary hs
    · exact .boundaryWith (hs.withStimuli _) _
  · exact .runNext hs

theorem step_prefixLegal {s t : State} (hs : s.prefixLegal) (ht : step s = .next t) : t.prefixLegal := by
  unfold step at ht
  cases hc : s.cycle with
  | next u =>
    rw [hc] at ht
    cases ht
    exact (FewPrefixes.cycle hs u hc).congr rfl
  | fault f => rw [hc] at ht; cases ht
  | refused r => rw [hc] at ht; cases ht

/-- Settles O10: the updates of the TLB and of CR3 keep the one part, and a step counts one more of the prefixes only where there is room for its byte. -/
theorem stepKeepsTranslationState : Obligations.StepKeepsTranslationState := fun _ _ htr hpfx ht =>
  ⟨step_translationLegal htr ht, step_prefixLegal hpfx ht⟩

end Sys2Proof.Machine
end

-- ==== Proofs: what the load of a segment register does ====
section
/-!
PROOFS. The load of a segment register by mode (10_state.md R72), the checks of Protected Mode in their order (21_protection.md R340 to R342), and
where a descriptor is read (R306).
-/
namespace Sys2Proof.Machine

open Sys2Proof

variable {α : Type} {s t u : State} {g : Seg} {sel : Half} {d : Descriptor}

/-! The mode. -/

theorem loadSeg_8086 (hp : s.decodedProt = false) : loadSeg g sel s = .ok () (s.setSeg g (s.load8086 (s.seg g) sel)) := by
  unfold loadSeg
  rw [M.get_bind, hp]
  rfl

theorem loadSeg_ss (hp : s.decodedProt = true) : loadSeg .ss sel s = loadSS sel s := by
  unfold loadSeg
  rw [M.get_bind, hp]
  rfl

theorem loadSeg_data (hp : s.decodedProt = true) (hg : g ≠ .ss) : loadSeg g sel s = loadDataSeg g sel raiseGP s := by
  unfold loadSeg
  rw [M.get_bind, hp, if_neg (by simp), if_neg hg]

/-! Null selectors. -/

theorem loadDataSeg_null {fail : Half → M Unit} (hn : selNull sel = true) :
    loadDataSeg g sel fail s = .ok () (s.setSeg g { s.seg g with sel := sel, valid := false }) := by
  unfold loadDataSeg
  rw [if_pos hn]
  rfl

theorem loadSS_null (hn : selNull sel = true) : loadSS sel s = .error (.exc ⟨13, some 0⟩ false) s :=
  (M.get_bind _ s).trans (M.bind_of_error (M.check_fail hn))

/-! The checks of a descriptor. -/

theorem needDescriptor_missing {v : Byte} {code : Option Half} (h : readDescriptor sel s = .ok none t) :
    needDescriptor sel (raise v code) s = .error (.exc ⟨v, code⟩ false) t :=
  M.bind_of_ok h

/-- Readable, and data and non-conforming code with a DPL of at least CPL and RPL (R340). -/
def State.dataFits (t : State) (sel : Half) (d : Descriptor) : Bool :=
  arS d.ar && (!arE d.ar || arW d.ar) &&
    (d.conforming || (decide (t.cpl.toNat ≤ (arDpl d.ar).toNat) && decide ((rpl sel).toNat ≤ (arDpl d.ar).toNat)))

/-- The three checks of a data segment are this condition: segment, readable, level. -/
theorem State.dataFits_eq_true : t.dataFits sel d = true ↔ (!arS d.ar) = false ∧ (arE d.ar && !arW d.ar) = false ∧
    (!d.conforming && decide ((arDpl d.ar).toNat < max t.cpl.toNat (rpl sel).toNat)) = false := by
  unfold State.dataFits
  have hlevel : decide ((arDpl d.ar).toNat < max t.cpl.toNat (rpl sel).toNat) =
      !(decide (t.cpl.toNat ≤ (arDpl d.ar).toNat) && decide ((rpl sel).toNat ≤ (arDpl d.ar).toNat)) := by
    rw [← Bool.decide_and, ← decide_not]
    exact decide_eq_decide.mpr (by omega)
  rw [hlevel]
  cases arS d.ar <;> cases arE d.ar <;> cases arW d.ar <;> cases d.conforming <;> simp

/-- A writable data segment with DPL and RPL equal to CPL (R342). -/
def State.stackFits (s : State) (sel : Half) (d : Descriptor) : Bool := d.isWritable && rpl sel == s.cpl && arDpl d.ar == s.cpl

theorem State.stackFits_eq_true : s.stackFits sel d = true ↔ (rpl sel != s.cpl) = false ∧ (!d.isWritable) = false ∧
    (arDpl d.ar != s.cpl) = false := by
  unfold State.stackFits
  cases d.isWritable <;> simp

/-- What follows the read of a descriptor for a data segment register. -/
theorem loadDataSeg_of_read (hn : selNull sel = false) (hr : readDescriptor sel s = .ok (some d) t) :
    loadDataSeg g sel raiseGP s = (do
      raiseIf (!arS d.ar) (raiseGP sel)
      raiseIf (arE d.ar && !arW d.ar) (raiseGP sel)
      raiseIf (!d.conforming && decide ((arDpl d.ar).toNat < max t.cpl.toNat (rpl sel).toNat)) (raiseGP sel)
      raiseIf (!arP d.ar) (raiseNP sel)
      markAccessed sel d
      modify fun s => s.setSeg g (d.toSegReg sel) : M Unit) t := by
  unfold loadDataSeg
  rw [if_neg (by simp [hn])]
  exact M.bind_of_ok (needDescriptor_of_read hr)

/-- What follows it for SS. -/
theorem loadSS_of_read (hn : selNull sel = false) (hr : readDescriptor sel s = .ok (some d) t) :
    loadSS sel s = ((do
      raiseIf (rpl sel != s.cpl) (raiseGP sel)
      raiseIf (!d.isWritable) (raiseGP sel)
      raiseIf (arDpl d.ar != s.cpl) (raiseGP sel)
      raiseIf (!arP d.ar) (raiseSS sel)
      pure d : M Descriptor) >>= fun d => markAccessed sel d >>= fun _ => modify fun s => s.setSeg .ss (d.toSegReg sel)) t := by
  have hstack : stackDescriptor sel s.cpl raiseGP0 raiseGP s = (do
      raiseIf (rpl sel != s.cpl) (raiseGP sel)
      raiseIf (!d.isWritable) (raiseGP sel)
      raiseIf (arDpl d.ar != s.cpl) (raiseGP sel)
      raiseIf (!arP d.ar) (raiseSS sel)
      pure d : M Descriptor) t := (M.check_bind hn).trans (M.bind_of_ok (needDescriptor_of_read hr))
  show (stackDescriptor sel s.cpl raiseGP0 raiseGP >>= fun d => markAccessed sel d >>= fun _ =>
    modify fun s => s.setSeg .ss (d.toSegReg sel)) s = _
  rw [M.bind_apply, M.bind_apply, hstack]

/-- One of three checks with the same exception fails, or all are passed. -/
theorem M.three_checks {a b c : Bool} {v : Byte} {code : Option Half} {y : M α} :
    (a = false ∧ b = false ∧ c = false →
      (raiseIf a (raise v code) >>= fun _ => raiseIf b (raise v code) >>= fun _ => raiseIf c (raise v code) >>= fun _ => y) s = y s) ∧
    (¬ (a = false ∧ b = false ∧ c = false) →
      (raiseIf a (raise v code) >>= fun _ => raiseIf b (raise v code) >>= fun _ => raiseIf c (raise v code) >>= fun _ => y) s =
        .error (.exc ⟨v, code⟩ false) s) := by
  cases a <;> cases b <;> cases c <;> simp <;> rfl

/-! The load of a data segment register in Protected Mode (R340). -/

theorem loadDataSeg_missing (hn : selNull sel = false) (hr : readDescriptor sel s = .ok none t) :
    loadDataSeg g sel raiseGP s = .error (.exc ⟨13, some (sel &&& 0xFFFC)⟩ false) t := by
  unfold loadDataSeg
  rw [if_neg (by simp [hn])]
  exact M.bind_of_error (needDescriptor_missing hr)

theorem loadDataSeg_unfit (hn : selNull sel = false) (hr : readDescriptor sel s = .ok (some d) t) (hd : t.dataFits sel d = false) :
    loadDataSeg g sel raiseGP s = .error (.exc ⟨13, some (sel &&& 0xFFFC)⟩ false) t :=
  (loadDataSeg_of_read hn hr).trans (M.three_checks.2 fun h => by simp [State.dataFits_eq_true.mpr h] at hd)

theorem loadDataSeg_absent (hn : selNull sel = false) (hr : readDescriptor sel s = .ok (some d) t) (hd : t.dataFits sel d = true)
    (hp : arP d.ar = false) : loadDataSeg g sel raiseGP s = .error (.exc ⟨11, some (sel &&& 0xFFFC)⟩ false) t :=
  (loadDataSeg_of_read hn hr).trans
    ((M.three_checks.1 (State.dataFits_eq_true.mp hd)).trans (M.check_fail (show (!arP d.ar) = true by rw [hp]; rfl)))

theorem loadDataSeg_done (hn : selNull sel = false) (hr : readDescriptor sel s = .ok (some d) t) (hd : t.dataFits sel d = true)
    (hp : arP d.ar = true) (hm : markAccessed sel d t = .ok () u) :
    loadDataSeg g sel raiseGP s = .ok () (u.setSeg g (d.toSegReg sel)) :=
  (loadDataSeg_of_read hn hr).trans
    ((M.three_checks.1 (State.dataFits_eq_true.mp hd)).trans ((M.check_bind (show (!arP d.ar) = false by rw [hp]; rfl)).trans (M.bind_of_ok hm)))

/-! The load of SS in Protected Mode (R342). -/

theorem loadSS_missing (hn : selNull sel = false) (hr : readDescriptor sel s = .ok none t) :
    loadSS sel s = .error (.exc ⟨13, some (sel &&& 0xFFFC)⟩ false) t :=
  (M.get_bind _ s).trans (M.bind_of_error ((M.check_bind hn).trans (M.bind_of_error (needDescriptor_missing hr))))

theorem loadSS_unfit (hn : selNull sel = false) (hr : readDescriptor sel s = .ok (some d) t) (hd : s.stackFits sel d = false) :
    loadSS sel s = .error (.exc ⟨13, some (sel &&& 0xFFFC)⟩ false) t :=
  (loadSS_of_read hn hr).trans (M.bind_of_error (M.three_checks.2 fun h => by simp [State.stackFits_eq_true.mpr h] at hd))

theorem loadSS_absent (hn : selNull sel = false) (hr : readDescriptor sel s = .ok (some d) t) (hd : s.stackFits sel d = true)
    (hp : arP d.ar = false) : loadSS sel s = .error (.exc ⟨12, some (sel &&& 0xFFFC)⟩ false) t :=
  (loadSS_of_read hn hr).trans (M.bind_of_error ((M.three_checks.1 (State.stackFits_eq_true.mp hd)).trans
    (M.check_fail (show (!arP d.ar) = true by rw [hp]; rfl))))

theorem loadSS_done (hn : selNull sel = false) (hr : readDescriptor sel s = .ok (some d) t) (hd : s.stackFits sel d = true)
    (hp : arP d.ar = true) (hm : markAccessed sel d t = .ok () u) : loadSS sel s = .ok () (u.setSeg .ss (d.toSegReg sel)) := by
  have hchecks := M.three_checks (v := 13) (code := some (selCode sel)) (y := raiseIf (!arP d.ar) (raiseSS sel) >>= fun _ => pure d)
    (s := t) |>.1 (State.stackFits_eq_true.mp hd)
  have hpresent : (raiseIf (!arP d.ar) (raiseSS sel) >>= fun _ => (pure d : M Descriptor)) t = .ok d t :=
    M.check_bind (show (!arP d.ar) = false by rw [hp]; rfl)
  exact (loadSS_of_read hn hr).trans ((M.bind_of_ok (hchecks.trans hpresent)).trans (M.bind_of_ok hm))

/-! Where a descriptor is read. -/

theorem State.physKeys_take (la : Word) : (s.physKeys la 8).take 4 = s.physKeys la 4 := rfl

theorem State.physKeys_drop (la : Word) : (s.physKeys la 8).drop 4 = s.physKeys (la + 4) 4 := by
  show [4, 5, 6, 7].map (fun i : Nat => s.physKey (la + BitVec.ofNat 32 i)) =
    [0, 1, 2, 3].map (fun i : Nat => s.physKey (la + 4 + BitVec.ofNat 32 i))
  simp [BitVec.add_assoc]

theorem linDescriptor_unpaged (hp : s.pg = false) (hb : s.bus = []) (la : Word) :
    linDescriptor la s = .ok { lo := s.readKeys (s.physKeys la 4), hi := s.readKeys (s.physKeys (la + 4) 4) } s := by
  unfold linDescriptor
  rw [M.bind_of_ok (linKeys_unpaged hp (busTurn_nil hb)), M.get_bind, State.physKeys_take, State.physKeys_drop]
  rfl

/-- The table and the offset that a selector names (R306). -/
theorem State.descriptorAt_eq (s : State) (sel : Half) :
    s.descriptorAt sel =
      if (sel.getLsbD 2 = true ∧ s.ldtr.valid = false) ∨
          (if sel.getLsbD 2 then s.ldtr.limit.toNat else s.gdtr.limit.toNat) < sel.toNat / 8 * 8 + 7 then none
      else some ((if sel.getLsbD 2 then s.ldtr.base else s.gdtr.base) + BitVec.ofNat 32 (sel.toNat / 8 * 8)) := by
  unfold State.descriptorAt State.table selTI
  rw [selOffset_eq]
  cases sel.getLsbD 2 <;> cases s.ldtr.valid <;> simp

theorem readDescriptor_unpaged (hp : s.pg = false) (hb : s.bus = []) (sel : Half) :
    readDescriptor sel s = .ok ((s.descriptorAt sel).map fun la =>
      { lo := s.readKeys (s.physKeys la 4), hi := s.readKeys (s.physKeys (la + 4) 4) }) s := by
  unfold readDescriptor
  rw [M.get_bind]
  cases s.descriptorAt sel with
  | none => rfl
  | some la => exact M.bind_of_ok (linDescriptor_unpaged hp hb la)

/-- The Accessed bit is bit 8 of the upper dword (R310, R317). -/
theorem Descriptor.arA_ar (d : Descriptor) : arA d.ar = d.hi.getLsbD 8 := by
  unfold arA Descriptor.ar
  rw [BitVec.getLsbD_append]
  simp

/-- Settles O20, a clause a mode and then the checks of Protected Mode in their order. -/
theorem segmentLoadByMode : Obligations.SegmentLoadByMode := by
  refine ⟨fun s g sel => ⟨fun hp hv => ?real, fun hp hv => ?virtual, fun hp hn => ?null, State.decodedProt_of_none⟩,
    fun s t u g sel d hp hn => ?loads, fun s sel hp hb => ?reads, fun s sel d => ?marks⟩
  case real =>
    rw [loadSeg_8086 hp, State.load8086, if_neg (by simp [hv])]
  case virtual =>
    rw [loadSeg_8086 hp, State.load8086, if_pos hv]
  case null =>
    split
    next hg => rw [hg, loadSeg_ss hp, loadSS_null hn]
    next hg => rw [loadSeg_data hp hg, loadDataSeg_null hn]
  case loads =>
    by_cases hg : g = .ss
    · subst hg
      simp only [if_true, loadSeg_ss hp]
      exact ⟨loadSS_missing hn, fun hr => ⟨loadSS_unfit hn hr, loadSS_absent hn hr, loadSS_done hn hr⟩⟩
    · simp only [if_neg hg, loadSeg_data hp hg]
      exact ⟨loadDataSeg_missing hn, fun hr => ⟨loadDataSeg_unfit hn hr, loadDataSeg_absent hn hr, loadDataSeg_done hn hr⟩⟩
  case reads =>
    rw [readDescriptor_unpaged hp hb, State.descriptorAt_eq, apply_ite (Option.map _)]
    rfl
  case marks =>
    unfold markAccessed
    rw [Descriptor.arA_ar, M.ite_apply]
    rfl

end Sys2Proof.Machine
end

-- ==== Proofs: the order at an instruction boundary and the breakpoints ====
section
/-!
PROOFS. Which breakpoints an instruction and a data access meet (10_state.md R112, R113; 60_exceptions.md R1121, R1122), and what comes first at
an instruction boundary (R1054).
-/
namespace Sys2Proof.Machine

open Sys2Proof

variable {s t : State}

/-! Four bits, one a breakpoint. -/

theorem fourBits_getLsbD (f : Nat → Bool) {i : Nat} (hi : i < 4) :
    (BitVec.ofBool (f 3) ++ BitVec.ofBool (f 2) ++ BitVec.ofBool (f 1) ++ BitVec.ofBool (f 0)).getLsbD i = f i := by
  simp only [BitVec.getLsbD_append, BitVec.getLsbD_ofBool]
  interval_cases i <;> simp

theorem fourBits_and_ne_zero {x y : BitVec 4} :
    (x &&& y != 0) = true ↔ ∃ i, i < 4 ∧ y.getLsbD i = true ∧ x.getLsbD i = true := by
  constructor
  · intro h
    by_contra hn
    refine (bne_iff_ne.mp h) (BitVec.eq_of_getLsbD_eq fun i hi => ?_)
    rw [BitVec.getLsbD_and, BitVec.ofNat_eq_ofNat, BitVec.getLsbD_zero, Bool.and_eq_false_imp]
    exact fun hx => Bool.eq_false_iff.mpr fun hy => hn ⟨i, hi, hy, hx⟩
  · rintro ⟨i, -, hy, hx⟩
    refine bne_iff_ne.mpr fun h => ?_
    have hbit := congrArg (BitVec.getLsbD · i) h
    simp [BitVec.getLsbD_and, hx, hy] at hbit

theorem enabledBits_getLsbD (dr7 : Word) {i : Nat} (hi : i < 4) : (enabledBits dr7).getLsbD i = bpEnabled dr7 i :=
  fourBits_getLsbD (bpEnabled dr7) hi

theorem State.execHits_getLsbD (s : State) {i : Nat} (hi : i < 4) : s.execHits.getLsbD i = s.bpExecutes i :=
  fourBits_getLsbD s.bpExecutes hi

theorem State.bpHits_getLsbD (s : State) (la : Word) (nb : Nat) (write : Bool) {i : Nat} (hi : i < 4) :
    (s.bpHits la nb write).getLsbD i = s.bpMet i la nb write :=
  fourBits_getLsbD (s.bpMet · la nb write) hi

/-! The fields of a breakpoint. -/

theorem bpRW_eq (dr7 : Word) (i : Nat) : bpRW dr7 i = (dr7 >>> (16 + 4 * i)).toNat % 4 := by
  unfold bpRW
  rw [BitVec.extractLsb'_toNat, BitVec.toNat_ushiftRight]

theorem bpLen_eq (dr7 : Word) (i : Nat) : bpLen dr7 i = (dr7 >>> (18 + 4 * i)).toNat % 4 := by
  unfold bpLen
  rw [BitVec.extractLsb'_toNat, BitVec.toNat_ushiftRight]

theorem State.bpAddr_eq (s : State) {i : Nat} (hi : i < 4) : s.bpAddr i = [s.dr0, s.dr1, s.dr2, s.dr3].getD i 0 := by
  interval_cases i <;> rfl

theorem State.bpExecutes_iff (s : State) {i : Nat} (hi : i < 4) :
    s.bpExecutes i = true ↔
      (s.dr7 >>> (16 + 4 * i)).toNat % 4 = 0 ∧ [s.dr0, s.dr1, s.dr2, s.dr3].getD i 0 = s.cs.base + s.eip := by
  unfold State.bpExecutes
  rw [Bool.and_eq_true, beq_iff_eq, beq_iff_eq, bpRW_eq, s.bpAddr_eq hi]
  rfl

/-- An enabled execution breakpoint raises the fault where RF is clear (R1122). -/
theorem State.breakpointMet_iff (s : State) :
    s.breakpointMet = true ↔ s.flags.rf = false ∧ ∃ i, i < 4 ∧ bpEnabled s.dr7 i = true ∧ s.bpExecutes i = true := by
  unfold State.breakpointMet
  rw [Bool.and_eq_true, Bool.not_eq_true', fourBits_and_ne_zero]
  refine and_congr_right' (exists_congr fun i => and_congr_right fun hi => ?_)
  rw [enabledBits_getLsbD _ hi, s.execHits_getLsbD hi]

/-! What a data access meets (R112, R1121). -/

/-- Two runs of bytes overlap where the start of one lies in the other. -/
theorem bpOverlaps_iff {bp la : Word} {len nb : Nat} (hl : 0 < len) (hl4 : len ≤ 4) (hn : 0 < nb) (hn4 : nb ≤ 4) :
    bpOverlaps bp len la nb = true ↔
      ∃ j k, j < len ∧ k < nb ∧ (bp &&& ~~~ BitVec.ofNat 32 (len - 1)) + BitVec.ofNat 32 j = la + BitVec.ofNat 32 k := by
  unfold bpOverlaps
  generalize bp &&& ~~~ BitVec.ofNat 32 (len - 1) = a
  rw [Bool.or_eq_true, decide_eq_true_iff, decide_eq_true_iff]
  constructor
  · rintro (h | h)
    · refine ⟨_, 0, h, hn, ?_⟩
      rw [BitVec.ofNat_toNat, BitVec.setWidth_eq, BitVec.add_comm a, BitVec.sub_add_cancel]
      exact (BitVec.add_zero la).symm
    · refine ⟨0, _, hl, h, ?_⟩
      rw [BitVec.ofNat_toNat, BitVec.setWidth_eq, BitVec.add_comm la, BitVec.sub_add_cancel]
      exact BitVec.add_zero a
  · rintro ⟨j, k, hj, hk, h⟩
    have hsum := congrArg BitVec.toNat h
    simp only [BitVec.toNat_add, BitVec.toNat_ofNat] at hsum
    rw [BitVec.toNat_sub, BitVec.toNat_sub]
    have := a.isLt
    have := la.isLt
    omega

/-- With the defined codes a breakpoint is met by the accesses its R/W field names that overlap its bytes (R112). -/
theorem State.bpMet_iff (s : State) {i nb : Nat} (la : Word) (write : Bool) (hn : 0 < nb) (hn4 : nb ≤ 4) (hrw : bpRW s.dr7 i ≠ 2)
    (hlen : bpLen s.dr7 i ≠ 2) :
    let size := if bpLen s.dr7 i = 0 then 1 else if bpLen s.dr7 i = 1 then 2 else 4
    s.bpMet i la nb write = true ↔ ((bpRW s.dr7 i = 1 ∧ write = true) ∨ bpRW s.dr7 i = 3) ∧
      ∃ j k, j < size ∧ k < nb ∧
        (s.bpAddr i &&& ~~~ BitVec.ofNat 32 (size - 1)) + BitVec.ofNat 32 j = la + BitVec.ofNat 32 k := by
  intro size
  have hsize : 0 < size ∧ size ≤ 4 := by
    show 0 < (if _ then 1 else if _ then 2 else 4) ∧ (if _ then 1 else if _ then 2 else 4) ≤ 4
    split
    · omega
    · split <;> omega
  rw [← bpOverlaps_iff hsize.1 hsize.2 hn hn4]
  have hmet : s.bpMet i la nb write = (match bpRW s.dr7 i with
      | 0 => false
      | 1 => write && bpOverlaps (s.bpAddr i) size la nb
      | 2 => Config.breakpointUndefined s.accessIdx i
      | _ => bpOverlaps (s.bpAddr i) size la nb) := by
    have hlt : bpLen s.dr7 i < 4 := (s.dr7.extractLsb' (18 + 4 * i) 2).isLt
    show State.bpMet s i la nb write = _
    unfold State.bpMet
    simp only [size]
    generalize bpLen s.dr7 i = l at *
    interval_cases l
    · rfl
    · rfl
    · exact absurd rfl hlen
    · rfl
  rw [hmet]
  have hlt : bpRW s.dr7 i < 4 := (s.dr7.extractLsb' (16 + 4 * i) 2).isLt
  generalize bpRW s.dr7 i = r at *
  interval_cases r
  · simp
  · simp
  · exact absurd rfl hrw
  · simp

/-! The acknowledgement of INTR (R1081). -/

theorem acknowledge_nil (hb : s.bus = []) : acknowledge s = .ok () { s with cycles := .intAckSecond :: .intAckFirst :: s.cycles } := by
  unfold acknowledge
  rw [M.bind_of_ok (busTurn_nil hb), M.modify_bind]
  exact M.bind_of_ok (cycleTurn_nil (s := s.noteCycle .intAckFirst) hb)

/-! The boundary (R1054). -/

/-- With no event of the environment and none of the prefixes read, a processor that waits for nothing comes to a boundary. -/
theorem step_eq_boundary (hc : s.pfx.count = 0) (he : s.stimuli = []) (hr : s.run ≠ .stalled) : step s = freshen s.boundary := by
  unfold step State.cycle
  rw [if_neg hr, if_pos hc, he]

theorem State.boundary_of_escDue {x : Exc} (hr : s.run ≠ .shutdown) (hx : s.escDue = some x) : s.boundary = s.takeEscDue x := by
  unfold State.boundary
  rw [if_neg hr, hx]

theorem State.boundary_ordinary (hr : s.run ≠ .shutdown) (hx : s.escDue = none) : s.boundary = s.ordinary := by
  unfold State.boundary
  rw [if_neg hr, hx]

section
variable (ht : (s.trapPending && !s.inhibit) = false)
include ht

theorem State.ordinary_nmi (hn : s.nmiReady = true) : s.ordinary = maskIntr (deliver nmiEvent s.eip s.takeNmi) := by
  unfold State.ordinary
  rw [ht, hn]
  rfl

variable (hn : s.nmiReady = false)
include hn

theorem State.ordinary_intr (hi : s.intrReady = true) : s.ordinary = s.takeIntr := by
  unfold State.ordinary
  rw [ht, hn, hi]
  rfl

variable (hi : s.intrReady = false)
include hi

theorem State.ordinary_halted (hh : s.run = .halted) : s.ordinary = .next s := by
  unfold State.ordinary
  rw [ht, hn, hi, if_pos hh]
  rfl

theorem State.ordinary_running (hh : s.run = .running) : s.ordinary = s.proceed := by
  unfold State.ordinary
  rw [ht, hn, hi, hh]
  rfl

end

theorem State.ordinary_trap (ht : (s.trapPending && !s.inhibit) = true) : s.ordinary = s.debugTrap := by
  unfold State.ordinary
  rw [if_pos ht]

theorem State.takeIntr_of_acknowledge (ha : acknowledge s = .ok () t) :
    s.takeIntr = deliver { vector := t.pins.intaVector, kind := .intr, code := none } t.eip t := by
  unfold State.takeIntr
  rw [ha]

theorem State.proceed_of_met (h : s.breakpointMet = true) : s.proceed = s.debugFault := if_pos h

theorem State.proceed_of_unmet (h : s.breakpointMet = false) : s.proceed = s.settle.runNext := if_neg (by simp [h])

/-- After a load of SS or a set IF nothing of the boundary is recognised (R1086). -/
theorem State.inhibited (h : s.inhibit = true) :
    (s.trapPending && !s.inhibit) = false ∧ s.nmiReady = false ∧ s.intrReady = false := by
  unfold State.nmiReady State.intrReady
  simp [h]

/-- Settles O51: the boundary by its branches in their order, and a data access by the breakpoints. -/
theorem boundaryOrder : Obligations.BoundaryOrder := by
  refine ⟨fun s hc he hsd hst => ⟨fun x hx => ?esc, fun hx => ?ordinary, fun _ => rfl⟩, fun s la nb write hn hn4 => ?data⟩
  case esc =>
    intro event
    rw [step_eq_boundary hc he hst, State.boundary_of_escDue hsd hx]
    unfold State.takeEscDue
    exact ⟨fun hcmd => by rw [hcmd]; rfl, fun c hcmd => by rw [hcmd]; rfl⟩
  case ordinary =>
    intro trap enabled here
    rw [step_eq_boundary hc he hst, State.boundary_ordinary hsd hx]
    refine ⟨fun ht => ?_, fun ht hnmi => ?_, fun ht hnmi hi => ⟨fun t ha => ?_, acknowledge_nil⟩, fun ht hnmi hi hh => ?_,
      fun ht hnmi hi hh => ⟨fun hrf hmet => ⟨s.execHits, fun i hi => ?_, ?_⟩, fun hunmet => ?_⟩, State.inhibited⟩
    · rw [State.ordinary_trap ht]
      rfl
    · rw [State.ordinary_nmi ht hnmi]
      rfl
    · rw [State.ordinary_intr ht hnmi hi, State.takeIntr_of_acknowledge ha]
    · rw [State.ordinary_halted ht hnmi hi hh]
      rfl
    · rw [s.execHits_getLsbD hi]
      exact s.bpExecutes_iff hi
    · obtain ⟨i, hi4, hen, hhere⟩ := hmet
      rw [State.ordinary_running ht hnmi hi hh,
        State.proceed_of_met (s.breakpointMet_iff.mpr ⟨hrf, i, hi4, hen, (s.bpExecutes_iff hi4).mpr hhere⟩)]
      rfl
    · have hnone : s.breakpointMet = false := by
        refine Bool.eq_false_iff.mpr fun h => ?_
        obtain ⟨hrf, i, hi4, hen, hex⟩ := s.breakpointMet_iff.mp h
        rcases hunmet with hset | hnot
        · simp [hset] at hrf
        · exact hnot i hi4 hen ((s.bpExecutes_iff hi4).mp hex)
      rw [State.ordinary_running ht hnmi hi hh, State.proceed_of_unmet hnone]
  case data =>
    intro enabled rw len size from_ met t
    have hmet (i : Nat) (hi : i < 4) (hrw : rw i ≠ 2) (hlen : len i ≠ 2) : s.bpMet i la nb write = true ↔ met i := by
      have h := s.bpMet_iff la write hn hn4 ((bpRW_eq s.dr7 i).trans_ne hrw) ((bpLen_eq s.dr7 i).trans_ne hlen)
      rw [bpRW_eq, bpLen_eq, s.bpAddr_eq hi] at h
      exact h
    refine ⟨rfl, fun i hi hrw hlen => ?_, fun hdef => ?_⟩
    · rw [← hmet i hi hrw hlen, ← s.bpHits_getLsbD la nb write hi, ← Bool.or_eq_true, ← BitVec.getLsbD_or]
      rfl
    · have hfire : t.pend.fire = (s.pend.fire || (s.bpHits la nb write &&& enabledBits s.dr7) != 0) := rfl
      rw [hfire, Bool.or_eq_true, fourBits_and_ne_zero]
      refine or_congr_right (exists_congr fun i => and_congr_right fun hi => ?_)
      rw [enabledBits_getLsbD _ hi, s.bpHits_getLsbD la nb write hi, hmet i hi (hdef i hi).1 (hdef i hi).2]
      rfl

end Sys2Proof.Machine
end

-- ==== Proofs: MOV to and from the control, debug and test registers ====
section
/-!
PROOFS. The moves of 49_system.md R955 to R960 at CPL 0: the registers as a write leaves them, what the queues keep of the old translation and
mode, and the exception of DR7.GD.
-/
namespace Sys2Proof.Machine

open Sys2Proof

variable {s : State} {r : Reg} {c : CReg} {d : DReg} {x : TReg}

/-! A body that begins with the check of the level. -/

theorem instr_atCpl0 {body : M Unit} {t : State} (hl : s.pfx.lock = false) (hpriv : s.pe = false ∨ (s.prot = true ∧ s.cpl = 0))
    (h : body s = .ok () t) : instr (requireCpl0 >>= fun _ => body) s = .next t.complete :=
  instr_ok hl ((M.bind_of_ok (requireCpl0_of_privileged hpriv)).trans h)

/-! The control registers. -/

theorem State.keepMode_record (s : State) (v : Word) :
    s.keepMode v = { s with queuedMode := if s.cr0.getLsbD 0 = v.getLsbD 0 then s.queuedMode else some s.prot } := by
  unfold State.keepMode
  split <;> rfl

/-- CR0 as a MOV leaves it, with the TLB and the queues where PG or PE changes (22_paging.md R481, R484; 70_reset_and_hazards.md R1220). -/
theorem State.setCreg_cr0 (s : State) (v : Word) : s.setCreg .cr0 v = { s with
    cr0 := if s.platform.cr0Bit4Writable then v else v ||| 0x10
    tlb := if s.cr0.getLsbD 31 = v.getLsbD 31 then s.tlb else []
    queued := if s.cr0.getLsbD 31 = v.getLsbD 31 then s.queued else s.readAhead ++ s.queued
    queuedMode := if s.cr0.getLsbD 0 = v.getLsbD 0 then s.queuedMode else some s.prot } := by
  by_cases hpg : s.cr0.getLsbD 31 = v.getLsbD 31
  · simp only [State.setCreg, State.keepMode_record, if_pos hpg]
    rfl
  · simp only [State.setCreg, State.keepMode_record, if_neg hpg]
    rfl

theorem State.setCreg_cr3 (s : State) (v : Word) : s.setCreg .cr3 v = { s with
    cr3 := v &&& 0xFFFFF000, tlb := [], queued := if s.pg then s.readAhead ++ s.queued else s.queued } := by
  unfold State.setCreg
  cases s.pg <;> rfl

theorem moveToCr_ok (hpriv : s.pe = false ∨ (s.prot = true ∧ s.cpl = 0)) (hbad : badCr0 c (s.regs.get r) = false)
    (hready : s.leavesUnready c (s.regs.get r) = false) :
    moveToCr c r s = .ok () ((s.setCreg c (s.regs.get r)).undefFlags).advance := by
  refine (M.bind_of_ok (requireCpl0_of_privileged hpriv)).trans ((M.get_bind _ s).trans ((M.check_bind hbad).trans ?_))
  rw [hready]
  rfl

theorem moveToCr_bad (hpriv : s.pe = false ∨ (s.prot = true ∧ s.cpl = 0)) (hbad : badCr0 c (s.regs.get r) = true) :
    moveToCr c r s = .error (.exc ⟨13, some 0⟩ false) s :=
  (M.bind_of_ok (requireCpl0_of_privileged hpriv)).trans ((M.get_bind _ s).trans (M.check_fail hbad))

theorem moveToCr_unready (hpriv : s.pe = false ∨ (s.prot = true ∧ s.cpl = 0)) (hbad : badCr0 c (s.regs.get r) = false)
    (hready : s.leavesUnready c (s.regs.get r) = true) : moveToCr c r s = .error (.refuse .realCaches) s := by
  refine (M.bind_of_ok (requireCpl0_of_privileged hpriv)).trans ((M.get_bind _ s).trans ((M.check_bind hbad).trans ?_))
  rw [hready]
  rfl

theorem badCr0_cr0 (v : Word) : badCr0 .cr0 v = true ↔ v.getLsbD 31 = true ∧ v.getLsbD 0 = false := by
  simp [badCr0]

theorem State.leavesUnready_cr0 (s : State) (v : Word) :
    s.leavesUnready .cr0 v = true ↔ s.pe = true ∧ v.getLsbD 0 = false ∧ s.realReady = false := by
  simp [State.leavesUnready, and_assoc]

/-- What the queues have read through an entry of the TLB is among what they keep (22_paging.md R484). -/
theorem State.mem_readAhead_of_tlb {e : TlbEntry} {a : Word} (hpg : s.pg = true) (he : e ∈ s.tlb)
    (hp : permits e.us e.rw false s.user = true) (ha : a ∈ s.queueWindow) (hpage : pageOf a = e.vpn) :
    (a.toNat, s.byte (s.physKey (e.frame ++ a.extractLsb' 0 12))) ∈ s.readAhead := by
  unfold State.readAhead
  rw [if_pos hpg]
  exact List.mem_append_left _ (List.mem_flatMap.mpr ⟨e, he, State.mem_readThrough.mpr ⟨hp, a, ha, hpage, rfl, List.mem_cons_self⟩⟩)

/-! The debug registers. -/

theorem debugAccess_ok (hgd : s.gd = false) : debugAccess s = .ok () s := by
  unfold debugAccess
  rw [M.get_bind, hgd]
  rfl

/-- The state in which the exception of GD is delivered. -/
def State.debugGuarded (s : State) : State :=
  { s with dr6 := s.dr6 ||| 0x2000 ||| s.execHits.setWidth 32, dr7 := s.dr7 &&& ~~~ 0x2000 }

theorem debugAccess_guarded (hgd : s.gd = true) : debugAccess s = .error (.exc ⟨1, none⟩ false) s.debugGuarded := by
  unfold debugAccess
  rw [M.get_bind, hgd]
  rfl

/-- DR6 and DR7 are kept where the instruction is undone. -/
theorem State.rollback_debugGuarded (s : State) : s.rollback s.debugGuarded = s.debugGuarded := rfl

theorem instr_guarded {body : M Unit} (hl : s.pfx.lock = false) (hpriv : s.pe = false ∨ (s.prot = true ∧ s.cpl = 0)) (hgd : s.gd = true) :
    instr (requireCpl0 >>= fun _ => debugAccess >>= fun _ => body) s =
      deliver { vector := 1, kind := .fault, code := none } s.eip s.debugGuarded := by
  have hraised : (requireCpl0 >>= fun _ => debugAccess >>= fun _ => body) s = .error (.exc ⟨1, none⟩ false) s.debugGuarded :=
    (M.bind_of_ok (requireCpl0_of_privileged hpriv)).trans (M.bind_of_error (debugAccess_guarded hgd))
  rw [instr_error hl hraised, takeException_undone, State.rollback_debugGuarded]
  rfl

theorem State.dreg_setDreg (s : State) (d : DReg) (v : Word) : (s.setDreg d v).dreg d = v := by
  cases d <;> rfl

/-! The test registers. -/

theorem moveToTr_ok (hpriv : s.pe = false ∨ (s.prot = true ∧ s.cpl = 0)) (hpg : s.pg = false) :
    moveToTr x r s = .ok () ((s.setTreg x (s.regs.get r)).undefFlags).advance := by
  refine (M.bind_of_ok (requireCpl0_of_privileged hpriv)).trans ((M.get_bind _ s).trans ?_)
  rw [hpg]
  rfl

/-- Settles O57, register by register. -/
theorem specialRegisterMoves : Obligations.SpecialRegisterMoves := by
  intro s r hl hpriv v done
  refine ⟨fun hbad hready => ?cr0, fun hpg hpe hs hr => ?unready, fun hpg hpe => ?bad, ?cr2, ?cr3,
    fun hpg e he hp a ha hpage => State.mem_readAhead_of_tlb hpg he hp ha hpage, fun c => ?fromCr,
    fun hgd d => ⟨?toDr, ?fromDr, s.dreg_setDreg d v⟩, fun hgd => ⟨s.execHits, fun i hi => ?hits, fun d i hi => ?guarded⟩,
    fun x => ⟨?fromTr, fun hpg => ?toTr⟩⟩
  case cr0 =>
    rw [← s.setCreg_cr0 v]
    refine instr_ok hl (moveToCr_ok hpriv (Bool.eq_false_iff.mpr fun h => hbad ((badCr0_cr0 v).mp h)) (Bool.eq_false_iff.mpr fun h => ?_))
    obtain ⟨hpe, hv, hnot⟩ := (s.leavesUnready_cr0 v).mp h
    simp [hready hpe hv] at hnot
  case unready =>
    have hgood : badCr0 .cr0 v = false := Bool.eq_false_iff.mpr fun h => by rw [((badCr0_cr0 v).mp h).1] at hpg; cases hpg
    exact (instr_of_noLock hl).trans
      (perform_refuse (moveToCr_unready hpriv hgood ((s.leavesUnready_cr0 v).mpr ⟨hs, hpe, hr⟩)))
  case bad => exact instr_gp0 hl (moveToCr_bad hpriv ((badCr0_cr0 v).mpr ⟨hpg, hpe⟩))
  case cr2 => exact instr_ok hl (moveToCr_ok (c := .cr2) hpriv rfl rfl)
  case cr3 =>
    rw [← s.setCreg_cr3 v]
    exact instr_ok hl (moveToCr_ok (c := .cr3) hpriv rfl rfl)
  case fromCr => cases c <;> exact instr_atCpl0 hl hpriv rfl
  case toDr => exact instr_atCpl0 hl hpriv (M.bind_of_ok (debugAccess_ok hgd))
  case fromDr => exact instr_atCpl0 hl hpriv (M.bind_of_ok (debugAccess_ok hgd))
  case hits =>
    rw [s.execHits_getLsbD hi]
    exact s.bpExecutes_iff hi
  case guarded =>
    rcases List.mem_pair.mp hi with rfl | rfl <;> exact instr_guarded hl hpriv hgd
  case fromTr => cases x <;> exact instr_atCpl0 hl hpriv rfl
  case toTr => cases x <;> exact instr_ok hl (moveToTr_ok hpriv hpg)

end Sys2Proof.Machine
end
